-- ==== Sys2Proof/Word.lean ====
section
/-! DEFINITION. The byte, the sequence of bytes and the four-class vector: the plainest data types of the model. -/

namespace Sys2Proof

/-- One byte of the link or of the local port. -/
abbrev Byte := BitVec 8

/-- A run of bytes in the order they are sent (chapter Formats). -/
abbrev Bytes := List Byte

/-- One amount or rate for each of the tax classes 0..3. -/
structure ClassVec where
  c0 : Nat
  c1 : Nat
  c2 : Nat
  c3 : Nat
deriving DecidableEq, Repr

end Sys2Proof
end

