-- ==== Sys2Proof/Syntax.lean ====
section
/-! DEFINITION. The commands and events of the block: one constructor of `Instr` for each row of spec/opcode_table.json.
Parameters of local commands are the numbers their encoded fields hold (chapter Formats, Field Encoding), so that a value outside
its range can be written down and be refused by the command's own rule (R180). -/

namespace Sys2Proof

/-- The two lanes of the concourse link (R145). -/
inductive Lane where
  | A
  | B
deriving DecidableEq, Repr

/-- One line offered in an Add (R8): prep 0..7, or 8 for NONE; rush 0 or 1. -/
structure LineReq where
  item : Nat
  price : Nat
  qty : Nat
  tax : Nat
  prep : Nat
  rush : Nat
  mods : List Nat
deriving DecidableEq, Repr

/-- One entry of a split's assignment list (R23): a line number and the coded sharer set. -/
structure SplitEntry where
  line : Nat
  sharers : Byte
deriving DecidableEq, Repr

/-- The parameters of Configure in the order of the chapter Formats: seven always present, ten that may be absent. -/
structure ConfigReq where
  roles : Byte
  prep : Byte
  rates : ClassVec
  rounding : Nat
  interval : Option Nat
  lockCount : Option Nat
  claimHold : Option Nat
  fireLimit : Option Nat
  autoFire : Option Nat
  holdMark : Option Nat
  releaseMark : Option Nat
  warnTime : Option Nat
  lateTime : Option Nat
  collectTimeout : Option Nat
deriving DecidableEq, Repr

/-- The rows of spec/opcode_table.json, in the table's order. -/
inductive Instr where
  | resetAsserted
  /-- `straps`: the number STN6..STN0 give as reset ends. -/
  | resetEnd (straps : Nat)
  | periodPinEdge
  | periodLockoutExpiry
  /-- `pdi`: the whole bytes the processor shifted in before PSEL rose; as many bytes were shifted out. -/
  | portTransaction (pdi : Bytes)
  | status
  | nextNotice
  /-- `mask`: bit 0 LINK, bit 1 MONEY, bit 2 KITCHEN, bit 3 PEERS. -/
  | setAttention (mask : Byte)
  | readPage (offset : Nat) (length : Nat)
  | configure (req : ConfigReq)
  | loopbackOn
  | loopbackOff
  | join
  /-- `lane`: 0 names A, 1 names B. -/
  | laneRestart (lane : Nat)
  | test (dest : Nat) (payload : Bytes)
  | openTab (label : Bytes)
  | add (home : Nat) (tab : Nat) (lines : List LineReq) (send : Nat)
  | send (tab : Nat)
  | lineVoid (home : Nat) (tab : Nat) (line : Nat)
  | tabVoid (tab : Nat)
  | release (tab : Nat)
  | query (home : Nat) (tab : Nat)
  | readTab (tab : Nat)
  | split (home : Nat) (tab : Nat) (count : Nat) (entries : List SplitEntry)
  | withdraw (home : Nat) (tab : Nat)
  | claim (home : Nat) (tab : Nat) (share : Nat)
  | settle (home : Nat) (tab : Nat) (share : Nat) (tender : Nat)
  | releaseShare (home : Nat) (tab : Nat) (share : Nat)
  | readClaims
  | markPeriod
  | readCapture (slot : Nat)
  | releaseCapture (slot : Nat)
  | readPeers
  | retry (ticket : Nat)
  | refresh (ticket : Nat)
  | abandon (ticket : Nat)
  | readTickets
  | fire (ref : Nat)
  | ready (ref : Nat)
  | collect (ref : Nat)
  | kitchenVoid (ref : Nat) (lines : List Nat)
  | readQueue
  | nextNew
  | load (item : Nat) (count : Nat) (low : Nat)
  | refill (item : Nat) (count : Nat)
  | reloadToPreset (item : Nat)
  | recount (item : Nat) (counted : Nat)
  | remove (item : Nat)
  | readPortions (item : Option Nat)
  | readStockView
  | laneActivity (lane : Lane)
  | laneFrameStart (lane : Lane)
  /-- `bits`: what the lane carried from the sync pattern on, in the order sent (chapter Formats, Frame Start). -/
  | laneFrameEnd (lane : Lane) (bits : List Bool)
  | laneSilenceExpiry (lane : Lane)
  | laneStuck (lane : Lane)
  | laneRecessive (lane : Lane)
  /-- `lane`: the lane whose accepted frame opened the window. -/
  | twinWindowExpiry (lane : Lane)
  | beaconFrame
  | periodFrame
  | stockFrame
  | addFrame
  | lineVoidFrame
  | tabQueryFrame
  | splitFrame
  | withdrawFrame
  | claimFrame
  | settleFrame
  | releaseFrame
  | claimEndFrame
  | ticketFrame
  | ticketVoidFrame
  | ticketQueryFrame
  | ticketStateFrame
  | testFrame
  | answerFrame
  | exchangeTimeout (tag : Nat)
  | splitCompletion
  | holdTimerExpiry (tab : Nat) (share : Nat)
  | localExpiry (home : Nat) (tab : Nat) (share : Nat)
  | silenceTimerExpiry (station : Nat)
  | intervalTimerExpiry
  | holdOffExpiry
  | joinWindowExpiry
  | isolationTimerExpiry
  | warnTimerExpiry (ref : Nat)
  | lateTimerExpiry (ref : Nat)
  | collectTimerExpiry (ref : Nat)
  | transmitStart
  | arbitrationLost
  | transmitFault
  | transmitComplete
deriving DecidableEq, Repr

end Sys2Proof
end

