-- ==== Sys2Proof/Decode.lean ====
section
/-! DEFINITION. The command a table word spells. No row of spec/opcode_table.json has bits, so no word spells one; the commands the
local port takes as bytes are read by `Machine.parseCommand`, and the frames a lane carries by `Machine.receive`. -/

namespace Sys2Proof

/-- The command that the word `w` of `nbits` bits spells by the table's bits: none for every word. -/
def decodeTableWord (_nbits _w : Nat) : Option Instr := none

end Sys2Proof
end

