-- ==== Sys2Proof/Config.lean ====
section
/-! DEFINITION. What is fixed for every CX-620 (capacities, durations, limits), and the two values the spec leaves unstated, as
opaque constants. Durations are in milliseconds. -/

namespace Sys2Proof.Config

/-- Tab store capacity (R1). -/
def tabCapacity : Nat := 64
/-- Lines a tab may hold (R4). -/
def lineCapacity : Nat := 48
/-- Lines one Add may offer, and one ticket may carry (R8, R77). -/
def groupCapacity : Nat := 8
/-- Claims list capacity (R46). -/
def claimCapacity : Nat := 8
/-- Peer directory capacity (R61). -/
def peerCapacity : Nat := 64
/-- Home ticket list capacity (R77). -/
def ticketCapacity : Nat := 96
/-- Void queue capacity (R90). -/
def voidCapacity : Nat := 16
/-- Offers made before a record becomes UNROUTED (R84). -/
def maxAttempts : Nat := 3
/-- Kitchen queue capacity (R97). -/
def kitchenCapacity : Nat := 48
/-- Portion table capacity (R118). -/
def portionCapacity : Nat := 64
/-- The most portions an entry's remaining count holds (R119). -/
def portionLimit : Nat := 9999
/-- Stock view capacity (R129). -/
def stockCapacity : Nat := 32
/-- Transmit queue slots, and the part of them open to classes 1..3 (R153). -/
def txCapacity : Nat := 24
/-- The most frames of class 1..3 the transmit queue holds (R153). -/
def txLowCapacity : Nat := 20
/-- Receive queue capacity (R152). -/
def rxCapacity : Nat := 16
/-- Exchange table capacity (R165). -/
def exchangeCapacity : Nat := 8

/-- The end of an unsigned 4-byte range (R55, R72, R119). -/
def max32 : Nat := 4294967295
/-- The end of the signed range of the rounding sum and of adjust (R55, R119). -/
def maxSigned : Nat := 2147483647
/-- The highest tax rate, in basis points (R135). -/
def maxRate : Nat := 2500
/-- The highest period number (R56). -/
def maxPeriod : Nat := 99

/-- Debounce lockout of the PERIOD pin (R56). -/
def lockoutMs : Nat := 2000
/-- Exchange timeout (R165). -/
def exchangeMs : Nat := 300
/-- Join window (R138). -/
def joinWindowMs : Nat := 4000
/-- Isolation timer (R140). -/
def isolationMs : Nat := 1000
/-- Lane silence timer (R147). -/
def laneSilenceMs : Nat := 5000
/-- Hold-off between beacons (R75). -/
def holdOffMs : Nat := 100
/-- Silence timer of an entry that has heard no beacon: four times 2000 ms (R63). -/
def unknownSilenceMs : Nat := 8000
/-- The lock count before Configure (R147). -/
def defaultLockCount : Nat := 2
/-- Malformed frames in a row that move a LOCKED receiver to HUNT (R147). -/
def lossRun : Nat := 4

/-- How deep one event's hand-offs between this station's own router and its own kitchen may nest. Each further level takes a ticket
out of the 48-place kitchen queue or ends one fixed list of reports, so a run never reaches the bound (log entry 21). -/
def handoffDepth : Nat := 120

/-- The count byte of a list of more than 255 entries (a tab may hold 384 refund entries, R54): the general encoding gives one byte
and the spec does not say what it then holds (log entry 30). -/
opaque longListCount : Nat → Byte

/-- The single result STRAY_VOIDED carries when the lines of a whole-ticket void were answered with different results, or with none:
R91 names RETURNED, WASTED and UNKNOWN and does not say which is given then (log entry 31). -/
opaque strayMixedResult : List Nat → Byte

end Sys2Proof.Config
end

