-- ==== Sys2Proof/Machine/State.lean ====
section
/-! DEFINITION. The state of the block as plain data: every record, list, queue, counter, flag, timer and pin level that the spec
gives it, the queue of waiting commands, and the state right after reset (R133). -/

namespace Sys2Proof.Machine

/-- A timer: none while stopped, or the milliseconds left to run. At 0 it is due, and its expiry event may be taken. -/
abbrev Timer := Option Nat

/-! ## Codes -/

/-- The result codes, in the order of the introduction, which fixes their code numbers (chapter Formats). -/
inductive Result where
  | OK | STARTED | CLAMPED | BAD_PARAM | BAD_STATION | CONFIG_LOCKED | STATE | BUSY | LINK_DOWN | LINK_BUSY
  | NO_ANSWER | HOME_LOST | KITCHEN_LOST | NOT_SERVED | NO_TAB | TABS_FULL | TAB_FULL | TAB_SPLIT | TAB_CLOSED | NO_LINES
  | BAD_LINE | BAD_SHARE | SOLD_OUT | REDO | CLAIMED | GRANTED | HELD_BY | SETTLED | NOT_CLAIMANT | CLAIM_LOST
  | TICKETS_OPEN | TICKETS_FULL | FULL | FIRE_LIMIT | ACCEPT | RETURNED | WASTED | UNKNOWN | HELD | NO_ENTRY
deriving DecidableEq, Repr

/-- The seven station states, in the order of the tables of R134. -/
inductive StationState where
  | offline | configured | loopback | joining | online | isolated | duplicate
deriving DecidableEq, Repr

/-- The two roles a station may hold (chapter Introduction). -/
inductive Role where
  | till | kitchen
deriving DecidableEq, Repr

/-! ## Tab store (R1 to R6) -/

/-- Line states (R5). -/
inductive LineState where
  | new | pending | queued | fired | ready | collected | uncollected | unrouted | lost | handed | void | kvoid | refund
deriving DecidableEq, Repr

/-- Tab states (R3). -/
inductive TabState where
  | open | splitting | split | closed
deriving DecidableEq, Repr

/-- Outcome of a CLOSED tab (R3). -/
inductive TabOutcome where
  | paid | voided
deriving DecidableEq, Repr

/-- Tenders (chapter Introduction). -/
inductive Tender where
  | cash | card | voucher | none
deriving DecidableEq, Repr

/-- Share states (R38). -/
inductive ShareState where
  | available | claimed | settled
deriving DecidableEq, Repr

/-- A line record (R4). `prep` and `ticket` are absent for NONE and for a line not grouped; `sharers` is set only by a split. -/
structure Line where
  number : Nat
  item : Nat
  price : Nat
  qty : Nat
  tax : Nat
  prep : Option Nat
  rush : Bool
  mods : List Nat
  origin : Nat
  ticket : Option Nat
  sharers : Option (List Nat)
  state : LineState
deriving DecidableEq, Repr

/-- What a SETTLED share records (R31, R41). -/
structure Settlement where
  tender : Tender
  tendered : Nat
  station : Nat
deriving DecidableEq, Repr

/-- A share record (R31) with its hold timer (R39). -/
structure Share where
  number : Nat
  amount : Nat
  bases : ClassVec
  taxes : ClassVec
  state : ShareState
  claimant : Nat
  settlement : Option Settlement
  hold : Timer
deriving DecidableEq, Repr

/-- One line's allocations to shares 1..N, in share order (R28). -/
structure Alloc where
  line : Nat
  amounts : List Nat
deriving DecidableEq, Repr

/-- The split of a tab (R3, R31). -/
structure SplitRec where
  count : Nat
  shares : List Share
  total : Nat
  allocs : List Alloc
deriving DecidableEq, Repr

/-- A refund entry (R54). -/
structure Refund where
  line : Nat
  share : Nat
  amount : Nat
  settled : Bool
  tender : Tender
  station : Nat
deriving DecidableEq, Repr

/-- A tab record (R3). -/
structure Tab where
  number : Nat
  label : Bytes
  state : TabState
  outcome : Option TabOutcome
  opened : Nat
  lines : List Line
  bases : ClassVec
  total : Nat
  split : Option SplitRec
  refunds : List Refund
deriving DecidableEq, Repr

/-! ## Split engine (R25) -/

/-- Where a split's result goes (R25). -/
inductive Requester where
  | local
  | remote (station : Nat) (tag : Nat)
deriving DecidableEq, Repr

/-- One input line of the engine. `named` says that the assignment list named the line, so that the strike sets its sharer set (R31). -/
structure EngineLine where
  line : Nat
  amount : Nat
  tax : Nat
  sharers : List Nat
  named : Bool
deriving DecidableEq, Repr

/-- The engine's record while COMPUTING (R25). -/
structure EngineJob where
  tab : Nat
  requester : Requester
  stale : Bool
  count : Nat
  input : List EngineLine
deriving DecidableEq, Repr

/-! ## Takings unit (R46, R55 to R60) -/

/-- States of a claims list entry (R46). -/
inductive ClaimState where
  | held | settling | releasing | ended
deriving DecidableEq, Repr

/-- Why a claim ended (R46, R49). -/
inductive EndReason where
  | expired | cancelled
deriving DecidableEq, Repr

/-- A claims list entry (R46). -/
structure ClaimEntry where
  home : Nat
  tab : Nat
  share : Nat
  amount : Nat
  expiry : Timer
  state : ClaimState
  reason : Option EndReason
deriving DecidableEq, Repr

/-- A saturating unsigned accumulator with its SATURATED flag (R55). -/
structure Acc where
  value : Nat
  saturated : Bool
deriving DecidableEq, Repr

/-- The rounding sum with its SATURATED flag (R55). -/
structure SignedAcc where
  value : Int
  saturated : Bool
deriving DecidableEq, Repr

/-- The accumulators of the takings unit (R55). -/
structure Accums where
  cashCount : Acc
  cashAmount : Acc
  cardCount : Acc
  cardAmount : Acc
  voucherCount : Acc
  voucherAmount : Acc
  rounding : SignedAcc
  linesVoided : Acc
  tabsClosed : Acc
  ticketsAccepted : Acc
  ticketsReadied : Acc
  ticketsVoided : Acc
  lateTickets : Acc
  wastePortions : Acc
deriving DecidableEq, Repr

/-- A capture record (R58). -/
structure Capture where
  first : Nat
  last : Nat
  deferred : Bool
  accums : Accums
deriving DecidableEq, Repr

/-- The takings unit but for the claims list: accumulators, period, slots (absent: FREE), span, deferral, pin lockout. -/
structure Takings where
  accums : Accums
  period : Nat
  spanStart : Nat
  deferral : Bool
  slot1 : Option Capture
  slot2 : Option Capture
  lockout : Timer
deriving DecidableEq, Repr

/-! ## Peer directory (R61 to R70) and own beacons (R72 to R75) -/

/-- Presence of a peer (R62). -/
inductive Presence where
  | present | lost
deriving DecidableEq, Repr

/-- The fields an entry holds only while its roles include KITCHEN (R62). -/
structure KitchenLoad where
  depth : Nat
  hold : Bool
  late : Nat
  placed : Nat
deriving DecidableEq, Repr

/-- A directory entry (R62). -/
structure Peer where
  station : Nat
  till : Bool
  kitchen : Bool
  prep : List Nat
  interval : Option Nat
  joinAge : Option Nat
  period : Option Nat
  presence : Presence
  silence : Timer
  load : Option KitchenLoad
  changed : Bool
deriving DecidableEq, Repr

/-- The peer directory: entries in ascending station number, the order in which LOST entries went LOST, the PEERS_FULL latch. -/
structure Directory where
  entries : List Peer
  lostOrder : List Nat
  full : Bool
deriving DecidableEq, Repr

/-- Own beacons: interval timer, hold-off, due mark, and whether a beacon of this life has been sent to its end (R73, R75). -/
structure BeaconUnit where
  interval : Timer
  holdOff : Timer
  due : Bool
  sent : Bool
deriving DecidableEq, Repr

/-! ## Ticket router (R77, R90) -/

/-- The kitchen state a PLACED record mirrors (R77). -/
inductive KState where
  | queued | fired | ready
deriving DecidableEq, Repr

/-- The state of a home ticket record, with the offered kitchen, or the placement and the mirrored kitchen state (R77). -/
inductive RecState where
  | pending
  | offered (kitchen : Nat)
  | placed (kitchen : Nat) (kstate : KState)
  | unrouted
deriving DecidableEq, Repr

/-- A home ticket record (R77). -/
structure Ticket where
  number : Nat
  tab : Nat
  prep : Nat
  rush : Bool
  lines : List Nat
  state : RecState
  attempts : Nat
  tried : List Nat
  stray : List Nat
deriving DecidableEq, Repr

/-- Purpose of a void request (R90). -/
inductive VoidPurpose where
  | till | stray
deriving DecidableEq, Repr

/-- A void queue entry (R90); an empty line list means the whole ticket. -/
structure VoidEntry where
  kitchen : Nat
  ticket : Nat
  tab : Nat
  lines : List Nat
  purpose : VoidPurpose
deriving DecidableEq, Repr

/-- The ticket router: list, ticket counter, void queue, offer pause. -/
structure Router where
  tickets : List Ticket
  counter : Nat
  voids : List VoidEntry
  pause : Bool
deriving DecidableEq, Repr

/-! ## Kitchen queue (R97 to R99) -/

/-- What became of a voided line's food (R98). -/
inductive VoidOutcome where
  | returned | wasted
deriving DecidableEq, Repr

/-- A ticket line at the kitchen (R98): ACTIVE while `void` is absent. -/
structure KLine where
  line : Nat
  item : Nat
  qty : Nat
  mods : List Nat
  void : Option VoidOutcome
  taken : Bool
deriving DecidableEq, Repr

/-- A kitchen ticket record (R98) with its timers. Its state is the list that holds it; `seq` is the model's acceptance order. -/
structure KTicket where
  ref : Nat
  home : Nat
  number : Nat
  orphan : Bool
  tab : Nat
  prep : Nat
  rush : Bool
  lines : List KLine
  accepted : Nat
  seq : Nat
  warn : Bool
  late : Bool
  unread : Bool
  warnTimer : Timer
  lateTimer : Timer
  collectTimer : Timer
deriving DecidableEq, Repr

/-- The kitchen queue: its three ordered lists (R99), the hold flag (R109), and the model's count of acceptances. -/
structure Kitchen where
  queued : List KTicket
  fired : List KTicket
  ready : List KTicket
  hold : Bool
  accepts : Nat
deriving DecidableEq, Repr

/-! ## Portion table (R119) and stock view (R129) -/

/-- Stock states (R120). -/
inductive StockState where
  | available | low | out
deriving DecidableEq, Repr

/-- A portion entry (R119); its stock state is worked out from remaining and low mark (R120). -/
structure Portion where
  item : Nat
  remaining : Nat
  held : Nat
  used : Nat
  loaded : Nat
  preset : Nat
  low : Nat
  waste : Nat
  adjust : Int
  resend : Bool
deriving DecidableEq, Repr

/-- A stock view entry (R129); its state is LOW or OUT. -/
structure StockEntry where
  item : Nat
  kitchen : Nat
  state : StockState
  remaining : Nat
  heard : Nat
deriving DecidableEq, Repr

/-! ## Lane front end, queues and exchange table (R145 to R166) -/

/-- Receiver states (R147). -/
inductive RxState where
  | down | hunt | locked | stuck
deriving DecidableEq, Repr

/-- Tag status of the lane pair (R149). -/
inductive TagStatus where
  | clear | crossed | miswiredA | miswiredB
deriving DecidableEq, Repr

/-- A lane receiver (R146 to R149). `window` is the merge's twin window opened by this lane's accepted frame, holding its check
(R150); `carrying` says that a peer's frame is under way on the lane (R155). -/
structure Receiver where
  state : RxState
  goodRun : Nat
  badRun : Nat
  errors : Nat
  tagSeen : Option Lane
  changed : Bool
  silence : Timer
  carrying : Bool
  window : Option Nat
deriving DecidableEq, Repr

/-- The lane front end: both receivers, LANE_DISAGREE (R150) and RX_OVERRUN (R152). -/
structure Link where
  a : Receiver
  b : Receiver
  disagree : Nat
  overrun : Bool
deriving DecidableEq, Repr

/-- A received frame by its parts (R145). -/
structure Frame where
  cls : Nat
  age : Nat
  source : Nat
  kind : Nat
  dest : Nat
  tag : Nat
  payload : Bytes
deriving DecidableEq, Repr

/-- A frame to be sent: the parts the asking block gives; class follows from the kind and source is this station (R145). -/
structure OutFrame where
  kind : Nat
  dest : Nat
  tag : Nat
  payload : Bytes
deriving DecidableEq, Repr

/-- A transmit slot (R153). The queued order is the slot's place in the queue. -/
structure Slot where
  frame : OutFrame
  age : Nat
  faults : Nat
  begun : Bool
  onWire : Bool
deriving DecidableEq, Repr

/-- The transmit scheduler: slots in queued order, the watched lanes of the frame on the wire (R155), TX_DROPPED (R154). -/
structure Transmit where
  slots : List Slot
  watched : List Lane
  dropped : Nat
deriving DecidableEq, Repr

/-- The block an exchange's outcome is handed to (R165); a void also keeps what its request named, for R91. -/
inductive Owner where
  | command
  | claims
  | offer
  | void (purpose : VoidPurpose) (tab : Nat) (lines : List Nat)
deriving DecidableEq, Repr

/-- An exchange table entry (R165): the subject is a tab or ticket number and a share, 0 where there is none. -/
structure ExchEntry where
  tag : Nat
  kind : Nat
  dest : Nat
  subject : Nat
  share : Nat
  owner : Owner
  timer : Timer
deriving DecidableEq, Repr

/-- The exchange table and its tag counter (R165). -/
structure Exchange where
  entries : List ExchEntry
  counter : Nat
deriving DecidableEq, Repr

/-! ## Local port (R172 to R177) -/

/-- An ANSWER frame read (R161), or the NO_ANSWER that stands in its place. -/
structure AnswerRec where
  source : Nat
  kind : Nat
  tag : Nat
  subject : Nat
  share : Nat
  result : Nat
  data : Bytes
deriving DecidableEq, Repr

/-- Why a record became UNROUTED (R84). -/
inductive UnroutedReason where
  | noCandidate | attempts
deriving DecidableEq, Repr

/-- Notices by kind, in the order of the table of R174, with the fields their posting rules name. -/
inductive Notice where
  | stationState (state : StationState) (number : Option Nat)
  | laneState (lane : Lane) (old : RxState) (new : RxState)
  | tagStatus (status : TagStatus)
  | txFaultDiscard (kind : Nat) (dest : Nat)
  | tabClosed (home : Nat) (tab : Nat) (outcome : TabOutcome)
  | splitStruck (tab : Nat) (count : Nat) (total : Nat) (shares : List (Nat × Bool)) (state : TabState)
  | splitRedo (home : Nat) (tab : Nat)
  | splitWithdrawn (home : Nat) (tab : Nat) (line : Nat) (total : Nat)
  | splitResult (answer : AnswerRec)
  | withdrawResult (answer : AnswerRec)
  | claimResult (answer : AnswerRec)
  | settleResult (answer : AnswerRec)
  | releaseResult (answer : AnswerRec)
  | claimLost (home : Nat) (tab : Nat) (share : Nat)
  | claimEnded (home : Nat) (tab : Nat) (share : Nat) (reason : EndReason)
  | refundDue (home : Nat) (tab : Nat) (line : Nat) (count : Nat) (sum : Nat)
  | periodCapture (slot : Nat) (first : Nat) (last : Nat) (deferred : Bool)
  | captureDeferred (period : Nat)
  | lateAnswer (answer : AnswerRec)
  | addResult (answer : AnswerRec)
  | lineVoidResult (answer : AnswerRec)
  | queryResult (answer : AnswerRec)
  | testResult (answer : AnswerRec)
  | refreshResult (answer : AnswerRec)
  | unrouted (ticket : Nat) (tab : Nat) (prep : Nat) (reason : UnroutedReason)
  | ticketReady (ticket : Nat) (tab : Nat)
  | ticketLost (ticket : Nat) (tab : Nat) (kitchen : Nat)
  | kitchenLost (kitchen : Nat) (count : Nat)
  | voidResult (ticket : Nat) (kitchen : Nat) (lines : List (Nat × Nat))
  | voidUnconfirmed (ticket : Nat) (kitchen : Nat) (lines : List Nat) (cause : Nat)
  | strayVoided (ticket : Nat) (kitchen : Nat) (result : Byte)
  | newTicket (ref : Nat) (home : Nat) (ticket : Nat) (rush : Bool) (position : Nat)
  | ticketWarn (ref : Nat) (home : Nat) (ticket : Nat) (warnTime : Nat)
  | ticketLate (ref : Nat) (home : Nat) (ticket : Nat)
  | ticketUncollected (ref : Nat) (home : Nat) (ticket : Nat)
  | kitchenHold (flag : Bool) (depth : Nat)
  | ticketsOrphaned (home : Nat) (count : Nat)
  | stockChange (item : Nat) (old : Option StockState) (new : Option StockState) (remaining : Nat)
  | portionLow (item : Nat) (remaining : Nat)
  | peerLost (station : Nat) (till : Bool) (kitchen : Bool)
  | peerReturned (station : Nat)
  | peerRejoined (station : Nat) (till : Bool) (kitchen : Bool) (joinAge : Nat)
  | peerEvicted (station : Nat)
  | peersFull (station : Nat)
deriving DecidableEq, Repr

/-- One flag for each notice level (R174). -/
structure Levels where
  link : Bool
  money : Bool
  kitchen : Bool
  peers : Bool
deriving DecidableEq, Repr

/-- The answer to a command: echoed command code, result, data (chapter Formats). -/
structure Answer where
  code : Nat
  result : Result
  data : Bytes
deriving DecidableEq, Repr

/-- The snapshot buffer's copy: its kind code and its bytes (R177). -/
structure Snapshot where
  kind : Nat
  bytes : Bytes
deriving DecidableEq, Repr

/-- The local port: pending answer, the command taken and not yet carried out (BUSY is high while there is one), the four notice
queues, overflow flags, attention mask, snapshot buffer, and the bytes PDO carried in the last transaction. -/
structure Port where
  answer : Option Answer
  taken : Option Instr
  link : List Notice
  money : List Notice
  kitchen : List Notice
  peers : List Notice
  overflow : Levels
  mask : Levels
  snapshot : Option Snapshot
  pdo : Bytes
deriving DecidableEq, Repr

/-! ## Station -/

/-- The values Configure sets (R135, R136). Times of the tab store and kitchen are in seconds, the beacon interval in milliseconds. -/
structure StationCfg where
  till : Bool
  kitchen : Bool
  prep : List Nat
  rates : ClassVec
  rounding : Nat
  interval : Nat
  lockCount : Nat
  claimHold : Nat
  fireLimit : Nat
  autoFire : Bool
  holdMark : Nat
  releaseMark : Nat
  warnTime : Nat
  lateTime : Nat
  collectTimeout : Nat
deriving DecidableEq, Repr

/-- The station: RESET level, number, state, running time and time online in milliseconds, join window and isolation timers. -/
structure Station where
  inReset : Bool
  number : Nat
  state : StationState
  clock : Nat
  online : Nat
  joinWindow : Timer
  isolation : Timer
deriving DecidableEq, Repr

/-- The whole block, and the queue of the commands that wait, first in, first out. -/
structure State where
  station : Station
  cfg : StationCfg
  tabs : List Tab
  engine : Option EngineJob
  claims : List ClaimEntry
  takings : Takings
  dir : Directory
  beacon : BeaconUnit
  router : Router
  kitchen : Kitchen
  portions : List Portion
  stock : List StockEntry
  link : Link
  tx : Transmit
  rx : List Frame
  exch : Exchange
  port : Port
  pending : List Instr
deriving DecidableEq, Repr

/-- No command of this block faults: the spec answers, discards or ignores whatever it cannot take (log entry 1). -/
inductive Fault where
deriving DecidableEq, Repr

/-- Why a command has no meaning. Safe: the machine stops where the hardware goes on. -/
inductive Refusal where
  /-- Raised by `exec` alone, for a command without a meaning in this model; no arm raises it now. Safe. -/
  | notModelled (mnemonic : String)
deriving DecidableEq, Repr

/-! ## Reset values (R133) -/

/-- An accumulator at zero (R55). -/
def Acc.zero : Acc := ⟨0, false⟩

/-- Every accumulator at zero with its SATURATED flag clear (R55). -/
def Accums.zero : Accums :=
  ⟨.zero, .zero, .zero, .zero, .zero, .zero, ⟨0, false⟩, .zero, .zero, .zero, .zero, .zero, .zero, .zero⟩

/-- A receiver after reset: DOWN, counts 0, no tag seen, flag clear (R133). -/
def Receiver.reset : Receiver :=
  ⟨.down, 0, 0, 0, none, false, none, false, none⟩

/-- The configuration cleared: no roles, no prep classes, no rates. The lock count is 2 (R147); the other values, which nothing reads
before Configure sets them, stand at the defaults of R136 and the increment at 1 (log entry 4). -/
def StationCfg.reset : StationCfg :=
  ⟨false, false, [], ⟨0, 0, 0, 0⟩, 1, 500, 2, 120, 6, false, 24, 16, 480, 900, 300⟩

/-- The takings unit after reset (R55, R58, R133). -/
def Takings.reset : Takings := ⟨.zero, 0, 0, false, none, none, none⟩

/-- The local port after reset: nothing pending, queues empty, all four levels enabled, snapshot empty (R133). -/
def Port.reset : Port :=
  ⟨none, none, [], [], [], [], ⟨false, false, false, false⟩, ⟨true, true, true, true⟩, none, []⟩

/-- Every block at its reset value with the station number and the RESET level given (R133). -/
def State.resetWith (inReset : Bool) (number : Nat) : State where
  station := ⟨inReset, number, .offline, 0, 0, none, none⟩
  cfg := .reset
  tabs := []
  engine := none
  claims := []
  takings := .reset
  dir := ⟨[], [], false⟩
  beacon := ⟨none, none, false, false⟩
  router := ⟨[], 1, [], false⟩
  kitchen := ⟨[], [], [], false, 0⟩
  portions := []
  stock := []
  link := ⟨.reset, .reset, 0, false⟩
  tx := ⟨[], [], 0⟩
  rx := []
  exch := ⟨[], 0⟩
  port := .reset
  pending := []

/-- The block right after a reset whose straps read 0 (log entry 3); RESET_END gives any other station number. -/
def State.reset : State := State.resetWith false 0

end Sys2Proof.Machine
end

