-- ==== Sys2Proof/Machine/Formats.lean ====
section
/-! DEFINITION. The general field encoding, the fixed codes, the frame on the wire and its check (chapter Formats, R145, R146). -/

namespace Sys2Proof

def Lane.other : Lane → Lane
  | .A => .B
  | .B => .A

end Sys2Proof

namespace Sys2Proof.Machine

/-! ## Field encoding: most significant byte first -/

def byteOf (n : Nat) : Byte := BitVec.ofNat 8 n

def e1 (n : Nat) : Bytes := [byteOf n]
def e2 (n : Nat) : Bytes := [byteOf (n / 256), byteOf n]
def e4 (n : Nat) : Bytes := [byteOf (n / 16777216), byteOf (n / 65536), byteOf (n / 256), byteOf n]

/-- Signed fields: 4 bytes, two's complement. -/
def es4 (i : Int) : Bytes := e4 (i % 4294967296).toNat

def eFlag (b : Bool) : Bytes := [if b then 1#8 else 0#8]

/-- A field that may be absent: a presence byte, then the field. -/
def eOpt {α : Type} (f : α → Bytes) : Option α → Bytes
  | none => [0#8]
  | some a => 1#8 :: f a

/-- The count byte of a list; above 255 the spec gives no value (log entry 30). -/
def eCount (n : Nat) : Byte := if n ≤ 255 then byteOf n else Config.longListCount n

/-- A list: a count byte, then the entries in order. -/
def eList {α : Type} (f : α → Bytes) (l : List α) : Bytes := eCount l.length :: (l.map f).flatten

/-- The byte with bit `n - off` set for each member `n`. -/
def eSet (off : Nat) (l : List Nat) : Byte := l.foldl (fun b n => b ||| (1#8 <<< (n - off))) 0#8

/-- The members of a coded set, ascending: bit `i` stands for `i + off`. -/
def membersOf (off : Nat) (b : Byte) : List Nat := ((List.range 8).filter fun i => b.getLsbD i).map (· + off)

def eRoles (till kitchen : Bool) : Byte := (if till then 1#8 else 0#8) ||| (if kitchen then 2#8 else 0#8)

/-- A record inside a copy: 2-byte length of its fields, 1-byte kind, the fields (log entry 29). -/
def eRecord (kind : Nat) (fields : Bytes) : Bytes := e2 fields.length ++ e1 kind ++ fields

def eClassVec (f : Nat → Bytes) (v : ClassVec) : Bytes := f v.c0 ++ f v.c1 ++ f v.c2 ++ f v.c3

/-! ## Codes -/

/-- The code of a result: its position in the list of the introduction. -/
def Result.code (r : Result) : Nat := r.ctorIdx

def Tender.code : Tender → Nat
  | .cash => 0
  | .card => 1
  | .voucher => 2
  | .none => 3

/-- The tenders a settlement may name; NONE and any other code are refused (R41, R45). -/
def Tender.ofCode : Nat → Option Tender
  | 0 => some .cash
  | 1 => some .card
  | 2 => some .voucher
  | _ => Option.none

/-! Kind codes of frames (chapter Formats). -/
namespace Kind
def beacon : Nat := 1
def period : Nat := 2
def stock : Nat := 3
def add : Nat := 4
def lineVoid : Nat := 5
def tabQuery : Nat := 6
def split : Nat := 7
def withdraw : Nat := 8
def claim : Nat := 9
def release : Nat := 10
def settle : Nat := 11
def claimEnd : Nat := 12
def ticket : Nat := 13
def ticketVoid : Nat := 14
def ticketQuery : Nat := 15
def ticketState : Nat := 16
def test : Nat := 17
def answer : Nat := 18
end Kind

/-- The class a kind fixes (R145). -/
def kindClass (k : Nat) : Nat :=
  if k = Kind.answer then 0
  else if k = Kind.claim ∨ k = Kind.settle ∨ k = Kind.release ∨ k = Kind.split ∨ k = Kind.withdraw ∨ k = Kind.claimEnd then 1
  else if k = Kind.beacon ∨ k = Kind.stock ∨ k = Kind.period ∨ k = Kind.test then 3
  else 2

/-- The request kinds (R162). -/
def isRequest (k : Nat) : Bool :=
  k == Kind.add || k == Kind.lineVoid || k == Kind.tabQuery || k == Kind.split || k == Kind.withdraw || k == Kind.claim ||
  k == Kind.settle || k == Kind.release || k == Kind.ticket || k == Kind.ticketVoid || k == Kind.ticketQuery || k == Kind.test

/-- The requests the KITCHEN role serves (R163). -/
def isKitchenRequest (k : Nat) : Bool := k == Kind.ticket || k == Kind.ticketVoid || k == Kind.ticketQuery

/-- The destination that means all stations. -/
def allStations : Nat := 127

/-- A number that names one station (chapter Introduction, Station numbers). -/
def isStation (n : Nat) : Bool := decide (1 ≤ n) && decide (n ≤ 126)

/-! ## The frame on the wire -/

/-- The `w` low bits of `n`, most significant first. -/
def bitsOf (w n : Nat) : List Bool := (List.range w).map fun i => n.testBit (w - 1 - i)

/-- The number that bits give, most significant first. -/
def natOf (bs : List Bool) : Nat := bs.foldl (fun a b => 2 * a + cond b 1 0) 0

def bitsOfBytes (l : Bytes) : List Bool := (l.map fun b => bitsOf 8 b.toNat).flatten

/-- The first `n` bytes of a run of bits. -/
def bytesOf : Nat → List Bool → Bytes
  | 0, _ => []
  | n + 1, bs => byteOf (natOf (bs.take 8)) :: bytesOf n (bs.drop 8)

/-- One bit through the check register: generator x^16 + x^12 + x^5 + 1. -/
def crcStep (r : BitVec 16) (b : Bool) : BitVec 16 :=
  if r.msb != b then (r <<< 1) ^^^ 0x1021#16 else r <<< 1

/-- The check over header and payload bits, register preset to all ones. -/
def crc16 (bs : List Bool) : Nat := (bs.foldl crcStep 0xFFFF#16).toNat

def syncBits : List Bool := [true, false, true, true, false, false, true, false]

def laneTag : Lane → List Bool
  | .A => [false, true]
  | .B => [true, false]

/-- Header and payload bits of a frame: kind, destination, tag, payload length, payload. -/
def bodyBits (f : OutFrame) : List Bool :=
  bitsOf 8 f.kind ++ bitsOf 8 f.dest ++ bitsOf 8 f.tag ++ bitsOf 8 f.payload.length ++ bitsOfBytes f.payload

/-- The arbitration key: class, inverted age, source (R156). -/
def keyBits (kind age source : Nat) : List Bool :=
  bitsOf 2 (kindClass kind) ++ bitsOf 3 (7 - age) ++ bitsOf 7 source

/-- A frame as the transmitter drives it on one lane. -/
def wireBits (lane : Lane) (source age : Nat) (f : OutFrame) : List Bool :=
  syncBits ++ laneTag lane ++ keyBits f.kind age source ++ bodyBits f ++ bitsOf 16 (crc16 (bodyBits f))

/-- A well-formed frame as a receiver read it: the lane tag it carried, its parts and its check. -/
structure Reception where
  tag : Lane
  frame : Frame
  check : Nat
deriving DecidableEq, Repr

/-- The receiver's test of a frame (R146): none for a malformed one. -/
def receive (bits : List Bool) : Option Reception :=
  let len := natOf ((bits.drop 46).take 8)
  let body := (bits.drop 22).take (32 + 8 * len)
  let check := natOf (bits.drop (54 + 8 * len))
  let tagBits := (bits.drop 8).take 2
  if bits.length = 70 + 8 * len ∧ len ≤ 200 ∧ bits.take 8 = syncBits ∧ (tagBits = laneTag .A ∨ tagBits = laneTag .B) ∧
      check = crc16 body then
    some
      { tag := if tagBits = laneTag .A then .A else .B
        frame :=
          { cls := natOf ((bits.drop 10).take 2)
            age := 7 - natOf ((bits.drop 12).take 3)
            source := natOf ((bits.drop 15).take 7)
            kind := natOf ((bits.drop 22).take 8)
            dest := natOf ((bits.drop 30).take 8)
            tag := natOf ((bits.drop 38).take 8)
            payload := bytesOf len (bits.drop 54) }
        check := check }
  else none

end Sys2Proof.Machine
end

