-- ==== Sys2Proof/Machine/Operands.lean ====
section
/-! DEFINITION. Reading fields back: the layouts of frame payloads (chapter Formats, R161), the layout test of the receive queue
(R179), and the parameters of local commands (R178, R180). -/

namespace Sys2Proof.Machine

/-- A reader takes fields from the front of a run of bytes, or fails. -/
abbrev Reader := StateT Bytes Option

namespace Reader

def byte : Reader Byte := fun
  | [] => none
  | b :: rest => some (b, rest)

def n1 : Reader Nat := do
  let b ← byte
  return b.toNat

def n2 : Reader Nat := do
  let a ← n1
  let b ← n1
  return a * 256 + b

def n4 : Reader Nat := do
  let a ← n2
  let b ← n2
  return a * 65536 + b

/-- `n` fields in a row. -/
def times {α : Type} (r : Reader α) : Nat → Reader (List α)
  | 0 => return []
  | n + 1 => do
    let a ← r
    let l ← times r n
    return a :: l

/-- A list: a count byte, then the entries. -/
def list {α : Type} (r : Reader α) : Reader (List α) := do
  let n ← n1
  times r n

/-- A field that may be absent; a presence byte other than 0 or 1 fails (R180). -/
def opt {α : Type} (r : Reader α) : Reader (Option α) := do
  let p ← n1
  if p = 0 then return none
  else if p = 1 then return some (← r)
  else failure

/-- The whole of the bytes, with at most `extra` left over. -/
def run {α : Type} (r : Reader α) (extra : Nat) (bytes : Bytes) : Option α :=
  match r bytes with
  | some (a, rest) => if rest.length ≤ extra then some a else none
  | none => none

/-- The whole of the bytes exactly. -/
def exact {α : Type} (r : Reader α) (bytes : Bytes) : Option α := r.run 0 bytes

end Reader

/-! ## Frame payloads (R161) -/

structure BeaconFields where
  roles : Byte
  prep : Byte
  interval : Nat
  joinAge : Nat
  period : Nat
  depth : Nat
  hold : Nat
  late : Nat
deriving DecidableEq, Repr

structure StockFields where
  item : Nat
  state : Nat
  remaining : Nat
deriving DecidableEq, Repr

structure AddFields where
  tab : Nat
  send : Nat
  lines : List LineReq
deriving DecidableEq, Repr

structure SplitFields where
  tab : Nat
  count : Nat
  entries : List SplitEntry
deriving DecidableEq, Repr

/-- One line of a ticket offer (R82, R100). -/
structure OfferLine where
  line : Nat
  item : Nat
  qty : Nat
  mods : List Nat
deriving DecidableEq, Repr

/-- A ticket offer, by frame or by hand-off (R82, R100). -/
structure Offer where
  ticket : Nat
  tab : Nat
  prep : Nat
  rush : Nat
  lines : List OfferLine
deriving DecidableEq, Repr

/-- New states a TICKET-STATE may report (R110), in the order of their codes. -/
inductive ReportState where
  | fired | ready | collected | uncollected | voided
deriving DecidableEq, Repr

/-- What a TICKET-STATE reports: a new state, or line voids with reason KITCHEN or REQUESTED (R110). -/
inductive Report where
  | state (st : ReportState)
  | voids (byKitchen : Bool) (lines : List Nat)
deriving DecidableEq, Repr

/-- A TICKET-STATE as laid out: form 0 carries a new state code, form 1 a reason code and line numbers. -/
structure TicketStateFields where
  home : Nat
  ticket : Nat
  orphan : Nat
  form : Nat
  code : Nat
  lines : List Nat
deriving DecidableEq, Repr

open Reader

def rLineReq : Reader LineReq := do
  let item ← n2
  let price ← n2
  let qty ← n1
  let tax ← n1
  let prep ← n1
  let rush ← n1
  let mods ← list n2
  return ⟨item, price, qty, tax, prep, rush, mods⟩

def rSplitEntry : Reader SplitEntry := do
  let line ← n1
  let set ← byte
  return ⟨line, set⟩

def rBeacon : Reader BeaconFields := do
  let roles ← byte
  let prep ← byte
  let interval ← n2
  let age ← n4
  let period ← n1
  let depth ← n1
  let hold ← n1
  let late ← n1
  return ⟨roles, prep, interval, age, period, depth, hold, late⟩

def rStock : Reader StockFields := do
  let item ← n2
  let state ← n1
  let remaining ← n2
  return ⟨item, state, remaining⟩

def rAdd : Reader AddFields := do
  let tab ← n2
  let send ← n1
  let lines ← list rLineReq
  return ⟨tab, send, lines⟩

def rSplit : Reader SplitFields := do
  let tab ← n2
  let count ← n1
  let entries ← list rSplitEntry
  return ⟨tab, count, entries⟩

def rOfferLine : Reader OfferLine := do
  let line ← n1
  let item ← n2
  let qty ← n1
  let mods ← list n2
  return ⟨line, item, qty, mods⟩

def rOffer : Reader Offer := do
  let ticket ← n2
  let tab ← n2
  let prep ← n1
  let rush ← n1
  let lines ← list rOfferLine
  return ⟨ticket, tab, prep, rush, lines⟩

def rTicketState : Reader TicketStateFields := do
  let home ← n1
  let ticket ← n2
  let orphan ← n1
  let form ← n1
  let code ← n1
  if form = 0 then return ⟨home, ticket, orphan, 0, code, []⟩
  else if form = 1 then return ⟨home, ticket, orphan, 1, code, ← list n1⟩
  else failure

/-- A tab number and one more byte: LINE-VOID, CLAIM, RELEASE. -/
def rTabByte : Reader (Nat × Nat) := do
  let tab ← n2
  let x ← n1
  return (tab, x)

/-- A tab number, a share and one more byte: SETTLE, CLAIM-END. -/
def rTabShareByte : Reader (Nat × Nat × Nat) := do
  let tab ← n2
  let share ← n1
  let x ← n1
  return (tab, share, x)

/-- A ticket number and a list of line numbers: TICKET-VOID. -/
def rTicketVoid : Reader (Nat × List Nat) := do
  let ticket ← n2
  let lines ← list n1
  return (ticket, lines)

/-- The six leading bytes of an ANSWER; its data is the rest. -/
def rAnswerHead : Reader (Nat × Nat × Nat × Nat × Nat) := do
  let kind ← n1
  let tag ← n1
  let subject ← n2
  let share ← n1
  let result ← n1
  return (kind, tag, subject, share, result)

/-- An ANSWER's payload, read whole. -/
def parseAnswer (source : Nat) (payload : Bytes) : Option AnswerRec :=
  match rAnswerHead payload with
  | some ((kind, tag, subject, share, result), data) => some ⟨source, kind, tag, subject, share, result, data⟩
  | none => none

/-- Position and depth of an ACCEPT (R102). -/
def rAccept : Reader (Nat × Nat) := do
  let position ← n1
  let depth ← n1
  return (position, depth)

/-- Share amount, tender, tendered amount, rounding difference of a settlement's OK (R41). -/
def rSettled : Reader (Nat × Nat × Nat × Int) := do
  let amount ← n4
  let tender ← n1
  let tendered ← n4
  let d ← n4
  return (amount, tender, tendered, if d < 2147483648 then (d : Int) else (d : Int) - 4294967296)

/-- The pairs of line number and result code of a TICKET-VOID answer (chapter Formats). -/
def rVoidResults : Reader (List (Nat × Nat)) := list (do
  let line ← n1
  let result ← n1
  return (line, result))

/-- Ticket state, position, depth and line states of a TICKET-QUERY answer (R114). -/
def rQueryAnswer : Reader (Nat × Nat × Nat × List (Nat × Nat)) := do
  let state ← n1
  let position ← n1
  let depth ← n1
  let lines ← rVoidResults
  return (state, position, depth, lines)

/-- The summary a TAB-QUERY answer carries (R20): state, outcome, label, line count, total, N and N shares of amount, state and
claimant (log entry 29). -/
def skipSummary : Reader Unit := do
  let _ ← n1
  let _ ← opt n1
  let _ ← list byte
  let _ ← n1
  let _ ← n4
  let n ← n1
  let _ ← times byte (n * 6)

/-- What a SPLIT answer tells (R31): N, total, each share's amount and mark, tab state (log entry 29). -/
def skipStrike : Reader Unit := do
  let n ← n1
  let _ ← n4
  let _ ← times byte (n * 5)
  let _ ← n1

/-- Whether an ANSWER's data has the layout its echoed kind and result call for (R164): the data of the kind's own result, a refusal's
data where the table shows some, and none otherwise. A kind that is no request has no layout (log entry 33). -/
def answerDataOk (a : AnswerRec) : Bool :=
  let is := fun (kind : Nat) (r : Result) => a.kind == kind && a.result == r.code
  if !isRequest a.kind || is Kind.test .OK then true
  else if is Kind.add .OK then a.data.length == 8
  else if is Kind.lineVoid .OK then a.data.length == 5
  else if is Kind.tabQuery .OK then (skipSummary.exact a.data).isSome
  else if is Kind.split .OK then (skipStrike.exact a.data).isSome
  else if is Kind.settle .OK then (rSettled.exact a.data).isSome
  else if is Kind.ticketVoid .OK then (rVoidResults.exact a.data).isSome
  else if is Kind.ticketQuery .OK then (rQueryAnswer.exact a.data).isSome
  else if is Kind.claim .GRANTED then (n4.exact a.data).isSome
  else if is Kind.ticket .ACCEPT || is Kind.ticket .SOLD_OUT then a.data.length == 2
  else if is Kind.claim .HELD_BY || is Kind.add .SOLD_OUT || is Kind.split .BAD_LINE || is Kind.split .BAD_SHARE then a.data.length == 1
  else a.data.isEmpty

/-- The length test of R179: the payload has the length its kind's layout gives, counted from its own count fields. -/
def layoutOk (kind tag : Nat) (p : Bytes) : Bool :=
  if kind = Kind.beacon then (rBeacon.exact p).isSome
  else if kind = Kind.period then (n1.exact p).isSome
  else if kind = Kind.stock then (rStock.exact p).isSome
  else if kind = Kind.add then (rAdd.exact p).isSome
  else if kind = Kind.lineVoid ∨ kind = Kind.claim ∨ kind = Kind.release then (rTabByte.exact p).isSome
  else if kind = Kind.tabQuery ∨ kind = Kind.withdraw ∨ kind = Kind.ticketQuery then (n2.exact p).isSome
  else if kind = Kind.split then (rSplit.exact p).isSome
  else if kind = Kind.settle ∨ kind = Kind.claimEnd then (rTabShareByte.exact p).isSome
  else if kind = Kind.ticket then (rOffer.exact p).isSome
  else if kind = Kind.ticketVoid then (rTicketVoid.exact p).isSome
  else if kind = Kind.ticketState then (rTicketState.exact p).isSome
  else if kind = Kind.test then true
  else if kind = Kind.answer then
    match parseAnswer 0 p with
    | some a => a.tag == tag && answerDataOk a
    | none => false
  else false

/-- What the receive queue hands on: the group test of R162, then the layout test of R179. -/
def deliverable (f : Frame) : Bool :=
  isStation f.source && !((isRequest f.kind || f.kind == Kind.answer) && f.dest == allStations) &&
  decide (1 ≤ f.kind) && decide (f.kind ≤ 18) && f.cls == kindClass f.kind && decide (f.dest < 128) && layoutOk f.kind f.tag f.payload

/-! ## Frame payloads as this station lays them out -/

def eLineReq (l : LineReq) : Bytes :=
  e2 l.item ++ e2 l.price ++ e1 l.qty ++ e1 l.tax ++ e1 l.prep ++ e1 l.rush ++ eList e2 l.mods

def eAddPayload (tab send : Nat) (lines : List LineReq) : Bytes := e2 tab ++ e1 send ++ eList eLineReq lines

def eSplitPayload (tab count : Nat) (entries : List SplitEntry) : Bytes :=
  e2 tab ++ e1 count ++ eList (fun e => e1 e.line ++ [e.sharers]) entries

def eOfferPayload (o : Offer) : Bytes :=
  e2 o.ticket ++ e2 o.tab ++ e1 o.prep ++ e1 o.rush ++
  eList (fun l => e1 l.line ++ e2 l.item ++ e1 l.qty ++ eList e2 l.mods) o.lines

def ReportState.code (r : ReportState) : Nat := r.ctorIdx

def eReportPayload (home ticket : Nat) (orphan : Bool) : Report → Bytes
  | .state st => e1 home ++ e2 ticket ++ eFlag orphan ++ e1 0 ++ e1 st.code
  | .voids byKitchen lines => e1 home ++ e2 ticket ++ eFlag orphan ++ e1 1 ++ e1 (if byKitchen then 0 else 1) ++ eList e1 lines

def eStockPayload (item : Nat) (st : StockState) (remaining : Nat) : Bytes := e2 item ++ e1 st.ctorIdx ++ e2 remaining

def eAnswerPayload (kind tag subject share : Nat) (r : Result) (data : Bytes) : Bytes :=
  e1 kind ++ e1 tag ++ e2 subject ++ e1 share ++ e1 r.code ++ data

/-! ## Local commands (R178, R180) -/

/-- What the port makes of a whole command: a code it does not know, parameters that do not fit, a Loopback setting other than on
or off, or the command. -/
inductive Parsed where
  | unknownCode
  | badFraming
  | badLoopback
  | command (c : Instr)
deriving DecidableEq, Repr

def rTabRef : Reader (Nat × Nat) := do
  let home ← n1
  let tab ← n2
  return (home, tab)

def rConfig : Reader ConfigReq := do
  let roles ← byte
  let prep ← byte
  let r0 ← n2
  let r1 ← n2
  let r2 ← n2
  let r3 ← n2
  let rounding ← n1
  let interval ← opt n2
  let lockCount ← opt n1
  let claimHold ← opt n2
  let fireLimit ← opt n1
  let autoFire ← opt n1
  let holdMark ← opt n1
  let releaseMark ← opt n1
  let warn ← opt n2
  let late ← opt n2
  let collect ← opt n2
  return ⟨roles, prep, ⟨r0, r1, r2, r3⟩, rounding, interval, lockCount, claimHold, fireLimit, autoFire, holdMark, releaseMark,
    warn, late, collect⟩

/-- The command code of each local command, by the catalogue of R178; 0 for an event that is no command. -/
def commandCode : Instr → Nat
  | .status => 1
  | .nextNotice => 2
  | .setAttention _ => 3
  | .readPage _ _ => 4
  | .configure _ => 5
  | .loopbackOn => 6
  | .loopbackOff => 6
  | .join => 7
  | .laneRestart _ => 8
  | .test _ _ => 9
  | .openTab _ => 10
  | .add _ _ _ _ => 11
  | .send _ => 12
  | .lineVoid _ _ _ => 13
  | .tabVoid _ => 14
  | .release _ => 15
  | .query _ _ => 16
  | .split _ _ _ _ => 17
  | .withdraw _ _ => 18
  | .claim _ _ _ => 19
  | .settle _ _ _ _ => 20
  | .releaseShare _ _ _ => 21
  | .retry _ => 22
  | .refresh _ => 23
  | .abandon _ => 24
  | .markPeriod => 25
  | .fire _ => 26
  | .ready _ => 27
  | .collect _ => 28
  | .kitchenVoid _ _ => 29
  | .load _ _ _ => 30
  | .refill _ _ => 31
  | .reloadToPreset _ => 32
  | .recount _ _ => 33
  | .remove _ => 34
  | .readTab _ => 35
  | .readClaims => 36
  | .readTickets => 37
  | .readStockView => 38
  | .readPeers => 39
  | .readCapture _ => 40
  | .releaseCapture _ => 41
  | .readQueue => 42
  | .nextNew => 43
  | .readPortions _ => 44
  | _ => 0

/-- The parameter layout of each command code but Loopback's, in the order its rule names the parameters. Read page's offset takes 2 bytes
(log entry 69); Open's label and Test's payload are lists, a count byte and then the bytes (log entry 74). -/
def rCommand : Nat → Reader Instr
  | 1 => return .status
  | 2 => return .nextNotice
  | 3 => return .setAttention (← byte)
  | 4 => return .readPage (← n2) (← n1)
  | 5 => return .configure (← rConfig)
  | 7 => return .join
  | 8 => return .laneRestart (← n1)
  | 9 => return .test (← n1) (← list byte)
  | 10 => return .openTab (← list byte)
  | 11 => do
    let (home, tab) ← rTabRef
    return .add home tab (← list rLineReq) (← n1)
  | 12 => return .send (← n2)
  | 13 => do
    let (home, tab) ← rTabRef
    return .lineVoid home tab (← n1)
  | 14 => return .tabVoid (← n2)
  | 15 => return .release (← n2)
  | 16 => do
    let (home, tab) ← rTabRef
    return .query home tab
  | 17 => do
    let (home, tab) ← rTabRef
    return .split home tab (← n1) (← list rSplitEntry)
  | 18 => do
    let (home, tab) ← rTabRef
    return .withdraw home tab
  | 19 => do
    let (home, tab) ← rTabRef
    return .claim home tab (← n1)
  | 20 => do
    let (home, tab) ← rTabRef
    return .settle home tab (← n1) (← n1)
  | 21 => do
    let (home, tab) ← rTabRef
    return .releaseShare home tab (← n1)
  | 22 => return .retry (← n2)
  | 23 => return .refresh (← n2)
  | 24 => return .abandon (← n2)
  | 25 => return .markPeriod
  | 26 => return .fire (← n1)
  | 27 => return .ready (← n1)
  | 28 => return .collect (← n1)
  | 29 => return .kitchenVoid (← n1) (← list n1)
  | 30 => return .load (← n2) (← n2) (← n2)
  | 31 => return .refill (← n2) (← n2)
  | 32 => return .reloadToPreset (← n2)
  | 33 => return .recount (← n2) (← n2)
  | 34 => return .remove (← n2)
  | 35 => return .readTab (← n2)
  | 36 => return .readClaims
  | 37 => return .readTickets
  | 38 => return .readStockView
  | 39 => return .readPeers
  | 40 => return .readCapture (← n1)
  | 41 => return .releaseCapture (← n1)
  | 42 => return .readQueue
  | 43 => return .nextNew
  | 44 => return .readPortions (← opt n2)
  | _ => failure

/-- How many parameter bytes may lie beyond those read: up to the layout with every optional field present (R180). -/
def allowedExtra (code used : Nat) : Nat :=
  if code = 5 then 36 - used else if code = 44 then 3 - used else 0

/-- A whole command: code and parameter bytes. -/
def parseCommand (code : Nat) (params : Bytes) : Parsed :=
  if code = 6 then
    match n1.exact params with
    | some 0 => .command .loopbackOff
    | some 1 => .command .loopbackOn
    | some _ => .badLoopback
    | none => .badFraming
  else if 1 ≤ code ∧ code ≤ 44 then
    match rCommand code params with
    | some (c, rest) => if rest.length ≤ allowedExtra code (params.length - rest.length) then .command c else .badFraming
    | none => .badFraming
  else .unknownCode

/-- The first whole command in what was shifted in: leading 00 bytes are skipped, bytes after it are ignored (R180). -/
def firstCommand : Bytes → Option (Nat × Bytes)
  | [] => none
  | b :: rest =>
    if b = 0#8 then firstCommand rest
    else
      match rest with
      | [] => none
      | p :: body => if p.toNat ≤ body.length then some (b.toNat, body.take p.toNat) else none

end Sys2Proof.Machine
end

