-- ==== Sys2Proof/Machine/Flags.lean ====
section
/-! DEFINITION. Notices and the flags they raise: levels and capacities, overflow flags, the attention and BUSY outputs (R172, R174,
R175), notice encoding (chapter Formats), the lane changed flags and the tag status (R148, R149). -/

namespace Sys2Proof.Machine

/-- The notice levels, in order of priority (R175). -/
inductive Level where
  | link | money | kitchen | peers
deriving DecidableEq, Repr

/-- The money kinds of R169: their late answers are posted at the MONEY level. -/
def isMoneyKind (k : Nat) : Bool :=
  k == Kind.claim || k == Kind.settle || k == Kind.release || k == Kind.split || k == Kind.withdraw

/-- The level a notice is posted at (R174, R169). -/
def Notice.level : Notice → Level
  | .stationState _ _ | .laneState _ _ _ | .tagStatus _ | .txFaultDiscard _ _ => .link
  | .tabClosed _ _ _ | .splitStruck _ _ _ _ _ | .splitRedo _ _ | .splitWithdrawn _ _ _ _ | .splitResult _ | .withdrawResult _
  | .claimResult _ | .settleResult _ | .releaseResult _ | .claimLost _ _ _ | .claimEnded _ _ _ _ | .refundDue _ _ _ _ _
  | .periodCapture _ _ _ _ | .captureDeferred _ => .money
  | .lateAnswer a => if isMoneyKind a.kind then .money else .kitchen
  | .peerLost _ _ _ | .peerReturned _ | .peerRejoined _ _ _ _ | .peerEvicted _ | .peersFull _ => .peers
  | .addResult _ | .lineVoidResult _ | .queryResult _ | .testResult _ | .refreshResult _ | .unrouted _ _ _ _ | .ticketReady _ _
  | .ticketLost _ _ _ | .kitchenLost _ _ | .voidResult _ _ _ | .voidUnconfirmed _ _ _ _ | .strayVoided _ _ _ | .newTicket _ _ _ _ _
  | .ticketWarn _ _ _ _ | .ticketLate _ _ _ | .ticketUncollected _ _ _ | .kitchenHold _ _ | .ticketsOrphaned _ _
  | .stockChange _ _ _ _ | .portionLow _ _ => .kitchen

/-- How many notices a level's queue holds (R174). -/
def Level.capacity : Level → Nat
  | .link => 8
  | .money => 16
  | .kitchen => 24
  | .peers => 8

def Port.queue (p : Port) : Level → List Notice
  | .link => p.link
  | .money => p.money
  | .kitchen => p.kitchen
  | .peers => p.peers

def Port.setQueue (p : Port) (q : List Notice) : Level → Port
  | .link => { p with link := q }
  | .money => { p with money := q }
  | .kitchen => { p with kitchen := q }
  | .peers => { p with peers := q }

def Levels.get (l : Levels) : Level → Bool
  | .link => l.link
  | .money => l.money
  | .kitchen => l.kitchen
  | .peers => l.peers

def Levels.raise (l : Levels) : Level → Levels
  | .link => { l with link := true }
  | .money => { l with money := true }
  | .kitchen => { l with kitchen := true }
  | .peers => { l with peers := true }

def Levels.none : Levels := ⟨false, false, false, false⟩

/-- Posting a notice: appended, or dropped at a full level with that level's overflow flag set (R174). -/
def Port.post (n : Notice) (p : Port) : Port :=
  if (p.queue n.level).length < n.level.capacity then p.setQueue (p.queue n.level ++ [n]) n.level
  else { p with overflow := p.overflow.raise n.level }

def post (n : Notice) (s : State) : State := { s with port := s.port.post n }

/-- Posting several notices in order. -/
def postAll (l : List Notice) (s : State) : State := l.foldl (fun s n => post n s) s

/-- The ATTN output: active while an enabled level holds a notice, inactive during reset (R175, R133). -/
def attn (s : State) : Bool :=
  !s.station.inReset &&
  ((s.port.mask.link && !s.port.link.isEmpty) || (s.port.mask.money && !s.port.money.isEmpty) ||
   (s.port.mask.kitchen && !s.port.kitchen.isEmpty) || (s.port.mask.peers && !s.port.peers.isEmpty))

/-- The BUSY output: high from the taking of a command to its answer (R172). -/
def busy (s : State) : Bool := s.port.taken.isSome

/-! ## Notice encoding -/

def eTabRef (home tab : Nat) : Bytes := e1 home ++ e2 tab

/-- An answer carried whole: source, echoed kind and tag, subject, result, result data (R11, R35, R169). No rule lays these bytes out: the
source's byte, then the ANSWER payload's own layout (Payloads, 12_formats.md), the subject in 2 bytes and a share byte that is 0 where
there is none, and the result data last with no count byte, is the model's choice (log entry 79, DESIGN CHOICE, unsafe). -/
def eAnswerRec (a : AnswerRec) : Bytes :=
  e1 a.source ++ e1 a.kind ++ e1 a.tag ++ e2 a.subject ++ e1 a.share ++ e1 a.result ++ a.data

/-- A stock state in STOCK_CHANGE, where ABSENT may stand (R120). -/
def eStockOrAbsent : Option StockState → Bytes
  | some st => e1 st.ctorIdx
  | none => e1 3

/-- The kind code of a notice: numbered from 1 in the order of the table of R174. -/
def Notice.code (n : Notice) : Nat := n.ctorIdx + 1

/-- The fields of a notice by the general encoding, in the order its posting rule names them. -/
def Notice.fields : Notice → Bytes
  | .stationState st number => e1 st.ctorIdx ++ eOpt e1 number
  | .laneState lane old new => e1 lane.ctorIdx ++ e1 old.ctorIdx ++ e1 new.ctorIdx
  | .tagStatus st => e1 st.ctorIdx
  | .txFaultDiscard kind dest => e1 kind ++ e1 dest
  | .tabClosed home tab outcome => eTabRef home tab ++ e1 outcome.ctorIdx
  | .splitStruck tab count total shares st =>
    e1 Result.OK.code ++ e2 tab ++ e1 count ++ e4 total ++ (shares.map fun p => e4 p.1 ++ eFlag p.2).flatten ++ e1 st.ctorIdx
  | .splitRedo home tab => eTabRef home tab
  | .splitWithdrawn home tab line total => eTabRef home tab ++ e1 line ++ e4 total
  | .splitResult a => eAnswerRec a
  | .withdrawResult a => eAnswerRec a
  | .claimResult a => eAnswerRec a
  | .settleResult a => eAnswerRec a
  | .releaseResult a => eAnswerRec a
  | .claimLost home tab share => eTabRef home tab ++ e1 share
  | .claimEnded home tab share reason => eTabRef home tab ++ e1 share ++ e1 reason.ctorIdx
  | .refundDue home tab line count sum => eTabRef home tab ++ e1 line ++ e1 count ++ e4 sum
  | .periodCapture slot first last deferred => e1 slot ++ e1 first ++ e1 last ++ eFlag deferred
  | .captureDeferred period => e1 period
  | .lateAnswer a => eAnswerRec a
  | .addResult a => eAnswerRec a
  | .lineVoidResult a => eAnswerRec a
  | .queryResult a => eAnswerRec a
  | .testResult a => e1 a.source ++ e1 a.result ++ eList (fun b => [b]) a.data
  | .refreshResult a => e2 a.subject ++ eAnswerRec a
  | .unrouted ticket tab prep reason => e2 ticket ++ e2 tab ++ e1 prep ++ e1 reason.ctorIdx
  | .ticketReady ticket tab => e2 ticket ++ e2 tab
  | .ticketLost ticket tab kitchen => e2 ticket ++ e2 tab ++ e1 kitchen
  | .kitchenLost kitchen count => e1 kitchen ++ e1 count
  | .voidResult ticket kitchen lines => e2 ticket ++ e1 kitchen ++ eList (fun p => e1 p.1 ++ e1 p.2) lines
  | .voidUnconfirmed ticket kitchen lines cause => e2 ticket ++ e1 kitchen ++ eList e1 lines ++ e1 cause
  | .strayVoided ticket kitchen result => e2 ticket ++ e1 kitchen ++ [result]
  | .newTicket ref home ticket rush position => e1 ref ++ e1 home ++ e2 ticket ++ eFlag rush ++ e1 position
  | .ticketWarn ref home ticket warnTime => e1 ref ++ e1 home ++ e2 ticket ++ e2 warnTime
  | .ticketLate ref home ticket => e1 ref ++ e1 home ++ e2 ticket
  | .ticketUncollected ref home ticket => e1 ref ++ e1 home ++ e2 ticket
  | .kitchenHold flag depth => eFlag flag ++ e1 depth
  | .ticketsOrphaned home count => e1 home ++ e1 count
  | .stockChange item old new remaining => e2 item ++ eStockOrAbsent old ++ eStockOrAbsent new ++ e2 remaining
  | .portionLow item remaining => e2 item ++ e2 remaining
  | .peerLost station till kitchen => e1 station ++ [eRoles till kitchen]
  | .peerReturned station => e1 station
  | .peerRejoined station till kitchen age => e1 station ++ [eRoles till kitchen] ++ e4 age
  | .peerEvicted station => e1 station
  | .peersFull station => e1 station

/-! ## Lane flags -/

def Link.rx (l : Link) : Lane → Receiver
  | .A => l.a
  | .B => l.b

def Link.setRx (l : Link) (r : Receiver) : Lane → Link
  | .A => { l with a := r }
  | .B => { l with b := r }

/-- The tag status that two tags seen give (R149). -/
def tagStatusOf : Option Lane → Option Lane → TagStatus
  | some .B, some .A => .crossed
  | some .A, some .A => .miswiredB
  | some .B, some .B => .miswiredA
  | _, _ => .clear

def Link.tagStatus (l : Link) : TagStatus := tagStatusOf l.a.tagSeen l.b.tagSeen

/-- Whether a lane's input is MISWIRED (R149). -/
def Link.miswired (l : Link) : Lane → Bool
  | .A => l.tagStatus == .miswiredA
  | .B => l.tagStatus == .miswiredB

end Sys2Proof.Machine
end

