-- ==== Sys2Proof/Machine/Ops.lean ====
section
/-! DEFINITION. The operations several blocks share: updates by key, time, the transmit scheduler, the exchange table's openings,
beacons and STOCK frames, and the shape of a reply. -/

namespace Sys2Proof.Machine

/-! ## Lists -/

/-- `f` applied to the members that satisfy `p`. -/
def mapIf {α : Type} (p : α → Bool) (f : α → α) (l : List α) : List α := l.map fun a => if p a then f a else a

/-- `a` inserted ahead of the first member with a greater key. -/
def insertBy {α : Type} (key : α → Nat) (a : α) : List α → List α
  | [] => [a]
  | b :: rest => if key a < key b then a :: b :: rest else b :: insertBy key a rest

/-- A member added once. -/
def addNew (n : Nat) (l : List Nat) : List Nat := if l.contains n then l else l ++ [n]

/-- The least of `1..n` that `taken` does not hold. -/
def leastFree (n : Nat) (taken : Nat → Bool) : Option Nat := ((List.range n).map (· + 1)).find? fun i => !taken i

/-! ## Station -/

/-- This station's number. -/
def own (s : State) : Nat := s.station.number

/-- Job commands and delivered frames are taken in ONLINE and ISOLATED (R134, R178). -/
def inService (s : State) : Bool := s.station.state == .online || s.station.state == .isolated

def hasRole (s : State) : Role → Bool
  | .till => s.cfg.till
  | .kitchen => s.cfg.kitchen

/-- Station time in whole seconds; it stops at the end of its range (R3). -/
def stationTime (s : State) : Nat := min (s.station.clock / 1000) Config.max32

/-- Join age in tenths of a second; it stops at the end of its range (R72). -/
def joinAge (s : State) : Nat := min (s.station.online / 100) Config.max32

def isPending (t : Timer) : Bool := t.isSome

/-! ## Replies -/

/-- A result with its data: the answer to a command, or the content of an ANSWER frame. -/
structure Reply where
  result : Result
  data : Bytes
deriving DecidableEq, Repr

/-- A result without data. -/
def Reply.bare (r : Result) : Reply := ⟨r, []⟩

/-! ## Portions: resend marks -/

/-- The entry's resend mark is set (R121). -/
def markResend (item : Nat) (l : List Portion) : List Portion := mapIf (·.item == item) (fun p => { p with resend := true }) l

/-! ## Transmit scheduler (R153, R154) -/

/-- Frames of class 1..3 in the queue. -/
def lowCount (l : List Slot) : Nat := (l.filter fun x => kindClass x.frame.kind != 0).length

/-- The newest class-3 frame not on the wire, and the queue without it. -/
def evictNewest : List Slot → Option (OutFrame × List Slot)
  | [] => none
  | x :: rest =>
    match evictNewest rest with
    | some (f, r) => some (f, x :: r)
    | none => if kindClass x.frame.kind = 3 ∧ x.onWire = false then some (x.frame, rest) else none

/-- What the scheduler answers a block that asks to queue a frame. -/
inductive Offered where
  | taken (slots : List Slot)
  | evicting (evicted : OutFrame) (slots : List Slot)
  | refused
deriving DecidableEq, Repr

/-- A new slot: age 0, no fault, not begun (R153). -/
def Slot.fresh (f : OutFrame) : Slot := ⟨f, 0, 0, false, false⟩

/-- The scheduler's decision by the frame's class and the queue as it stands (R154). -/
def offerFrame (f : OutFrame) (l : List Slot) : Offered :=
  if kindClass f.kind = 0 then
    if l.length < Config.txCapacity then .taken (l ++ [Slot.fresh f]) else .refused
  else if l.length < Config.txCapacity ∧ lowCount l < Config.txLowCapacity then .taken (l ++ [Slot.fresh f])
  else if kindClass f.kind = 3 then .refused
  else
    match evictNewest l with
    | some (e, r) => .evicting e (r ++ [Slot.fresh f])
    | none => .refused

/-- The item code a STOCK payload carries. -/
def stockItem (f : OutFrame) : Option Nat := if f.kind = Kind.stock then (rStock.exact f.payload).map (·.item) else none

/-- TX_DROPPED up by one, stopping at 65535 (R154). -/
def bumpDropped (n : Nat) : Nat := min (n + 1) 65535

/-- A refused or evicted STOCK frame sets its entry's resend mark (R121). -/
def frameLost (f : OutFrame) (s : State) : State :=
  match stockItem f with
  | some item => { s with portions := markResend item s.portions }
  | none => s

/-- A block asks to queue a frame: whether it was taken, and the state after with TX_DROPPED, resend marks and the offer pause
kept (R154, R121, R79). -/
def sendFrame (f : OutFrame) (s : State) : Bool × State :=
  match offerFrame f s.tx.slots with
  | .taken l => (true, { s with tx := { s.tx with slots := l } })
  | .evicting e l =>
    (true, frameLost e
      { s with tx := { s.tx with slots := l, dropped := bumpDropped s.tx.dropped }, router := { s.router with pause := false } })
  | .refused =>
    if isRequest f.kind then (false, s)
    else (false, frameLost f { s with tx := { s.tx with dropped := bumpDropped s.tx.dropped } })

/-- The queue is emptied with no answer, notice or count (R153); the offer pause is cleared with it (R79). -/
def emptyTx (s : State) : State :=
  { s with tx := { s.tx with slots := [], watched := [] }, router := { s.router with pause := false } }

/-- Whether this station is driving a frame. -/
def driving (s : State) : Bool := s.tx.slots.any (·.onWire)

/-- An ANSWER to a request, in class 0 (R164). -/
def sendAnswer (dest kind tag subject share : Nat) (r : Reply) (s : State) : State :=
  (sendFrame ⟨Kind.answer, dest, tag, eAnswerPayload kind tag subject share r.result r.data⟩ s).2

/-! ## Exchange table (R165, R166) -/

def findPeer (s : State) (k : Nat) : Option Peer := s.dir.entries.find? (·.station == k)

/-- Recorded LOST; an absent station is not (R166). -/
def isLost (s : State) (k : Nat) : Bool :=
  match findPeer s k with
  | some p => p.presence == .lost
  | none => false

/-- Held PRESENT in the directory. -/
def isPresent (s : State) (k : Nat) : Bool :=
  match findPeer s k with
  | some p => p.presence == .present
  | none => false

/-- The first tag from `c` on that no live entry holds. -/
def freeTag : Nat → Nat → List Nat → Nat
  | 0, c, _ => c
  | n + 1, c, used => if used.contains c then freeTag n ((c + 1) % 256) used else c

def exchangeFree (s : State) : Bool := decide (s.exch.entries.length < Config.exchangeCapacity)

/-- An entry is opened and its request frame offered (R166): STARTED, or the refusal. The tag a refused frame drew stays used up. -/
def openExchange (kind dest subject share : Nat) (owner : Owner) (payload : Bytes) (s : State) : Result × State :=
  if kind ≠ Kind.test ∧ isLost s dest = true then
    (if isKitchenRequest kind then .KITCHEN_LOST else .HOME_LOST, s)
  else if exchangeFree s = false then (.BUSY, s)
  else
    let tag := freeTag Config.exchangeCapacity s.exch.counter (s.exch.entries.map (·.tag))
    let drawn : State := { s with exch := { s.exch with counter := (tag + 1) % 256 } }
    let (taken, s') := sendFrame ⟨kind, dest, tag, payload⟩ drawn
    if taken then
      (.STARTED, { s' with exch := { s'.exch with entries := s'.exch.entries ++ [⟨tag, kind, dest, subject, share, owner, some Config.exchangeMs⟩] } })
    else (.LINK_BUSY, s')

/-! ## STOCK frames and own beacons (R73 to R75, R121) -/

/-- A waiting, not begun frame's contents are replaced; the frame keeps its place and age. None where there is no such frame. -/
def replaceUnsent (p : OutFrame → Bool) (payload : Bytes) (l : List Slot) : Option (List Slot) :=
  if l.any (fun x => p x.frame && !x.begun) then
    some (mapIf (fun x => p x.frame && !x.begun) (fun x => { x with frame := { x.frame with payload := payload } }) l)
  else none

/-- A STOCK frame is queued, or replaces the item's unsent one (R121). -/
def queueStock (item : Nat) (st : StockState) (remaining : Nat) (s : State) : State :=
  let payload := eStockPayload item st remaining
  match replaceUnsent (fun f => stockItem f == some item) payload s.tx.slots with
  | some l => { s with tx := { s.tx with slots := l } }
  | none => (sendFrame ⟨Kind.stock, allStations, 0, payload⟩ s).2

/-- The state remaining and low mark give (R120). -/
def stockState (p : Portion) : StockState :=
  if p.remaining = 0 then .out else if p.remaining ≤ p.low then .low else .available

/-- At each beacon the marked entry of lowest item code has its STOCK frame queued again (R121). -/
def resendStock (s : State) : State :=
  match s.portions.find? (·.resend) with
  | some p =>
    queueStock p.item (stockState p) p.remaining
      { s with portions := mapIf (·.item == p.item) (fun q => { q with resend := false }) s.portions }
  | none => s

/-- Depth of the kitchen queue: QUEUED and FIRED tickets (R99). -/
def Kitchen.depth (k : Kitchen) : Nat := k.queued.length + k.fired.length

/-- QUEUED and FIRED tickets with the late flag set (R73). -/
def Kitchen.lateCount (k : Kitchen) : Nat := ((k.queued ++ k.fired).filter (·.late)).length

/-- A beacon's contents at the moment of generation (R73). -/
def beaconPayload (s : State) : Bytes :=
  [eRoles s.cfg.till s.cfg.kitchen] ++ [eSet 0 s.cfg.prep] ++ e2 s.cfg.interval ++ e4 (if s.beacon.sent then joinAge s else 0) ++
  e1 s.takings.period ++
  (if s.cfg.kitchen then e1 s.kitchen.depth ++ eFlag s.kitchen.hold ++ e1 s.kitchen.lateCount else [0#8, 0#8, 0#8])

/-- A beacon is generated: queued or put in the waiting one's place, the interval timer and the hold-off started anew, and one marked
STOCK frame queued again behind it, whether or not the beacon was taken (R73, R74, R75, R121; log entry 60). -/
def genBeacon (s : State) : State :=
  let timed : State := { s with beacon := { s.beacon with interval := some s.cfg.interval, holdOff := some Config.holdOffMs } }
  let payload := beaconPayload s
  resendStock <|
    match replaceUnsent (fun f => f.kind == Kind.beacon) payload timed.tx.slots with
    | some l => { timed with tx := { timed.tx with slots := l } }
    | none => (sendFrame ⟨Kind.beacon, allStations, 0, payload⟩ timed).2

/-- A change of the hold flag generates a beacon, or marks one as due during the hold-off (R75). -/
def holdBeacon (s : State) : State :=
  if isPending s.beacon.holdOff then { s with beacon := { s.beacon with due := true } } else genBeacon s

end Sys2Proof.Machine
end

