-- ==== Sys2Proof/Machine/Counts.lean ====
section
/-! DEFINITION. The takings unit's accumulators and periods (R55 to R59). -/

namespace Sys2Proof.Machine

/-- An increment; at the end of its range the accumulator holds and its SATURATED flag is set (R55). -/
def Acc.add (d : Nat) (a : Acc) : Acc :=
  if a.saturated then a
  else if a.value + d < Config.max32 then ⟨a.value + d, false⟩ else ⟨Config.max32, true⟩

/-- The same for the rounding sum, at both ends (R55). -/
def SignedAcc.add (d : Int) (a : SignedAcc) : SignedAcc :=
  if a.saturated then a
  else if a.value + d ≥ Config.maxSigned then ⟨Config.maxSigned, true⟩
  else if a.value + d ≤ -(Config.maxSigned : Int) then ⟨-(Config.maxSigned : Int), true⟩
  else ⟨a.value + d, false⟩

/-- One change of the accumulators. -/
def count (f : Accums → Accums) (s : State) : State := { s with takings := { s.takings with accums := f s.takings.accums } }

def Accums.countSettlement (tender : Tender) (tendered : Nat) (diff : Int) (a : Accums) : Accums :=
  match tender with
  | .cash => { a with cashCount := a.cashCount.add 1, cashAmount := a.cashAmount.add tendered, rounding := a.rounding.add diff }
  | .card => { a with cardCount := a.cardCount.add 1, cardAmount := a.cardAmount.add tendered, rounding := a.rounding.add diff }
  | .voucher =>
    { a with voucherCount := a.voucherCount.add 1, voucherAmount := a.voucherAmount.add tendered, rounding := a.rounding.add diff }
  | .none => a

/-- A settlement counted at this station (R55); tender NONE is not counted. -/
def countSettlement (tender : Tender) (tendered : Nat) (diff : Int) (s : State) : State :=
  count (·.countSettlement tender tendered diff) s

def countLineVoided (s : State) : State := count (fun a => { a with linesVoided := a.linesVoided.add 1 }) s
def countTabClosed (s : State) : State := count (fun a => { a with tabsClosed := a.tabsClosed.add 1 }) s
def countAccepted (s : State) : State := count (fun a => { a with ticketsAccepted := a.ticketsAccepted.add 1 }) s
def countReadied (s : State) : State := count (fun a => { a with ticketsReadied := a.ticketsReadied.add 1 }) s
def countVoided (s : State) : State := count (fun a => { a with ticketsVoided := a.ticketsVoided.add 1 }) s
def countLate (s : State) : State := count (fun a => { a with lateTickets := a.lateTickets.add 1 }) s
def countWaste (n : Nat) (s : State) : State := count (fun a => { a with wastePortions := a.wastePortions.add n }) s

/-- Whether any SATURATED flag is set (R55, R176). -/
def Accums.saturated (a : Accums) : Bool :=
  a.cashCount.saturated || a.cashAmount.saturated || a.cardCount.saturated || a.cardAmount.saturated ||
  a.voucherCount.saturated || a.voucherAmount.saturated || a.rounding.saturated || a.linesVoided.saturated ||
  a.tabsClosed.saturated || a.ticketsAccepted.saturated || a.ticketsReadied.saturated || a.ticketsVoided.saturated ||
  a.lateTickets.saturated || a.wastePortions.saturated

/-- The capture record of the pending span (R58). -/
def captureRecord (ended : Nat) (t : Takings) : Capture := ⟨t.spanStart, ended, t.deferral, t.accums⟩

/-- The capture attempt that follows an advance: the slot that took the capture, if any (R58, R59). -/
def captureAttempt (ended : Nat) (s : State) : Option Nat × State :=
  let t := s.takings
  let rec_ := captureRecord ended t
  let fresh : Takings := { t with accums := .zero, spanStart := t.period, deferral := false }
  match t.slot1, t.slot2 with
  | none, _ =>
    (some 1, post (.periodCapture 1 rec_.first rec_.last rec_.deferred) { s with takings := { fresh with slot1 := some rec_ } })
  | some _, none =>
    (some 2, post (.periodCapture 2 rec_.first rec_.last rec_.deferred) { s with takings := { fresh with slot2 := some rec_ } })
  | some _, some _ => (none, post (.captureDeferred ended) { s with takings := { t with deferral := true } })

/-- A local advance: the period number up by one, 99 staying 99; PERIOD is broadcast and the capture attempted (R56). -/
def localAdvance (s : State) : Option Nat × State :=
  let ended := s.takings.period
  let next := min (ended + 1) Config.maxPeriod
  let moved : State := { s with takings := { s.takings with period := next } }
  captureAttempt ended (sendFrame ⟨Kind.period, allStations, 0, e1 next⟩ moved).2

/-- A heard period number: a jump and a capture attempt in service, adopted with the span start in JOINING, ignored otherwise (R57). -/
def heardPeriod (n : Nat) (s : State) : State :=
  if n ≤ s.takings.period then s
  else if inService s then (captureAttempt s.takings.period { s with takings := { s.takings with period := n } }).2
  else if s.station.state = .joining then { s with takings := { s.takings with period := n, spanStart := n } }
  else s

end Sys2Proof.Machine
end

