-- ==== Sys2Proof/Machine/TabStore.lean ====
section
/-! DEFINITION. The tab store's own operations: line states and the running total (R5, R6), the split arithmetic (R28 to R31, R36,
R37), the kitchen's voids as they reach a tab (R17, R27, R52, R53), and the release of a peer's claims (R44). -/

namespace Sys2Proof

def ClassVec.get (v : ClassVec) : Nat → Nat
  | 0 => v.c0
  | 1 => v.c1
  | 2 => v.c2
  | 3 => v.c3
  | _ => 0

def ClassVec.ofFn (f : Nat → Nat) : ClassVec := ⟨f 0, f 1, f 2, f 3⟩

def ClassVec.sum (v : ClassVec) : Nat := v.c0 + v.c1 + v.c2 + v.c3

end Sys2Proof

namespace Sys2Proof.Machine

/-! ## Lines and totals -/

/-- A charged line counts towards the tab total (R5). -/
def LineState.charged : LineState → Bool
  | .void | .kvoid => false
  | _ => true

/-- VOID, KVOID and REFUND are final (R5). -/
def LineState.final : LineState → Bool
  | .void | .kvoid | .refund => true
  | _ => false

/-- A line a ticket record no longer waits for (R78). -/
def LineState.ended : LineState → Bool
  | .collected | .uncollected | .void | .kvoid | .refund | .lost => true
  | _ => false

def Line.amount (l : Line) : Nat := l.price * l.qty

/-- The class base T[c] over the charged lines (R6). -/
def classBase (c : Nat) (lines : List Line) : Nat :=
  ((lines.filter fun l => l.tax == c && l.state.charged).map Line.amount).sum

/-- The class tax X[c], half a minor unit rounded upwards (R6, R30). -/
def classTax (rate base : Nat) : Nat := (base * rate + 5000) / 10000

/-- Class bases and tab total worked out again from the charged lines (R6). -/
def Tab.recompute (rates : ClassVec) (t : Tab) : Tab :=
  let bases := ClassVec.ofFn fun c => classBase c t.lines
  { t with bases := bases, total := (ClassVec.ofFn fun c => bases.get c + classTax (rates.get c) (bases.get c)).sum }

def findTab (s : State) (n : Nat) : Option Tab := s.tabs.find? (·.number == n)

def modTab (n : Nat) (f : Tab → Tab) (s : State) : State := { s with tabs := mapIf (·.number == n) f s.tabs }

def Tab.line (t : Tab) (n : Nat) : Option Line := t.lines.find? (·.number == n)

/-- The state of a line of a tab; none where there is no such line. -/
def lineState (s : State) (tab line : Nat) : Option LineState := (findTab s tab).bind fun t => (t.line line).map (·.state)

def Tab.modLine (n : Nat) (f : Line → Line) (t : Tab) : Tab := { t with lines := mapIf (·.number == n) f t.lines }

/-- The listed lines whose state satisfies `p` pass to `to` (R18): a move among the charged states, so no total changes. -/
def moveLines (tab : Nat) (lines : List Nat) (p : LineState → Bool) (dst : LineState) (s : State) : State :=
  modTab tab (fun t => { t with lines := mapIf (fun l => lines.contains l.number && p l.state) (fun l => { l with state := dst }) t.lines }) s

/-- One line passes to a state that may end its charge, and the totals are worked out again (R6). -/
def setLineState (tab line : Nat) (dst : LineState) (s : State) : State :=
  modTab tab (fun t => (t.modLine line fun l => { l with state := dst }).recompute s.cfg.rates) s

/-! ## Split arithmetic -/

/-- The share numbers 1..N. -/
def shareNumbers (n : Nat) : List Nat := (List.range n).map (· + 1)

/-- Stage 2: share `s`'s part of a line amount divided among `sharers` (R28). -/
def allocation (amount : Nat) (sharers : List Nat) (s : Nat) : Nat :=
  if sharers.contains s then
    let k := sharers.length
    amount / k + (if (sharers.filter (· < s)).length < amount % k then 1 else 0)
  else 0

/-- How many entries of `rho` take a leftover unit ahead of entry `i`: greater remainder, or equal and lower share number (R30). -/
def remainderRank (rho : List Nat) (i : Nat) : Nat :=
  ((List.range rho.length).filter fun j =>
    decide (rho.getD j 0 > rho.getD i 0) || (rho.getD j 0 == rho.getD i 0 && decide (j < i))).length

/-- Stage 5: a class tax divided among the shares in proportion to their class bases (R30). -/
def taxAllocation (x t : Nat) (bases : List Nat) : List Nat :=
  if t = 0 then bases.map fun _ => 0
  else
    let q := bases.map fun b => x * b / t
    let rho := bases.map fun b => x * b % t
    (List.range bases.length).map fun i => q.getD i 0 + (if remainderRank rho i < x - q.sum then 1 else 0)

/-- Stage 3: the class bases of shares 1..N for one class (R29). -/
def shareBases (count : Nat) (input : List EngineLine) (c : Nat) : List Nat :=
  (shareNumbers count).map fun s => ((input.filter (·.tax == c)).map fun l => allocation l.amount l.sharers s).sum

/-- Stages 3 to 5 for one class: the shares' class taxes. -/
def shareTaxes (rates : ClassVec) (count : Nat) (input : List EngineLine) (c : Nat) : List Nat :=
  let b := shareBases count input c
  taxAllocation (classTax (rates.get c) b.sum) b.sum b

/-- The struck shares: amount from stage 6, AVAILABLE, or SETTLED at once with tender NONE where the amount is 0 (R31, R32). -/
def struckShares (home : Nat) (rates : ClassVec) (count : Nat) (input : List EngineLine) : List Share :=
  (List.range count).map fun i =>
    let bases := ClassVec.ofFn fun c => (shareBases count input c).getD i 0
    let taxes := ClassVec.ofFn fun c => (shareTaxes rates count input c).getD i 0
    let amount := bases.sum + taxes.sum
    if amount = 0 then ⟨i + 1, 0, bases, taxes, .settled, 0, some ⟨.none, 0, home⟩, none⟩
    else ⟨i + 1, amount, bases, taxes, .available, 0, none, none⟩

/-- The split a computation strikes (R31). -/
def struckSplit (home : Nat) (rates : ClassVec) (job : EngineJob) : SplitRec where
  count := job.count
  shares := struckShares home rates job.count job.input
  total := (ClassVec.ofFn fun c =>
    let t := (shareBases job.count job.input c).sum
    t + classTax (rates.get c) t).sum
  allocs := job.input.map fun l => ⟨l.line, (shareNumbers job.count).map (allocation l.amount l.sharers)⟩

/-- Cash rounding with increment `g`, an exact half upwards (R36). -/
def cashTender (g amount : Nat) : Nat :=
  let r := amount % g
  if 2 * r ≥ g then amount - r + g else amount - r

/-- The refund on one allocation (R37). -/
def refundAmount (rate alloc : Nat) : Nat := alloc + (alloc * rate + 5000) / 10000

/-- A line's allocation to a share, fixed at strike. -/
def SplitRec.alloc (sp : SplitRec) (line share : Nat) : Nat :=
  match sp.allocs.find? (·.line == line) with
  | some a => a.amounts.getD (share - 1) 0
  | none => 0

/-! ## Shares -/

def SplitRec.share (sp : SplitRec) (n : Nat) : Option Share := sp.shares.find? (·.number == n)

def SplitRec.anyIn (sp : SplitRec) (st : ShareState) : Bool := sp.shares.any (·.state == st)

/-- A share set AVAILABLE with no claimant and its hold timer stopped (R38). -/
def Share.free (sh : Share) : Share := { sh with state := .available, claimant := 0, hold := none }

def Tab.modShare (n : Nat) (f : Share → Share) (t : Tab) : Tab :=
  { t with split := t.split.map fun sp => { sp with shares := mapIf (·.number == n) f sp.shares } }

def modShare (tab share : Nat) (f : Share → Share) (s : State) : State := modTab tab (·.modShare share f) s

/-- The share of a tab with a split. -/
def findShare (s : State) (tab share : Nat) : Option Share := (findTab s tab).bind fun t => t.split.bind (·.share share)

/-- The split fields removed and every sharer set absent again; the tab is OPEN (R34). -/
def Tab.withdrawSplit (t : Tab) : Tab :=
  { t with split := none, state := .open, lines := t.lines.map fun l => { l with sharers := none } }

/-- The claimant of a share is told that its claim has ended: CLAIM-END to a peer, CLAIM_ENDED at home (R39, R52). -/
def tellClaimEnd (tab share claimant : Nat) (reason : EndReason) (s : State) : State :=
  if claimant = own s then post (.claimEnded (own s) tab share reason) s
  else (sendFrame ⟨Kind.claimEnd, claimant, 0, e2 tab ++ e1 share ++ e1 reason.ctorIdx⟩ s).2

/-- A tab goes CLOSED, is counted and TAB_CLOSED is posted (R16, R32, R43). -/
def closeTab (tab : Nat) (outcome : TabOutcome) (s : State) : State :=
  post (.tabClosed (own s) tab outcome)
    (countTabClosed (modTab tab (fun t => { t with state := .closed, outcome := some outcome }) s))

/-- Every share a station holds CLAIMED, in every tab, returns to AVAILABLE; nothing is sent or posted (R44). -/
def releaseClaimant (k : Nat) (s : State) : State :=
  { s with
    tabs := s.tabs.map fun t =>
      { t with
        split := t.split.map fun sp =>
          { sp with shares := mapIf (fun sh => sh.state == .claimed && sh.claimant == k) Share.free sp.shares } } }

/-! ## Kitchen voids -/

/-- The refund entries of one line, one for each share of its sharer set in share order (R53, R54). -/
def refundEntries (rates : ClassVec) (sp : SplitRec) (l : Line) : List Refund :=
  ((shareNumbers sp.count).filter fun n => (l.sharers.map (·.contains n)).getD true).map fun n =>
    let paid := (sp.share n).bind (·.settlement)
    ⟨l.number, n, refundAmount (rates.get l.tax) (sp.alloc l.number n), paid.isSome, (paid.map (·.tender)).getD .none,
      (paid.map (·.station)).getD 0⟩

/-- The line passes to REFUND, its refund entries are appended and REFUND_DUE is posted; no amount changes (R53). -/
def refundLine (tab : Nat) (sp : SplitRec) (l : Line) (s : State) : State :=
  let entries := refundEntries s.cfg.rates sp l
  post (.refundDue (own s) tab l.number entries.length (entries.map (·.amount)).sum)
    (modTab tab (fun t =>
      { t.modLine l.number (fun x => { x with state := .refund }) with refunds := t.refunds ++ entries }) s)

/-- The automatic withdraw: claimants told CANCELLED in share order, the split removed, the line KVOID, SPLIT_WITHDRAWN (R52). -/
def automaticWithdraw (tab : Nat) (sp : SplitRec) (line : Nat) (s : State) : State :=
  let told := (sp.shares.filter (·.state == .claimed)).foldl (fun s sh => tellClaimEnd tab sh.number sh.claimant .cancelled s) s
  let after := setLineState tab line .kvoid (modTab tab Tab.withdrawSplit told)
  post (.splitWithdrawn (own after) tab line (((findTab after tab).map (·.total)).getD 0)) after

/-- A kitchen's void of a line as the tab's state decides it (R17, R27, R52, R53); anything it does not fit is discarded. -/
def tabKitchenVoid (tab line : Nat) (s : State) : State :=
  match findTab s tab with
  | none => s
  | some t =>
    match t.line line with
    | none => s
    | some l =>
      if l.state.final then s
      else
        match t.state, t.split with
        | .open, _ => setLineState tab line .kvoid s
        | .splitting, _ =>
          let voided := setLineState tab line .kvoid s
          { voided with engine := voided.engine.map fun j => if j.tab = tab then { j with stale := true } else j }
        | .split, some sp => if sp.anyIn .settled then refundLine tab sp l s else automaticWithdraw tab sp line s
        | .closed, some sp => refundLine tab sp l s
        | _, none => s

end Sys2Proof.Machine
end

