-- ==== Sys2Proof/Machine/KitchenOps.lean ====
section
/-! DEFINITION. The kitchen queue's operations (R99 to R115) with the portion transfers they ask for (R103, R122). A report on a
ticket of this home is handed to this station's own router: `rep` is that hand-over, given by RouterOps. -/

namespace Sys2Proof.Machine

/-- A hand-over of a report on a ticket to this station's own router (R110). -/
abbrev HandOver := Nat → Report → State → State

/-- How a reply is given at the moment it is made: as an ANSWER frame, as the pending answer, or not at all for a hand-off. -/
abbrev Answering := Reply → State → State

/-- The reply to a hand-off goes back to the asking block alone (R100). -/
def noAnswer : Answering := fun _ s => s

/-- A reply given with nothing else to do. -/
def answered (ans : Answering) (r : Reply) (s : State) : Reply × State := (r, ans r s)

/-! ## Portion table -/

def findPortion (s : State) (item : Nat) : Option Portion := s.portions.find? (·.item == item)

def modPortion (item : Nat) (f : Portion → Portion) (s : State) : State :=
  { s with portions := mapIf (·.item == item) f s.portions }

def Portion.take (q : Nat) (p : Portion) : Portion := { p with remaining := p.remaining - q, held := p.held + q }
def Portion.fire (q : Nat) (p : Portion) : Portion := { p with held := p.held - q, used := p.used + q }

/-- A return stops at 9999, and loaded falls by the excess (R122). -/
def Portion.giveBack (q : Nat) (p : Portion) : Portion :=
  let excess := p.remaining + q - Config.portionLimit
  { p with remaining := p.remaining + q - excess, held := p.held - q, loaded := p.loaded - excess }

def Portion.addWaste (q : Nat) (p : Portion) : Portion := { p with waste := p.waste + q }

/-- A transfer for each portion-taken line of a list, in order (R103). -/
def transferAll (f : Nat → Portion → Portion) (lines : List KLine) (s : State) : State :=
  (lines.filter (·.taken)).foldl (fun s l => modPortion l.item (f l.qty) s) s

/-! ## The three lists -/

/-- Which list holds a ticket: its state (R98). -/
inductive Place where
  | queued | fired | ready
deriving DecidableEq, Repr

def Kitchen.all (k : Kitchen) : List KTicket := k.queued ++ k.fired ++ k.ready

def Kitchen.locate (p : KTicket → Bool) (k : Kitchen) : Option (Place × KTicket) :=
  match k.queued.find? p with
  | some t => some (.queued, t)
  | none =>
    match k.fired.find? p with
    | some t => some (.fired, t)
    | none => (k.ready.find? p).map fun t => (.ready, t)

def Kitchen.byRef (ref : Nat) (k : Kitchen) : Option (Place × KTicket) := k.locate (·.ref == ref)

/-- The record a key names: orphans match no key (R115). -/
def Kitchen.byKey (home number : Nat) (k : Kitchen) : Option (Place × KTicket) :=
  k.locate fun t => t.home == home && t.number == number && !t.orphan

def Kitchen.mapAll (f : KTicket → KTicket) (k : Kitchen) : Kitchen :=
  { k with queued := k.queued.map f, fired := k.fired.map f, ready := k.ready.map f }

def Kitchen.modRef (ref : Nat) (f : KTicket → KTicket) (k : Kitchen) : Kitchen :=
  k.mapAll fun t => if t.ref = ref then f t else t

/-- The record leaves whichever list holds it. -/
def Kitchen.drop (ref : Nat) (k : Kitchen) : Kitchen :=
  { k with
    queued := k.queued.filter (·.ref != ref)
    fired := k.fired.filter (·.ref != ref)
    ready := k.ready.filter (·.ref != ref) }

/-- The position of a ticket: its place in the queued list from 1, or 0 (R99). -/
def Kitchen.position (ref : Nat) (k : Kitchen) : Nat :=
  if k.queued.any (·.ref == ref) then (k.queued.takeWhile (·.ref != ref)).length + 1 else 0

/-- A new rush ticket goes behind the last rush ticket, a normal one to the tail (R99). -/
def enterQueued (t : KTicket) (l : List KTicket) : List KTicket :=
  if t.rush then l.takeWhile (·.rush) ++ [t] ++ l.dropWhile (·.rush) else l ++ [t]

def KLine.active (l : KLine) : Bool := l.void.isNone

def KTicket.active (t : KTicket) : List KLine := t.lines.filter (·.active)

/-! ## Reports, hold and auto-fire -/

/-- A report on a ticket: handed to this station's own router for a ticket of this home, broadcast otherwise (R110). -/
def makeReport (rep : HandOver) (t : KTicket) (r : Report) (s : State) : State :=
  if t.home = own s then (if t.orphan then s else rep t.number r s)
  else (sendFrame ⟨Kind.ticketState, allStations, 0, eReportPayload t.home t.number t.orphan r⟩ s).2

/-- The flag after the hold test on a depth (R109). -/
def holdAfter (c : StationCfg) (hold : Bool) (depth : Nat) : Bool :=
  if hold then !decide (depth ≤ c.releaseMark) else decide (c.holdMark ≤ depth)

/-- The hold test: a change is reported for a beacon and posted as KITCHEN_HOLD (R109). -/
def holdTest (s : State) : State :=
  let depth := s.kitchen.depth
  let flag := holdAfter s.cfg s.kitchen.hold depth
  if flag = s.kitchen.hold then s
  else post (.kitchenHold flag depth) (holdBeacon { s with kitchen := { s.kitchen with hold := flag } })

/-- A QUEUED ticket is fired: to the tail of the fired list, its fire transfers asked for, FIRED reported (R104). -/
def fireTicket (rep : HandOver) (t : KTicket) (s : State) : State :=
  let k := s.kitchen.drop t.ref
  makeReport rep t (.state .fired)
    (transferAll Portion.fire t.active { s with kitchen := { k with fired := k.fired ++ [t] } })

/-- Auto-fire, one ticket at a time from the head, while the fired list has room (R105). -/
def autoFireLoop (rep : HandOver) : Nat → State → State
  | 0, s => s
  | n + 1, s =>
    match s.kitchen.queued with
    | [] => s
    | t :: _ => if s.kitchen.fired.length < s.cfg.fireLimit then autoFireLoop rep n (fireTicket rep t s) else s

def autoFire (rep : HandOver) (s : State) : State :=
  if s.cfg.autoFire then autoFireLoop rep s.kitchen.queued.length s else s

/-! ## Acceptance -/

/-- The first line whose item is short, counting the lines of one item together (R101): its item. -/
def shortItem (table : List Portion) (seen : List OfferLine) : List OfferLine → Option Nat
  | [] => none
  | l :: rest =>
    let sum := (((seen ++ [l]).filter (·.item == l.item)).map (·.qty)).sum
    match table.find? (·.item == l.item) with
    | some p => if sum > p.remaining then some l.item else shortItem table (seen ++ [l]) rest
    | none => shortItem table (seen ++ [l]) rest

/-- A ticket line within the ranges of R98. -/
def OfferLine.inRange (l : OfferLine) : Bool :=
  decide (1 ≤ l.line) && decide (l.line ≤ 48) && decide (l.item ≤ 4095) && decide (1 ≤ l.qty) && decide (l.qty ≤ 20) &&
  decide (l.mods.length ≤ 3) && l.mods.all (· ≤ 4095)

/-- Test 3 of R100 passes: every field of the offer lies in its range, and no line is named twice. -/
def Offer.inRange (o : Offer) : Bool :=
  decide (1 ≤ o.lines.length) && decide (o.lines.length ≤ 8) && decide ((o.lines.map (·.line)).Nodup) &&
  o.lines.all (·.inRange) && decide (1 ≤ o.ticket) && decide (o.ticket ≤ 65535) && decide (1 ≤ o.tab) && decide (o.tab ≤ 999) &&
  decide (o.rush ≤ 1)

def acceptReply (position depth : Nat) : Reply := ⟨.ACCEPT, e1 position ++ e1 depth⟩

/-- The record an accepted offer makes (R98, R102). -/
def newKTicket (s : State) (home ref : Nat) (o : Offer) : KTicket where
  ref := ref
  home := home
  number := o.ticket
  orphan := false
  tab := o.tab
  prep := o.prep
  rush := o.rush == 1
  lines := o.lines.map fun l => ⟨l.line, l.item, l.qty, l.mods, none, (findPortion s l.item).isSome⟩
  accepted := stationTime s
  seq := s.kitchen.accepts
  warn := false
  late := false
  unread := true
  warnTimer := some (s.cfg.warnTime * 1000)
  lateTimer := some (s.cfg.lateTime * 1000)
  collectTimer := none

/-- An accepted ticket in the order of R102: the answer is made before the hold test and auto-fire. -/
def acceptTicket (rep : HandOver) (ans : Answering) (home ref : Nat) (o : Offer) (s : State) : Reply × State :=
  let t := newKTicket s home ref o
  let taken := transferAll Portion.take t.lines s
  let entered : State :=
    { taken with kitchen := { taken.kitchen with queued := enterQueued t taken.kitchen.queued, accepts := taken.kitchen.accepts + 1 } }
  let position := entered.kitchen.position ref
  let reply := acceptReply position entered.kitchen.depth
  let noted := countAccepted (post (.newTicket ref home o.ticket t.rush position) (ans reply entered))
  (reply, autoFire rep (holdTest noted))

/-- A ticket offer tested in the order of R100; it is a frame's or this station's own router's, tested alike. -/
def takeOffer (rep : HandOver) (ans : Answering) (home : Nat) (o : Offer) (s : State) : Reply × State :=
  match s.kitchen.byKey home o.ticket with
  | some (_, t) => answered ans (acceptReply (s.kitchen.position t.ref) s.kitchen.depth) s
  | none =>
    if !s.cfg.prep.contains o.prep then answered ans (.bare .NOT_SERVED) s
    else if !o.inRange then answered ans (.bare .BAD_PARAM) s
    else if Config.kitchenCapacity ≤ s.kitchen.all.length then answered ans (.bare .FULL) s
    else
      match shortItem s.portions [] o.lines with
      | some item => answered ans ⟨.SOLD_OUT, e2 item⟩ s
      | none =>
        match leastFree Config.kitchenCapacity (fun r => s.kitchen.all.any (·.ref == r)) with
        | none => answered ans (.bare .FULL) s
        | some ref => acceptTicket rep ans home ref o s

/-! ## Voids -/

def VoidOutcome.result : VoidOutcome → Result
  | .returned => .RETURNED
  | .wasted => .WASTED

/-- The outcome a void has by the ticket's state (R98, R112). -/
def Place.outcome : Place → VoidOutcome
  | .queued => .returned
  | .fired => .wasted
  | .ready => .wasted

/-- A ticket left with no ACTIVE line leaves the queue: VOIDED reported, counted, and for a QUEUED or FIRED one the hold test, for a
FIRED one auto-fire (R111). -/
def removeVoided (rep : HandOver) (p : Place) (t : KTicket) (s : State) : State :=
  let left := countVoided (makeReport rep t (.state .voided) { s with kitchen := s.kitchen.drop t.ref })
  match p with
  | .queued => holdTest left
  | .fired => autoFire rep (holdTest left)
  | .ready => left

/-- The named ACTIVE lines of a ticket become VOID, with their transfers, waste count and report; a ticket left with no ACTIVE line
leaves the queue (R111, R112, R113). The report names the lines in the order the request named them (log entry 67). -/
def voidKLines (rep : HandOver) (p : Place) (t : KTicket) (names : List Nat) (byKitchen : Bool) (s : State) : State :=
  let hit := t.active.filter fun l => names.contains l.line
  if hit.isEmpty then s
  else
    let t' : KTicket :=
      { t with lines := mapIf (fun l => l.active && names.contains l.line) (fun l => { l with void := some p.outcome }) t.lines }
    let moved : State := { s with kitchen := s.kitchen.modRef t.ref fun _ => t' }
    let paid :=
      match p with
      | .queued => transferAll Portion.giveBack hit moved
      | _ => countWaste (hit.map (·.qty)).sum (transferAll Portion.addWaste hit moved)
    let named := (names.foldl (fun l n => addNew n l) []).filter fun n => hit.any (·.line == n)
    let reported := makeReport rep t' (.voids byKitchen named) paid
    if t'.active.isEmpty then removeVoided rep p t' reported else reported

/-- How a request to void lines ended: per line, for the whole ticket UNKNOWN, or with a cause that gives no result per line (R91). -/
inductive VoidAnswer where
  | lines (results : List (Nat × Nat))
  | unknown
  | failed (cause : Nat)
deriving DecidableEq, Repr

/-- One named line's result in a TICKET-VOID answer (R112). -/
def lineVoidResult (p : Place) (t : KTicket) (n : Nat) : Result :=
  match t.lines.find? (·.line == n) with
  | none => .UNKNOWN
  | some l => (l.void.getD p.outcome).result

/-- A TICKET-VOID or its hand-off (R112); an empty list names every line of the ticket. -/
def kitchenTicketVoid (rep : HandOver) (home number : Nat) (lines : List Nat) (s : State) : VoidAnswer × State :=
  match s.kitchen.byKey home number with
  | none => (.unknown, s)
  | some (p, t) =>
    let names := if lines.isEmpty then t.lines.map (·.line) else lines
    (.lines (names.map fun n => (n, (lineVoidResult p t n).code)), voidKLines rep p t names false s)

/-! ## Queries and orphans -/

def Place.code : Place → Nat
  | .queued => 0
  | .fired => 1
  | .ready => 2

/-- A query's content: place, position, depth and each line with whether it is VOID (R114). -/
structure KitchenView where
  place : Place
  position : Nat
  depth : Nat
  lines : List (Nat × Bool)
deriving DecidableEq, Repr

/-- A TICKET-QUERY or its hand-off; none is UNKNOWN. It changes nothing (R114). -/
def kitchenQuery (s : State) (home number : Nat) : Option KitchenView :=
  (s.kitchen.byKey home number).map fun (p, t) =>
    ⟨p, s.kitchen.position t.ref, s.kitchen.depth, t.lines.map fun l => (l.line, !l.active)⟩

def KitchenView.reply (v : KitchenView) : Reply :=
  ⟨.OK, e1 v.place.code ++ e1 v.position ++ e1 v.depth ++ eList (fun p => e1 p.1 ++ eFlag p.2) v.lines⟩

/-- A home's rejoin sets the orphan flag on its records, and TICKETS_ORPHANED gives how many were flagged (R115). -/
def orphanTickets (home : Nat) (s : State) : State :=
  let n := (s.kitchen.all.filter fun t => t.home == home && !t.orphan).length
  let flagged : State := { s with kitchen := s.kitchen.mapAll fun t => if t.home = home then { t with orphan := true } else t }
  if n = 0 then flagged else post (.ticketsOrphaned home n) flagged

end Sys2Proof.Machine
end

