-- ==== Sys2Proof/Machine/RouterOps.lean ====
section
/-! DEFINITION. The ticket router's operations (R77 to R95): records and their ends, void requests, placement, reports at the home,
strays, candidates and offers. The hand-over between this station's own kitchen and its router is tied here. -/

namespace Sys2Proof.Machine

/-- A request to this station's own kitchen to void lines, answered in the same event (R90). -/
abbrev OwnVoid := Nat → List Nat → State → VoidAnswer × State

/-! ## Records -/

def findTicket (s : State) (n : Nat) : Option Ticket := s.router.tickets.find? (·.number == n)

def modTicket (n : Nat) (f : Ticket → Ticket) (s : State) : State :=
  { s with router := { s.router with tickets := mapIf (·.number == n) f s.router.tickets } }

def dropTicket (n : Nat) (s : State) : State :=
  { s with router := { s.router with tickets := s.router.tickets.filter (·.number != n) } }

/-- A listed line has ended (R78); a line no tab holds is no longer waited for. -/
def lineEnded (s : State) (tab line : Nat) : Bool := ((lineState s tab line).map LineState.ended).getD true

def Ticket.isOffered (t : Ticket) : Bool :=
  match t.state with
  | .offered _ => true
  | _ => false

/-- A record whose every listed line has ended, or that lists none, is removed; while an offer is out the record stays until the offer
ends (R15, R78, R85; log entry 15). -/
def pruneTicket (n : Nat) (s : State) : State :=
  match findTicket s n with
  | some t => if !t.isOffered && t.lines.all (lineEnded s t.tab) then dropTicket n s else s
  | none => s

/-- Every listed line that has not ended passes to `to`, and the record is removed (R87, R92, R94, R95). -/
def endTicket (t : Ticket) (dst : LineState) (s : State) : State :=
  dropTicket t.number (moveLines t.tab t.lines (fun st => !st.ended) dst s)

/-- The record passes to UNROUTED with its PENDING lines, and UNROUTED is posted (R84). -/
def unroute (t : Ticket) (reason : UnroutedReason) (s : State) : State :=
  post (.unrouted t.number t.tab t.prep reason)
    (moveLines t.tab t.lines (· == .pending) .unrouted (modTicket t.number (fun t => { t with state := .unrouted }) s))

/-! ## Void requests (R90, R91) -/

/-- The one result of a stray void: the result every line was answered with; a mixture is not stated by the spec (log entry 31).
A line's result code beyond those of R91 is posted as it stands (log entry 65). -/
def strayResult : VoidAnswer → Byte
  | .unknown => byteOf Result.UNKNOWN.code
  | .failed c => byteOf c
  | .lines rs =>
    let codes := rs.map (·.2)
    match codes with
    | [] => Config.strayMixedResult []
    | c :: rest => if rest.all (· == c) then byteOf c else Config.strayMixedResult codes

/-- The end of a void request (R91): VOID_RESULT and VOID_UNCONFIRMED for a TILL request, STRAY_VOIDED for a STRAY one. The cause given
for a named line that an OK answer leaves out is UNKNOWN (log entry 58), and so it is for one answered with a code beyond those of R91 (log
entry 65). -/
def voidEnd (e : VoidEntry) (a : VoidAnswer) (s : State) : State :=
  match e.purpose with
  | .stray => post (.strayVoided e.ticket e.kitchen (strayResult a)) s
  | .till =>
    let results :=
      match a with
      | .lines rs => rs
      | _ => []
    let cause :=
      match a with
      | .failed c => c
      | _ => Result.UNKNOWN.code
    let confirmed := results.filter fun r => r.2 == Result.RETURNED.code || r.2 == Result.WASTED.code
    let open_ := e.lines.filter fun n => !confirmed.any (·.1 == n)
    let first := if confirmed.isEmpty then s else post (.voidResult e.ticket e.kitchen confirmed) s
    if open_.isEmpty then first else post (.voidUnconfirmed e.ticket e.kitchen open_ cause) first

/-- A void request: handed to this station's own kitchen at once, added to an unsent TILL entry of the same kitchen and ticket, queued,
or ended BUSY at a full queue (R90). A hand-off's outcome is posted after all that the kitchen does in the event (log entry 72). A Tab
void of several lines of a ticket at the own kitchen hands over one request for each line (log entry 76). -/
def requestVoid (ownVoid : OwnVoid) (e : VoidEntry) (s : State) : State :=
  if e.kitchen = own s then
    let (a, s') := ownVoid e.ticket e.lines s
    voidEnd e a s'
  else
    let same := fun (x : VoidEntry) => x.kitchen == e.kitchen && x.ticket == e.ticket && x.purpose == .till
    if e.purpose = .till ∧ s.router.voids.any same = true then
      { s with
        router := { s.router with voids := mapIf same (fun x => { x with lines := e.lines.foldl (fun l n => addNew n l) x.lines }) s.router.voids } }
    else if Config.voidCapacity ≤ s.router.voids.length then voidEnd e (.failed Result.BUSY.code) s
    else { s with router := { s.router with voids := s.router.voids ++ [e] } }

/-- A stray kitchen is asked once to void the whole ticket (R89). -/
def strayVoid (ownVoid : OwnVoid) (t : Ticket) (k : Nat) (s : State) : State :=
  if t.stray.contains k then s
  else requestVoid ownVoid ⟨k, t.number, t.tab, [], .stray⟩ (modTicket t.number (fun t => { t with stray := t.stray ++ [k] }) s)

/-! ## Placement (R83, R86) -/

def modPeer (k : Nat) (f : Peer → Peer) (s : State) : State :=
  { s with dir := { s.dir with entries := mapIf (·.station == k) f s.dir.entries } }

/-- The depth an ACCEPT carries is recorded, one above 48 as 48 (log entry 56); nothing where the kitchen has no entry or no kitchen
fields (R69). -/
def recordDepth (k depth : Nat) (s : State) : State :=
  modPeer k (fun p => { p with load := p.load.map fun l => { l with depth := min depth 48 } }) s

/-- Placed-since-beacon rises by 1, stopping at 255 (R69). -/
def recordPlaced (k : Nat) (s : State) : State :=
  modPeer k (fun p => { p with load := p.load.map fun l => { l with placed := min (l.placed + 1) 255 } }) s

/-- The VOID lines a placement carries: listed ones (R83), or every VOID line of the tab that bears the ticket number (R86). -/
def linesToVoid (s : State) (t : Ticket) (late : Bool) : List Nat :=
  match findTab s t.tab with
  | none => []
  | some tab =>
    (tab.lines.filter fun l => l.state == .void && (if late then l.ticket == some t.number else t.lines.contains l.number)).map (·.number)

/-- The ticket is placed at `k` with kitchen state QUEUED; its waiting lines are QUEUED, the load figures rise, and VOID lines are
asked for (R83, R86). -/
def placeTicket (ownVoid : OwnVoid) (t : Ticket) (k : Nat) (depth : Option Nat) (late : Bool) (s : State) : State :=
  let placed := modTicket t.number (fun t => { t with state := .placed k .queued }) s
  let lines := moveLines t.tab t.lines (fun st => st == .pending || st == .unrouted) .queued placed
  let loaded := recordPlaced k (match depth with | some d => recordDepth k d lines | none => lines)
  let voids := linesToVoid loaded t late
  pruneTicket t.number (if voids.isEmpty then loaded else requestVoid ownVoid ⟨k, t.number, t.tab, voids, .till⟩ loaded)

/-- An ACCEPT that completes an offer's exchange, or its hand-off's (R83); a removed record goes to R86. -/
def takeAccept (ownVoid : OwnVoid) (n k depth : Nat) (s : State) : State :=
  match findTicket s n with
  | none => requestVoid ownVoid ⟨k, n, 0, [], .stray⟩ s
  | some t =>
    match t.state with
    | .offered k' => if k' = k then placeTicket ownVoid t k (some depth) false s else strayVoid ownVoid t k s
    | .placed k' _ => if k' = k then recordDepth k depth s else strayVoid ownVoid t k s
    | _ => strayVoid ownVoid t k s

/-- An ACCEPT that matches no live exchange (R86). Every placement it makes asks for all VOID lines of the tab with the ticket's number,
those taken out of the record among them. -/
def takeLateAccept (ownVoid : OwnVoid) (n k depth : Nat) (s : State) : State :=
  match findTicket s n with
  | none => requestVoid ownVoid ⟨k, n, 0, [], .stray⟩ s
  | some t =>
    match t.state with
    | .placed k' _ => if k' = k then recordDepth k depth s else strayVoid ownVoid t k s
    | _ => placeTicket ownVoid t k (some depth) true s

/-- An offer that failed (R84, R85): the kitchen is tried, VOID lines leave the record, and the record is PENDING, UNROUTED or gone. -/
def failOffer (n k : Nat) (s : State) : State :=
  match findTicket s n with
  | none => s
  | some t =>
    if t.state = .offered k then
      let t' : Ticket := { t with state := .pending, tried := addNew k t.tried, lines := t.lines.filter fun l => !lineEnded s t.tab l }
      let s' := modTicket n (fun _ => t') s
      if t'.lines.isEmpty then dropTicket n s'
      else if t.attempts < Config.maxAttempts then s'
      else unroute t' .attempts s'
    else s

/-! ## Kitchen reports at the home (R87 to R89) -/

/-- A kitchen's line voids, passed to the tab store in the order named; numbers the record does not list are ignored (R88). -/
def reportVoids (t : Ticket) (lines : List Nat) (s : State) : State :=
  pruneTicket t.number ((lines.filter t.lines.contains).foldl (fun s l => tabKitchenVoid t.tab l s) s)

/-- A report from the record's placement (R87, R88); the mirrored state moves only forward. -/
def applyPlaced (t : Ticket) (k : Nat) (ks : KState) (r : Report) (s : State) : State :=
  match r with
  | .state .fired =>
    if ks = .queued then
      moveLines t.tab t.lines (· == .queued) .fired (modTicket t.number (fun t => { t with state := .placed k .fired }) s)
    else s
  | .state .ready =>
    if ks = .ready then s
    else
      post (.ticketReady t.number t.tab)
        (moveLines t.tab t.lines (fun st => st == .queued || st == .fired) .ready
          (modTicket t.number (fun t => { t with state := .placed k .ready }) s))
  | .state .collected => endTicket t .collected s
  | .state .uncollected => endTicket t .uncollected s
  | .state .voided => endTicket t .lost s
  | .voids true lines => reportVoids t lines s
  | .voids false _ => s

/-- A frame from a kitchen that is not the placement and was not offered the ticket: FIRED or READY draws a whole-ticket void (R89). -/
def applyStray (ownVoid : OwnVoid) (t : Ticket) (k : Nat) (r : Report) (s : State) : State :=
  match r with
  | .state .fired => strayVoid ownVoid t k s
  | .state .ready => strayVoid ownVoid t k s
  | _ => s

/-- A report on ticket `n` from kitchen `k` (R87, R89): applied at the placement, counted as an acceptance from a kitchen offered or
tried, stray otherwise; discarded where no record has the number. A record that the placement removes, its every line having ended, is
removed before the report is applied (log entry 66). A kitchen that Retry has taken out of the tried set counts as never offered the
ticket (log entry 75). -/
def applyReport (ownVoid : OwnVoid) (k n : Nat) (r : Report) (s : State) : State :=
  match findTicket s n with
  | none => s
  | some t =>
    match t.state with
    | .placed k' ks => if k' = k then applyPlaced t k ks r s else applyStray ownVoid t k r s
    | st =>
      if st = .offered k ∨ t.tried.contains k = true then
        let placed := placeTicket ownVoid t k none true s
        match findTicket placed n with
        | some t' => applyPlaced t' k .queued r placed
        | none => placed
      else applyStray ownVoid t k r s

/-- This station's own kitchen's reports, handed to its router; each nested void request is one level down (R87, R110). -/
def handReport : Nat → HandOver
  | 0 => fun _ _ s => s
  | d + 1 => fun n r s =>
    applyReport (fun n ls s => kitchenTicketVoid (handReport d) (own s) n ls s) (own s) n r s

/-- The hand-over every event starts with. -/
def ownReport : HandOver := handReport Config.handoffDepth

/-- A void request handed to this station's own kitchen. -/
def ownVoid : OwnVoid := fun n ls s => kitchenTicketVoid ownReport (own s) n ls s

/-! ## A till's void (R15) -/

/-- A line passes to VOID, and its ticket is dealt with by the state the line was in just before (R14, R15); a final line stays as it
is (R5). -/
def voidLine (tab line : Nat) (s : State) : State :=
  match (findTab s tab).bind (·.line line) with
  | none => s
  | some l =>
    if l.state.final then s
    else
      let voided := setLineState tab line .void s
      match l.ticket.bind (findTicket s) with
      | none => voided
      | some t =>
        match l.state, t.state with
        | .pending, .offered _ => voided
        | .pending, _ | .unrouted, _ =>
          pruneTicket t.number (modTicket t.number (fun t => { t with lines := t.lines.filter (· != line) }) voided)
        | .queued, .placed k _ | .fired, .placed k _ =>
          pruneTicket t.number (requestVoid ownVoid ⟨k, t.number, t.tab, [line], .till⟩ voided)
        | .ready, _ => pruneTicket t.number voided
        | _, _ => voided

/-! ## Choosing a kitchen (R80, R81) -/

/-- Judged OUT for an item: a peer by the stock view, this station's own kitchen by its portion table (R9, R80). -/
def judgedOut (s : State) (k item : Nat) : Bool :=
  if k = own s then ((findPortion s item).map fun p => p.remaining == 0).getD false
  else s.stock.any fun e => e.item == item && e.kitchen == k && e.state == .out

/-- The kitchens able to serve a prep class: PRESENT peers and this station itself (R9, R80). -/
def servingKitchens (s : State) (prep : Nat) : List Nat :=
  ((s.dir.entries.filter fun p => p.presence == .present && p.kitchen && p.prep.contains prep).map (·.station)) ++
  (if s.cfg.kitchen && s.cfg.prep.contains prep then [own s] else [])

def onHold (s : State) (k : Nat) : Bool :=
  if k = own s then s.kitchen.hold else (((findPeer s k).bind (·.load)).map (·.hold)).getD false

/-- A filter that would leave the set empty is not applied (R80). -/
def filterUnlessEmpty (p : Nat → Bool) (l : List Nat) : List Nat := if (l.filter p).isEmpty then l else l.filter p

/-- The items of a record's listed lines. -/
def ticketItems (s : State) (t : Ticket) : List Nat :=
  match findTab s t.tab with
  | none => []
  | some tab => (tab.lines.filter fun l => t.lines.contains l.number).map (·.item)

def candidates (s : State) (t : Ticket) : List Nat := (servingKitchens s t.prep).filter fun k => !t.tried.contains k

/-- Projected load: a peer's depth plus placed-since-beacon, this station's own depth (R81). -/
def projectedLoad (s : State) (k : Nat) : Nat :=
  if k = own s then s.kitchen.depth else (((findPeer s k).bind (·.load)).map fun l => l.depth + l.placed).getD 0

def distance (a b : Nat) : Nat := (a - b) + (b - a)

/-- Kitchen `a` is chosen ahead of `b`: lower load, then nearer, then lower number (R81). -/
def choosesOver (s : State) (a b : Nat) : Bool :=
  let la := projectedLoad s a
  let lb := projectedLoad s b
  let da := distance a (own s)
  let db := distance b (own s)
  decide (la < lb) || (la == lb && (decide (da < db) || (da == db && decide (a < b))))

def bestOf (s : State) : List Nat → Option Nat
  | [] => none
  | k :: rest =>
    match bestOf s rest with
    | none => some k
    | some b => if choosesOver s b k then some b else some k

/-- The kitchen a record is offered to: candidates, stock filter, hold filter, lowest load (R80, R81). -/
def chooseKitchen (s : State) (t : Ticket) : Option Nat :=
  let items := ticketItems s t
  let stocked := filterUnlessEmpty (fun k => !items.any (judgedOut s k)) (candidates s t)
  bestOf s (filterUnlessEmpty (fun k => !onHold s k) stocked)

/-! ## Offering (R79, R82) -/

/-- The offer's content, from the record and the tab (R82). -/
def buildOffer (s : State) (t : Ticket) : Offer where
  ticket := t.number
  tab := t.tab
  prep := t.prep
  rush := if t.rush then 1 else 0
  lines :=
    match findTab s t.tab with
    | none => []
    | some tab => (tab.lines.filter fun l => t.lines.contains l.number).map fun l => ⟨l.number, l.item, l.qty, l.mods⟩

/-- The offer of a record to a kitchen (R82): to a peer by exchange, to this station's own kitchen by hand-off, acted on at once. The
router takes the hand-off's answer when the kitchen has done all of R102, so after a FIRED report of its auto-fire (log entry 71). -/
def offerTo (t : Ticket) (k : Nat) (s : State) : State :=
  let offered := modTicket t.number (fun t => { t with attempts := t.attempts + 1, state := .offered k }) s
  let o := buildOffer s t
  if k = own s then
    let (reply, s') := takeOffer ownReport noAnswer k o offered
    if reply.result = .ACCEPT then takeAccept ownVoid t.number k (s'.kitchen.depth) s' else failOffer t.number k s'
  else
    match openExchange Kind.ticket k t.number 0 .offer (eOfferPayload o) offered with
    | (.STARTED, s') => s'
    | (.LINK_BUSY, s') =>
      let back := modTicket t.number (fun _ => t) s'
      { back with router := { back.router with pause := true } }
    | (_, s') => failOffer t.number k s'

/-- The oldest void queue entry is sent, or ends with the cause of its failure (R90). -/
def sendVoid (e : VoidEntry) (rest : List VoidEntry) (s : State) : State :=
  let popped : State := { s with router := { s.router with voids := rest } }
  match openExchange Kind.ticketVoid e.kitchen e.ticket 0 (.void e.purpose e.tab e.lines) (e2 e.ticket ++ eList e1 e.lines) popped with
  | (.STARTED, s') => s'
  | (r, s') => voidEnd e (.failed r.code) s'

/-- A PENDING record the router can act on now: no candidate, its own kitchen, or a peer with the offer pause clear (R79). With the pause
set, a record bound for a peer is passed over and a later one may be acted on (log entry 55). -/
def offerable (s : State) (t : Ticket) : Bool :=
  t.state == .pending &&
  match chooseKitchen s t with
  | none => true
  | some k => k == own s || !s.router.pause

/-- A PENDING record for which, in ISOLATED, this station's own kitchen is a candidate (R79). -/
def ownOfferable (s : State) (t : Ticket) : Bool := t.state == .pending && (candidates s t).contains (own s)

/-- The router's work at the end of an event (R79, R90): void requests first, then offers in list order, while an exchange entry is
free; in ISOLATED, offers to this station's own kitchen. -/
def routerLoop : Nat → State → State
  | 0, s => s
  | n + 1, s =>
    if s.station.state = .online then
      if exchangeFree s then
        match s.router.voids with
        | e :: rest => routerLoop n (sendVoid e rest s)
        | [] =>
          match s.router.tickets.find? (offerable s) with
          | none => s
          | some t =>
            match chooseKitchen s t with
            | none => routerLoop n (unroute t .noCandidate s)
            | some k => routerLoop n (offerTo t k s)
      else s
    else if s.station.state = .isolated then
      match s.router.tickets.find? (ownOfferable s) with
      | none => s
      | some t => routerLoop n (offerTo t (own s) s)
    else s

/-- Enough rounds for every void request and for every record's three offers and its end (log entry 21). -/
def routerRounds (s : State) : Nat := s.router.voids.length + 8 * s.router.tickets.length + 32

def routerWork (s : State) : State := routerLoop (routerRounds s) s

/-! ## A kitchen lost or rejoined (R93, R94) -/

def Ticket.placedAt (t : Ticket) (k : Nat) : Bool :=
  match t.state with
  | .placed k' _ => k' == k
  | _ => false

/-- KITCHEN_LOST with the number of records placed there, if there is at least one; the records stand (R93). -/
def routerLost (k : Nat) (s : State) : State :=
  let n := (s.router.tickets.filter (·.placedAt k)).length
  if n = 0 then s else post (.kitchenLost k n) s

/-- One record placed at a rejoined kitchen: QUEUED goes back to PENDING with only its lines still to be made, FIRED or READY ends with
its lines LOST (R94). -/
def rejoinTicket (k : Nat) (s : State) (t : Ticket) : State :=
  match t.state with
  | .placed k' ks =>
    if k' ≠ k then s
    else if ks = .queued then
      let back := modTicket t.number
        (fun t => { t with state := .pending, tried := [], attempts := 0, lines := t.lines.filter fun l => !lineEnded s t.tab l }) s
      pruneTicket t.number (moveLines t.tab t.lines (· == .queued) .pending back)
    else post (.ticketLost t.number t.tab k) (endTicket t .lost s)
  | _ => s

/-- The rejoined kitchen leaves the tried and stray sets of every record that is not PLACED (R94). -/
def forgetKitchen (k : Nat) (t : Ticket) : Ticket :=
  match t.state with
  | .placed _ _ => t
  | _ => { t with tried := t.tried.filter (· != k), stray := t.stray.filter (· != k) }

def routerRejoined (k : Nat) (s : State) : State :=
  let taken := s.router.tickets.foldl (rejoinTicket k) s
  { taken with router := { taken.router with tickets := taken.router.tickets.map (forgetKitchen k) } }

end Sys2Proof.Machine
end

