-- ==== Sys2Proof/Machine/PeerOps.lean ====
section
/-! DEFINITION. The peer directory's operations (R63 to R67): presence, new entries, evictions, and the reports of a loss or a rejoin
to the blocks that act on them. -/

namespace Sys2Proof.Machine

/-- Four times the advertised interval, or 8000 ms before any beacon (R63). -/
def Peer.silenceMs (p : Peer) : Nat :=
  match p.interval with
  | some i => 4 * i
  | none => Config.unknownSilenceMs

/-- The stock view drops a kitchen's entries (R131). -/
def dropStock (k : Nat) (s : State) : State := { s with stock := s.stock.filter (·.kitchen != k) }

/-- The claims list removes a rejoined home's entries, with CLAIM_LOST for each in list order (R51). -/
def claimsRejoined (k : Nat) (s : State) : State :=
  postAll ((s.claims.filter (·.home == k)).map fun e => .claimLost e.home e.tab e.share)
    { s with claims := s.claims.filter (·.home != k) }

/-- The report of a rejoin to the tab store, the claims list, the router, the kitchen queue and the stock view (R67). -/
def reportRejoin (k : Nat) (s : State) : State :=
  dropStock k (orphanTickets k (routerRejoined k (claimsRejoined k (releaseClaimant k s))))

/-- The report of a loss to the tab store, the router and the stock view; the claims list keeps its entries (R65, R51). -/
def reportLost (k : Nat) (s : State) : State := dropStock k (routerLost k (releaseClaimant k s))

/-- A new entry: roles NONE, nothing recorded, PRESENT, 8000 ms (R64). -/
def Peer.fresh (k : Nat) : Peer :=
  ⟨k, false, false, [], none, none, none, .present, some Config.unknownSilenceMs, none, true⟩

def enterPeer (k : Nat) (s : State) : State :=
  reportRejoin k { s with dir := { s.dir with entries := insertBy (·.station) (Peer.fresh k) s.dir.entries } }

/-- A frame from a station with no entry: entered, in the earliest LOST entry's room if the directory is full, or left out with
PEERS_FULL (R64). The evicted station's rejoin is reported, and PEER_EVICTED posted, before the newcomer's rejoin (log entry 70). -/
def newPeer (k : Nat) (s : State) : State :=
  if s.dir.entries.length < Config.peerCapacity then enterPeer k s
  else
    match s.dir.lostOrder with
    | e :: rest =>
      let evicted := reportRejoin e
        { s with dir := { s.dir with entries := s.dir.entries.filter (·.station != e), lostOrder := rest } }
      enterPeer k (post (.peerEvicted e) evicted)
    | [] => if s.dir.full then s else post (.peersFull k) { s with dir := { s.dir with full := true } }

/-- A source's entry is refreshed: its silence timer restarts, and a LOST entry is PRESENT again. `quiet` holds PEER_RETURNED back for
a beacon that shows a restart, where PEER_REJOINED stands in its place (R63, R67). -/
def refreshPeer (k : Nat) (quiet : Bool) (s : State) : State :=
  match findPeer s k with
  | none => newPeer k s
  | some p =>
    if p.presence = .lost then
      let back := modPeer k (fun p => { p with presence := .present, silence := some p.silenceMs, changed := true })
        { s with dir := { s.dir with lostOrder := s.dir.lostOrder.filter (· != k) } }
      if quiet then back else post (.peerReturned k) back
    else modPeer k (fun p => { p with silence := some p.silenceMs }) s

/-- A join age that does not rise shows a rejoin, but for two carrying the largest age or two carrying 0 (R67). -/
def ageShowsRejoin (recorded : Option Nat) (age : Nat) : Bool :=
  match recorded with
  | none => false
  | some old => decide (age ≤ old) && !(age == Config.max32 && old == Config.max32) && !(age == 0 && old == 0)

/-- An advertised interval as an entry holds it: within 250..2000, down to a multiple of 250 (R66). -/
def clampInterval (n : Nat) : Nat := min 2000 (max 250 n) / 250 * 250

/-- A beacon's fields recorded in its source's entry (R66); values no sender could send are taken to the nearest the entry holds. -/
def recordBeacon (b : BeaconFields) (p : Peer) : Peer :=
  let till := b.roles.getLsbD 0
  let kitchen := b.roles.getLsbD 1
  let hold := b.hold != 0
  let holdChanged := kitchen && (p.load.map fun l => l.hold != hold).getD false
  { p with
    till := till
    kitchen := kitchen
    prep := membersOf 0 b.prep
    interval := some (clampInterval b.interval)
    joinAge := some b.joinAge
    period := some (min b.period Config.maxPeriod)
    load := if kitchen then some ⟨min b.depth 48, hold, min b.late 48, 0⟩ else none
    changed := p.changed || till != p.till || kitchen != p.kitchen || holdChanged }

/-- A delivered beacon at the directory: the rejoin test, the record, the refresh (R66, R67). -/
def takeBeacon (k : Nat) (b : BeaconFields) (s : State) : State :=
  match findPeer s k with
  | none => s
  | some p =>
    if ageShowsRejoin p.joinAge b.joinAge then
      let recorded := modPeer k (fun p => { recordBeacon b p with changed := true }) (reportRejoin k s)
      post (.peerRejoined k (b.roles.getLsbD 0) (b.roles.getLsbD 1) b.joinAge) (refreshPeer k true recorded)
    else refreshPeer k false (modPeer k (recordBeacon b) s)

/-- A peer's silence timer expires: LOST, at the end of the LOST order, reported (R65). -/
def losePeer (p : Peer) (s : State) : State :=
  reportLost p.station
    (post (.peerLost p.station p.till p.kitchen)
      (modPeer p.station (fun q => { q with presence := .lost, silence := none, changed := true })
        { s with dir := { s.dir with lostOrder := s.dir.lostOrder ++ [p.station], full := false } }))

end Sys2Proof.Machine
end

