-- ==== Sys2Proof/Machine/LinkOps.lean ====
section
/-! DEFINITION. The lane front end's operations: receiver states (R147, R148), isolation (R140), the merge (R150, R151), entry to
DUPLICATE (R143), and the receive queue (R152, R162, R179). -/

namespace Sys2Proof.Machine

/-! ## Receiver states -/

def anyLocked (s : State) : Bool := s.link.a.state == .locked || s.link.b.state == .locked

/-- The isolation timer and the return from ISOLATED, after the receivers may have changed (R140). -/
def watchLanes (s : State) : State :=
  match s.station.state with
  | .online =>
    if anyLocked s then { s with station := { s.station with isolation := none } }
    else { s with station := { s.station with isolation := some (s.station.isolation.getD Config.isolationMs) } }
  | .isolated =>
    if anyLocked s then
      post (.stationState .online none) { s with station := { s.station with state := .online, isolation := none } }
    else s
  | _ => s

/-- The silence timer a receiver carries into a state: stopped in DOWN, started on the way into HUNT if it was stopped, standing in
STUCK, kept otherwise (R147; log entry 24). -/
def silenceInto (st : RxState) (t : Timer) : Timer :=
  match st with
  | .down => none
  | .hunt => some (t.getD Config.laneSilenceMs)
  | .locked => t
  | .stuck => t

/-- A receiver moves: its runs go to 0 and its changed flag is set (R146, R148). -/
def Receiver.enter (st : RxState) (r : Receiver) : Receiver :=
  { r with state := st, goodRun := 0, badRun := 0, changed := true, silence := silenceInto st r.silence }

/-- A receiver's move, LANE_STATE posted, and the station watched for isolation (R147, R148, R140). -/
def moveLane (lane : Lane) (st : RxState) (s : State) : State :=
  let r := s.link.rx lane
  if r.state = st then s
  else watchLanes (post (.laneState lane r.state st) { s with link := s.link.setRx (r.enter st) lane })

def modRx (lane : Lane) (f : Receiver → Receiver) (s : State) : State :=
  { s with link := s.link.setRx (f (s.link.rx lane)) lane }

/-- A change of the tags seen; a tag status that changes with them posts TAG_STATUS (R149). -/
def seeTag (lane : Lane) (tag : Option Lane) (s : State) : State :=
  let s' := modRx lane (fun r => { r with tagSeen := tag }) s
  if s'.link.tagStatus = s.link.tagStatus then s' else post (.tagStatus s'.link.tagStatus) s'

/-! ## Acceptance of a frame (R151) -/

/-- Entry to DUPLICATE: both queues emptied, the frame on the wire cut off, the join window, isolation and beacon timers stopped,
STATION_STATE posted with the number (R139, R143, R73). -/
def enterDuplicate (s : State) : State :=
  let silent := emptyTx s
  post (.stationState .duplicate (some (own s)))
    { silent with
      rx := []
      station := { silent.station with state := .duplicate, joinWindow := none, isolation := none }
      beacon := { silent.beacon with interval := none } }

/-- Frames at the head of the queue that no block may take leave it (R162, R179). -/
def settleRx (s : State) : State := { s with rx := s.rx.dropWhile fun f => !deliverable f }

/-- A frame offered to the receive queue: queued, or dropped with RX_OVERRUN set (R152). -/
def enqueueRx (f : Frame) (s : State) : State :=
  if s.rx.length < Config.rxCapacity then settleRx { s with rx := s.rx ++ [f] }
  else { s with link := { s.link with overrun := true } }

/-- The destination filter (R151 step 4). It reads the station number in the low 7 bits of the destination byte; the top bit is tested at
the head of the receive queue (R179; log entry 61). -/
def addressedHere (s : State) (f : Frame) : Bool := f.dest % 128 == own s || f.dest % 128 == allStations

/-- In JOINING only BEACON, STOCK and PERIOD go on (R151 step 5). -/
def keptByState (s : State) (f : Frame) : Bool :=
  s.station.state != .joining || f.kind == Kind.beacon || f.kind == Kind.stock || f.kind == Kind.period

/-- The frame is a beacon that will be delivered and shows a restart of its source (R63, R67). -/
def bringsRejoin (s : State) (f : Frame) : Bool :=
  f.kind == Kind.beacon && addressedHere s f && deliverable f && decide (s.rx.length < Config.rxCapacity) &&
  match rBeacon.exact f.payload, findPeer s f.source with
  | some b, some p => ageShowsRejoin p.joinAge b.joinAge
  | _, _ => false

/-- The presence refresh of R151 step 3; a source of 0 or 127 names no station (R61). -/
def refreshSource (f : Frame) (s : State) : State :=
  if isStation f.source then refreshPeer f.source (bringsRejoin s f) s else s

/-- The steps of an accepted frame in order (R151). -/
def acceptFrame (f : Frame) (s : State) : State :=
  match s.station.state with
  | .offline | .configured | .duplicate => s
  | .loopback => if addressedHere s f then enqueueRx f s else s
  | .joining | .online | .isolated =>
    if f.source = own s then enterDuplicate s
    else
      let refreshed := refreshSource f s
      if addressedHere s f && keptByState s f then enqueueRx f refreshed else refreshed

/-- The merge (R150): a frame in the other lane's window is its twin and is discarded, a differing check counted; any other is accepted
and opens a window of its own. -/
def merge (lane : Lane) (r : Reception) (s : State) : State :=
  match (s.link.rx lane.other).window with
  | some check =>
    let closed := modRx lane.other (fun x => { x with window := none }) s
    if check = r.check then closed
    else { closed with link := { closed.link with disagree := min (closed.link.disagree + 1) 255 } }
  | none => acceptFrame r.frame (modRx lane (fun x => { x with window := some r.check }) s)

/-! ## A frame ends on a lane (R146, R147) -/

/-- Whether receivers make the moves of R147; in LOOPBACK they are held LOCKED (R137). -/
def movesMade (s : State) : Bool := s.station.state != .loopback

/-- A malformed frame: the runs, the error count while LOCKED, and the fall to HUNT at the fourth in a row (R146, R147). -/
def takeMalformed (lane : Lane) (s : State) : State :=
  let r := s.link.rx lane
  let r' : Receiver :=
    { r with goodRun := 0, badRun := r.badRun + 1, errors := if r.state = .locked then min (r.errors + 1) 255 else r.errors }
  let counted := modRx lane (fun _ => r') s
  if movesMade s ∧ r.state = .locked ∧ Config.lossRun ≤ r'.badRun then moveLane lane .hunt counted else counted

/-- A well-formed frame: the runs, the tag seen, the lock, and delivery to the merge from a lane that was LOCKED when it carried the
frame and is not MISWIRED (R146 to R150; log entry 23). A lock's LANE_STATE and STATION_STATE are posted ahead of TAG_STATUS (log entry
77). -/
def takeWellFormed (lane : Lane) (rc : Reception) (s : State) : State :=
  let r := s.link.rx lane
  let counted := modRx lane (fun r => { r with goodRun := r.goodRun + 1, badRun := 0 }) s
  let moved := if movesMade s ∧ r.state = .hunt ∧ s.cfg.lockCount ≤ r.goodRun + 1 then moveLane lane .locked counted else counted
  let tagged := seeTag lane (some rc.tag) moved
  if r.state = .locked ∧ tagged.link.miswired lane = false then merge lane rc tagged else tagged

/-- What a receiver does with a frame that has ended at its input: nothing in DOWN or STUCK (R147). -/
def frameAt (lane : Lane) (bits : List Bool) (s : State) : State :=
  match (s.link.rx lane).state with
  | .down | .stuck => s
  | .hunt | .locked =>
    match receive bits with
    | some rc => takeWellFormed lane rc s
    | none => takeMalformed lane s

/-! ## Delivery (R152, R162, R163) -/

/-- The oldest frame of the receive queue, of the kind the event takes, leaves the queue for its block; a frame the group and layout
tests stop is discarded (R152, R162, R179). -/
def deliver (kind : Nat) (block : Frame → State → State) (s : State) : State :=
  match s.rx with
  | [] => s
  | f :: rest =>
    if f.kind = kind then
      let popped : State := { s with rx := rest }
      settleRx (if deliverable f then block f popped else popped)
    else s

/-- A request at the block that serves it, answered by an ANSWER frame: NOT_SERVED without the role (R163, R164). -/
def serve (role : Role) (f : Frame) (subject share : Nat) (block : Answering → State → State) (s : State) : State :=
  if !inService s then s
  else if hasRole s role then block (fun r s => sendAnswer f.source f.kind f.tag subject share r s) s
  else sendAnswer f.source f.kind f.tag subject share (.bare .NOT_SERVED) s

end Sys2Proof.Machine
end

