-- ==== Sys2Proof/Machine/Events.lean ====
section
/-! DEFINITION. What is common to every event: RESET held low, the router's work and the stock reports at its end, the taking and
answering of a local command (R172), and the state and role tests (R178). -/

namespace Sys2Proof.Machine

/-- A change of an item's stock state is reported: a STOCK frame, STOCK_CHANGE, and PORTION_LOW for LOW (R120). -/
def reportStock (item : Nat) (old new : Option StockState) (remaining : Nat) (s : State) : State :=
  let noted := post (.stockChange item old new remaining) (queueStock item (new.getD .available) remaining s)
  if new = some .low then post (.portionLow item remaining) noted else noted

/-- The entries whose state differs from the one they came into the event with are reported, and the entries that left (R120). -/
def stockReports (before : List Portion) (s : State) : State :=
  let gone := before.filter fun p => !s.portions.any (·.item == p.item)
  let removed := gone.foldl (fun s p => reportStock p.item (some (stockState p)) none p.remaining s) s
  s.portions.foldl
    (fun s p =>
      let old := (before.find? (·.item == p.item)).map stockState
      if old = some (stockState p) then s else reportStock p.item old (some (stockState p)) p.remaining s)
    removed

/-- The end of an event: the router's void requests and offers (R79, R90), then the stock reports (R120). -/
def endEvent (before : List Portion) (s : State) : State := stockReports before (routerWork s)

/-- An event of the link, a pin or a timer; while RESET is low every block is held at its reset value (R133). -/
def event (body : State → State) (s : State) : Host.Outcome State Fault Refusal :=
  if s.station.inReset then .next s else .next (endEvent s.portions (body s))

/-- Whether a local command may be carried out: the port takes none during reset, and none while another is in progress (R172). -/
def commandTaken (c : Instr) (s : State) : Bool :=
  !s.station.inReset &&
  match s.port.taken with
  | none => true
  | some c' => decide (c' = c)

/-- The answer becomes the pending answer and BUSY goes low (R172). -/
def setAnswer (c : Instr) (r : Reply) (s : State) : State :=
  { s with port := { s.port with answer := some ⟨commandCode c, r.result, r.data⟩, taken := none } }

/-- A local command carried out as one event of its block, with its answer (R172). A command that BUSY turns away changes nothing. -/
def carryOut (c : Instr) (body : State → Reply × State) (s : State) : Host.Outcome State Fault Refusal :=
  if commandTaken c s then
    let (r, s') := body s
    .next (endEvent s.portions (setAnswer c r s'))
  else .next s

/-! ## State and role tests, in the order of R178 -/

/-- A command's own rule, giving its reply and its effect. -/
abbrev Body := State → Reply × State

/-- A refusal that changes nothing. -/
def refuse (r : Result) : Body := fun s => (.bare r, s)

def needRole (role : Option Role) (body : Body) : Body := fun s =>
  match role with
  | none => body s
  | some r => if hasRole s r then body s else refuse .NOT_SERVED s

/-- A job command: ONLINE and ISOLATED, then the role (R178). -/
def job (role : Option Role) (body : Body) : Body := fun s =>
  if inService s then needRole role body s else refuse .STATE s

/-- A command taken in every state but DUPLICATE, then the role (R178). -/
def readCommand (role : Option Role) (body : Body) : Body := fun s =>
  if s.station.state = .duplicate then refuse .STATE s else needRole role body s

/-- A copy is taken into the snapshot buffer; the answer gives the fields its rule names, then the copy's size in bytes (R177). -/
def fillSnapshot (kind : Nat) (fields bytes : Bytes) (s : State) : Reply × State :=
  (⟨.OK, fields ++ e2 bytes.length⟩, { s with port := { s.port with snapshot := some ⟨kind, bytes⟩ } })

/-! ## Requests to a tab homed elsewhere (R11, R35, R45) -/

/-- The tests common to them after state and role: LINK_DOWN in ISOLATED, HOME_LOST, then `tests` of the command itself, then the
exchange table's and the scheduler's. A home that is no station number is BAD_PARAM (log entry 11). -/
def remoteRequest (home : Nat) (tests : State → Option Result) (kind subject share : Nat) (owner : Owner) (payload : Bytes) : Body := fun s =>
  if !isStation home then refuse .BAD_PARAM s
  else if s.station.state = .isolated then refuse .LINK_DOWN s
  else if isLost s home then refuse .HOME_LOST s
  else
    match tests s with
    | some r => refuse r s
    | none =>
      let (r, s') := openExchange kind home subject share owner payload s
      (.bare r, s')

end Sys2Proof.Machine
end

