-- ==== Sys2Proof/Machine/Copies.lean ====
section
/-! DEFINITION. The records of the snapshot copies by the general encoding, their fields in the order of the defining tables
(R177, chapter Formats). -/

namespace Sys2Proof.Machine

def ePrep : Option Nat → Bytes
  | some p => e1 p
  | none => e1 8

/-- A set of station numbers: ascending, as a list (log entry 29). -/
def eStations (l : List Nat) : Bytes := eList e1 (l.foldl (fun acc n => insertBy id n acc) [])

/-- A line record (R4). -/
def eLine (l : Line) : Bytes :=
  eRecord 2 (e1 l.number ++ e2 l.item ++ e2 l.price ++ e1 l.qty ++ e1 l.tax ++ ePrep l.prep ++ eFlag l.rush ++ eList e2 l.mods ++
    e1 l.origin ++ eOpt e2 l.ticket ++ eOpt (fun x => [eSet 1 x]) l.sharers ++ e1 l.state.ctorIdx)

/-- A share record (R31). -/
def eShare (sh : Share) : Bytes :=
  eRecord 3 (e1 sh.number ++ e4 sh.amount ++ eClassVec e4 sh.bases ++ eClassVec e4 sh.taxes ++ e1 sh.state.ctorIdx ++
    e1 sh.claimant ++ eOpt (fun p => e1 p.tender.code) sh.settlement ++ eOpt (fun p => e4 p.tendered) sh.settlement ++
    eOpt (fun p => e1 p.station) sh.settlement)

/-- A refund entry (R54); share settled is the enumeration yes, no. -/
def eRefund (r : Refund) : Bytes :=
  eRecord 4 (e1 r.line ++ e1 r.share ++ e4 r.amount ++ e1 (if r.settled then 0 else 1) ++ e1 r.tender.code ++ e1 r.station)

/-- The split of a tab in its copy: share count, shares, total at strike and allocations, the last as a counted list of the line number
byte with its counted list of amounts (R31; log entry 29). -/
def eSplitRec (sp : SplitRec) : Bytes :=
  e1 sp.count ++ eList eShare sp.shares ++ e4 sp.total ++ eList (fun a => e1 a.line ++ eList e4 a.amounts) sp.allocs

/-- A tab record (R3). -/
def eTab (t : Tab) : Bytes :=
  eRecord 1 (e2 t.number ++ eList (fun b => [b]) t.label ++ e1 t.state.ctorIdx ++ eOpt (fun o => e1 o.ctorIdx) t.outcome ++
    e4 t.opened ++ eList eLine t.lines ++ eClassVec e4 t.bases ++ e4 t.total ++ eOpt eSplitRec t.split ++ eList eRefund t.refunds)

/-- A claims list entry (R46); its local expiry as the milliseconds left, absent when stopped (log entry 29). -/
def eClaim (c : ClaimEntry) : Bytes :=
  eRecord 5 (e1 c.home ++ e2 c.tab ++ e1 c.share ++ e4 c.amount ++ eOpt e4 c.expiry ++ e1 c.state.ctorIdx ++
    eOpt (fun r => e1 r.ctorIdx) c.reason)

def eAcc (a : Acc) : Bytes := e4 a.value ++ eFlag a.saturated

def eAccums (a : Accums) : Bytes :=
  eAcc a.cashCount ++ eAcc a.cashAmount ++ eAcc a.cardCount ++ eAcc a.cardAmount ++ eAcc a.voucherCount ++ eAcc a.voucherAmount ++
  es4 a.rounding.value ++ eFlag a.rounding.saturated ++ eAcc a.linesVoided ++ eAcc a.tabsClosed ++ eAcc a.ticketsAccepted ++
  eAcc a.ticketsReadied ++ eAcc a.ticketsVoided ++ eAcc a.lateTickets ++ eAcc a.wastePortions

/-- A capture record (R58). -/
def eCapture (c : Capture) : Bytes := eRecord 6 (e1 c.first ++ e1 c.last ++ eFlag c.deferred ++ eAccums c.accums)

/-- A directory entry (R62); the silence timer as the milliseconds left, absent for a LOST entry (R71). -/
def ePeer (p : Peer) : Bytes :=
  eRecord 7 (e1 p.station ++ [eRoles p.till p.kitchen] ++ [eSet 0 p.prep] ++ eOpt e2 p.interval ++ eOpt e4 p.joinAge ++
    eOpt e1 p.period ++ e1 p.presence.ctorIdx ++ eOpt e2 p.silence ++ eOpt (fun l => e1 l.depth) p.load ++
    eOpt (fun l => eFlag l.hold) p.load ++ eOpt (fun l => e1 l.late) p.load ++ eOpt (fun l => e1 l.placed) p.load ++ eFlag p.changed)

/-- State, offered kitchen, placement and kitchen state of a home ticket record as its table lists them (R77). -/
def RecState.code : RecState → Nat
  | .pending => 0
  | .offered _ => 1
  | .placed _ _ => 2
  | .unrouted => 3

def RecState.offeredTo : RecState → Option Nat
  | .offered k => some k
  | _ => none

def RecState.placement : RecState → Option (Nat × KState)
  | .placed k ks => some (k, ks)
  | _ => none

/-- A home ticket record (R77). -/
def eTicket (t : Ticket) : Bytes :=
  eRecord 8 (e2 t.number ++ e2 t.tab ++ e1 t.prep ++ eFlag t.rush ++ eList e1 t.lines ++ e1 t.state.code ++
    eOpt e1 t.state.offeredTo ++ e1 t.attempts ++ eStations t.tried ++ eOpt (fun p => e1 p.1) t.state.placement ++
    eOpt (fun p => e1 p.2.ctorIdx) t.state.placement ++ eStations t.stray)

/-- A void queue entry (R90). -/
def eVoidEntry (v : VoidEntry) : Bytes :=
  eRecord 9 (e1 v.kitchen ++ e2 v.ticket ++ e2 v.tab ++ eList e1 v.lines ++ e1 v.purpose.ctorIdx)

/-- A ticket line (R98). -/
def eKLine (l : KLine) : Bytes :=
  eRecord 11 (e1 l.line ++ e2 l.item ++ e1 l.qty ++ eList e2 l.mods ++ eFlag (!l.active) ++ eFlag l.taken ++
    eOpt (fun o => e1 o.ctorIdx) l.void)

/-- A kitchen ticket record (R98). -/
def eKTicket (p : Place) (t : KTicket) : Bytes :=
  eRecord 10 (e1 t.ref ++ e1 t.home ++ e2 t.number ++ eFlag t.orphan ++ e2 t.tab ++ e1 t.prep ++ eFlag t.rush ++
    eList eKLine t.lines ++ e1 p.code ++ e4 t.accepted ++ eFlag t.warn ++ eFlag t.late ++ eFlag t.unread)

/-- A portion entry (R119). -/
def ePortion (p : Portion) : Bytes :=
  eRecord 12 (e2 p.item ++ e2 p.remaining ++ e2 p.held ++ e4 p.used ++ e4 p.loaded ++ e2 p.preset ++ e2 p.low ++ e4 p.waste ++
    es4 p.adjust ++ e1 (stockState p).ctorIdx ++ eFlag p.resend)

/-- A stock view entry (R129); its state is the enumeration LOW, OUT. -/
def eStockEntry (e : StockEntry) : Bytes :=
  eRecord 13 (e2 e.item ++ e1 e.kitchen ++ e1 (if e.state = .out then 1 else 0) ++ e2 e.remaining ++ e4 e.heard)

/-- A collection's copy: its records one after another (log entry 29). -/
def eAll {α : Type} (f : α → Bytes) (l : List α) : Bytes := (l.map f).flatten

end Sys2Proof.Machine
end

