-- ==== Sys2Proof/Machine/Station.lean ====
section
/-! DEFINITION. Station states and joining: reset, Configure, Loopback, Join, Lane restart, the join window and the isolation timer
(R133 to R144), and the passing of time. -/

namespace Sys2Proof.Machine

/-- RESET low, or power-on: every block at its reset value (R133). The queue of waiting commands is not the block's own. -/
def execResetAsserted (s : State) : Host.Outcome State Fault Refusal :=
  .next { State.resetWith true 0 with pending := s.pending }

/-- The end of reset: the straps are sampled as the station number, and the station is OFFLINE at station time 0 (R133). Any state may
come before it: a whole reset lies behind this event (log entry 3). -/
def execResetEnd (straps : Nat) (s : State) : Host.Outcome State Fault Refusal :=
  .next { State.resetWith false (straps % 128) with pending := s.pending }

/-! ## Configure (R135, R136) -/

/-- A given value within its range, or the default where it is absent. -/
def settle1 (lo hi dflt : Nat) : Option Nat → Nat
  | none => dflt
  | some v => min hi (max lo v)

/-- The configuration a Configure that passes its tests leaves (R135, R136). -/
def configured (q : ConfigReq) : StationCfg :=
  let kitchen := q.roles.getLsbD 1
  let hold := settle1 4 48 24 q.holdMark
  { till := q.roles.getLsbD 0
    kitchen := kitchen
    prep := if kitchen then membersOf 0 q.prep else []
    rates := q.rates
    rounding := q.rounding
    interval := (q.interval.map clampInterval).getD 500
    lockCount := settle1 1 4 2 q.lockCount
    claimHold := settle1 30 600 120 q.claimHold
    fireLimit := settle1 1 16 6 q.fireLimit
    autoFire := settle1 0 1 0 q.autoFire == 1
    holdMark := hold
    releaseMark := min (q.releaseMark.getD 16) (hold - 1)
    warnTime := settle1 60 3600 480 q.warnTime
    lateTime := settle1 60 3600 900 q.lateTime
    collectTimeout := settle1 30 900 300 q.collectTimeout }

/-- The kitchen parameters, which a station without the role does not take (R135): they then stand at their defaults (log entry 68). -/
def withoutKitchen (q : ConfigReq) : ConfigReq :=
  if q.roles.getLsbD 1 then q
  else
    { q with
      prep := 0#8
      fireLimit := none
      autoFire := none
      holdMark := none
      releaseMark := none
      warnTime := none
      lateTime := none
      collectTimeout := none }

/-- A given value that the configuration does not hold as given. -/
def changedTo (v : Nat) : Option Nat → Bool
  | none => false
  | some w => w != v

/-- Whether R136 changed any value given. -/
def clampedAny (q : ConfigReq) (c : StationCfg) : Bool :=
  changedTo c.interval q.interval || changedTo c.lockCount q.lockCount || changedTo c.claimHold q.claimHold ||
  changedTo c.fireLimit q.fireLimit || changedTo (if c.autoFire then 1 else 0) q.autoFire || changedTo c.holdMark q.holdMark ||
  changedTo c.releaseMark q.releaseMark || changedTo c.warnTime q.warnTime || changedTo c.lateTime q.lateTime ||
  changedTo c.collectTimeout q.collectTimeout

/-- Every value in force (R136), in the order of the command's layout and without presence bytes (log entry 68). -/
def eConfig (c : StationCfg) : Bytes :=
  [eRoles c.till c.kitchen] ++ [eSet 0 c.prep] ++ eClassVec e2 c.rates ++ e1 c.rounding ++ e2 c.interval ++ e1 c.lockCount ++
  e2 c.claimHold ++ e1 c.fireLimit ++ eFlag c.autoFire ++ e1 c.holdMark ++ e1 c.releaseMark ++ e2 c.warnTime ++ e2 c.lateTime ++
  e2 c.collectTimeout

/-- The tests of R135 in order. -/
def configureRefusal (number : Nat) (q : ConfigReq) : Option Result :=
  if !isStation number then some .BAD_STATION
  else if !(q.roles.getLsbD 0) && !(q.roles.getLsbD 1) then some .BAD_PARAM
  else if Config.maxRate < q.rates.c0 ∨ Config.maxRate < q.rates.c1 ∨ Config.maxRate < q.rates.c2 ∨ Config.maxRate < q.rates.c3 then
    some .BAD_PARAM
  else if !([1, 5, 10, 50].contains q.rounding) then some .BAD_PARAM
  else if q.roles.getLsbD 1 ∧ membersOf 0 q.prep = [] then some .BAD_PARAM
  else none

/-- Configure (R135, R136). A lock count that it lowers to a HUNT receiver's well-formed run locks nothing before that lane's next
well-formed frame (log entry 73). -/
def configureBody (q : ConfigReq) : Body := fun s =>
  match s.station.state with
  | .offline =>
    match configureRefusal s.station.number q with
    | some r => refuse r s
    | none =>
      let q' := withoutKitchen q
      let c := configured q'
      (⟨if clampedAny q' c then .CLAMPED else .OK, eConfig c⟩,
        { s with cfg := c, station := { s.station with state := .configured } })
  | .duplicate => refuse .STATE s
  | _ => refuse .CONFIG_LOCKED s

def execConfigure (q : ConfigReq) (s : State) : Host.Outcome State Fault Refusal :=
  carryOut (.configure q) (configureBody q) s

/-! ## Loopback (R137) -/

/-- What each move into or out of LOOPBACK ends: both queues and every exchange entry, with nothing handed on, and any frame under way
on the cable, whose end is not received (R137, R155; log entry 63). -/
def endTraffic (s : State) : State :=
  let silent := emptyTx s
  let quiet := fun (r : Receiver) => { r with carrying := false }
  { silent with
    rx := []
    exch := { silent.exch with entries := [] }
    link := { silent.link with a := quiet silent.link.a, b := quiet silent.link.b } }

def setStation (st : StationState) (s : State) : State := { s with station := { s.station with state := st } }

/-- Both receivers to LOCKED, held so while LOOPBACK lasts; lane A's LANE_STATE is posted first (R137; log entry 62). -/
def loopbackOnBody : Body := fun s =>
  if s.station.state = .configured then
    (.bare .OK, moveLane .B .locked (moveLane .A .locked (setStation .loopback (endTraffic s))))
  else refuse .STATE s

/-- Back to CONFIGURED, both receivers in HUNT with their silence timers started anew (log entry 24); lane A's LANE_STATE is posted first
(log entry 62). -/
def loopbackOffBody : Body := fun s =>
  if s.station.state = .loopback then
    let back := setStation .configured (endTraffic s)
    let hunting := moveLane .B .hunt (moveLane .A .hunt back)
    let fresh := fun (r : Receiver) => { r with silence := some Config.laneSilenceMs }
    (.bare .OK, modRx .B fresh (modRx .A fresh hunting))
  else refuse .STATE s

def execLoopbackOn (s : State) : Host.Outcome State Fault Refusal := carryOut .loopbackOn loopbackOnBody s
def execLoopbackOff (s : State) : Host.Outcome State Fault Refusal := carryOut .loopbackOff loopbackOffBody s

/-! ## Joining (R138, R139) -/

def joinBody : Body := fun s =>
  if s.station.state = .configured then
    (.bare .OK, { s with station := { s.station with state := .joining, joinWindow := some Config.joinWindowMs } })
  else refuse .STATE s

def execJoin (s : State) : Host.Outcome State Fault Refusal := carryOut .join joinBody s

/-- ONLINE: the join age starts, the isolation watch begins, STATION_STATE is posted and the first beacon is generated
(R139, R140, R73). -/
def joinExpiry (s : State) : State :=
  if s.station.state = .joining ∧ isPending s.station.joinWindow = true then
    let up : State := { s with station := { s.station with state := .online, online := 0, joinWindow := none } }
    post (.stationState .online none) (genBeacon (watchLanes up))
  else s

def execJoinWindowExpiry (s : State) : Host.Outcome State Fault Refusal := event joinExpiry s

/-- ISOLATED, with STATION_STATE posted, when the timer expires with no lane LOCKED (R140). -/
def isolationExpiry (s : State) : State :=
  if s.station.state = .online ∧ isPending s.station.isolation = true then
    post (.stationState .isolated none) { s with station := { s.station with state := .isolated, isolation := none } }
  else s

def execIsolationTimerExpiry (s : State) : Host.Outcome State Fault Refusal := event isolationExpiry s

/-! ## Lane restart (R144) -/

def restartLane (lane : Lane) (s : State) : State :=
  let hunting := moveLane lane .hunt s
  seeTag lane none
    (modRx lane (fun r => { r with errors := 0, goodRun := 0, badRun := 0, changed := true }) hunting)

def laneRestartBody (lane : Nat) : Body := fun s =>
  match s.station.state with
  | .loopback | .duplicate => refuse .STATE s
  | _ =>
    match lane with
    | 0 => (.bare .OK, restartLane .A s)
    | 1 => (.bare .OK, restartLane .B s)
    | _ => refuse .BAD_PARAM s

def execLaneRestart (lane : Nat) (s : State) : Host.Outcome State Fault Refusal :=
  carryOut (.laneRestart lane) (laneRestartBody lane) s

/-! ## Time (log entries 6 and 7) -/

/-- One millisecond off a running timer; at 0 it waits for its expiry event. -/
def Timer.tick (t : Timer) : Timer := t.map (· - 1)

def tickReceiver (r : Receiver) : Receiver :=
  match r.state with
  | .stuck => r
  | _ => { r with silence := Timer.tick r.silence }

def tickKTicket (t : KTicket) : KTicket :=
  { t with warnTimer := Timer.tick t.warnTimer, lateTimer := Timer.tick t.lateTimer, collectTimer := Timer.tick t.collectTimer }

def tickTab (t : Tab) : Tab :=
  { t with split := t.split.map fun sp => { sp with shares := sp.shares.map fun sh => { sh with hold := Timer.tick sh.hold } } }

/-- The timers that stand still in DUPLICATE (R143). -/
def tickBlocks (s : State) : State :=
  { s with
    station :=
      { s.station with
        online := if inService s then s.station.online + 1 else s.station.online
        joinWindow := Timer.tick s.station.joinWindow
        isolation := Timer.tick s.station.isolation }
    tabs := s.tabs.map tickTab
    claims := s.claims.map fun c => { c with expiry := Timer.tick c.expiry }
    takings := { s.takings with lockout := Timer.tick s.takings.lockout }
    dir := { s.dir with entries := s.dir.entries.map fun p => { p with silence := Timer.tick p.silence } }
    beacon := { s.beacon with interval := Timer.tick s.beacon.interval, holdOff := Timer.tick s.beacon.holdOff }
    kitchen := s.kitchen.mapAll tickKTicket
    exch := { s.exch with entries := s.exch.entries.map fun e => { e with timer := Timer.tick e.timer } } }

/-- One millisecond passes: station time and the lane timers run in every state after reset, the blocks' timers and the join age as
R72 and R143 give. Nothing expires here: an expiry is an event of its own. -/
def tick (s : State) : State :=
  if s.station.inReset then s
  else
    let clocked : State :=
      { s with
        station := { s.station with clock := s.station.clock + 1 }
        link := if s.station.state = .loopback then s.link else { s.link with a := tickReceiver s.link.a, b := tickReceiver s.link.b } }
    if s.station.state = .duplicate then clocked else tickBlocks clocked

end Sys2Proof.Machine
end

