-- ==== Sys2Proof/Machine/Port.lean ====
section
/-! DEFINITION. The local port: transactions, Status, Next notice, Set attention and Read page (R172 to R178, R180). -/

namespace Sys2Proof.Machine

/-- The pending answer as PDO carries it: marker, echoed code, result, data length, data (chapter Formats). -/
def Answer.bytes (a : Answer) : Bytes := [0x5C#8] ++ e1 a.code ++ e1 a.result.code ++ e2 a.data.length ++ a.data

/-- What PDO carries while `n` bytes are shifted: the answer from its first byte, then 00; with none pending, 00 throughout. -/
def shiftedOut (a : Option Answer) (n : Nat) : Bytes :=
  let whole := (a.map Answer.bytes).getD []
  whole.take n ++ List.replicate (n - whole.length) 0#8

/-- The pending answer was shifted out to its last byte. -/
def answerRead (a : Option Answer) (n : Nat) : Bool := (a.map fun a => decide (a.bytes.length ≤ n)).getD false

def modPort (f : Port → Port) (s : State) : State := { s with port := f s.port }

/-- A whole command at a port that is not BUSY: taken, or answered BAD_PARAM for its code or framing (R172, R180). -/
def takeCommand (code : Nat) (params : Bytes) (s : State) : State :=
  match parseCommand code params with
  | .command c => modPort (fun p => { p with answer := none, taken := some c }) s
  | .badLoopback =>
    let r : Result := if s.station.state = .configured ∨ s.station.state = .loopback then .BAD_PARAM else .STATE
    modPort (fun p => { p with answer := some ⟨code, r, []⟩ }) s
  | _ => modPort (fun p => { p with answer := some ⟨code, .BAD_PARAM, []⟩ }) s

/-- PSEL returns high: an answer read to its end is cleared, and a whole command is taken if BUSY is low (R172). -/
def transaction (pdi : Bytes) (s : State) : State :=
  let read := answerRead s.port.answer pdi.length
  let settled := modPort (fun p =>
    { p with pdo := shiftedOut p.answer pdi.length, answer := if read then none else p.answer }) s
  match firstCommand pdi with
  | some (code, params) => if busy s then settled else takeCommand code params settled
  | none => settled

def execPortTransaction (pdi : Bytes) (s : State) : Host.Outcome State Fault Refusal := event (transaction pdi) s

/-! ## Status (R176, R160) -/

def eLevels (l : Levels) : Bytes := eFlag l.link ++ eFlag l.money ++ eFlag l.kitchen ++ eFlag l.peers

/-- A capture slot, FREE 0 or FULL 1. -/
def eSlot (c : Option Capture) : Bytes := e1 (if c.isSome then 1 else 0)

/-- The items of Status in the order of R176. -/
def statusData (s : State) : Bytes :=
  e1 s.station.state.ctorIdx ++ e1 s.station.number ++ e1 s.link.a.state.ctorIdx ++ eFlag s.link.a.changed ++
  e1 s.link.b.state.ctorIdx ++ eFlag s.link.b.changed ++ e1 s.link.tagStatus.ctorIdx ++ e1 s.link.a.errors ++ e1 s.link.b.errors ++
  e1 s.link.disagree ++ eFlag s.link.overrun ++ e2 s.tx.dropped ++ eLevels s.port.overflow ++ e1 s.takings.period ++
  eSlot s.takings.slot1 ++ eSlot s.takings.slot2 ++ eFlag s.takings.accums.saturated

/-- The flags a read of Status clears (R176). -/
def clearStatus (s : State) : State :=
  { s with
    link := { s.link with a := { s.link.a with changed := false }, b := { s.link.b with changed := false }, overrun := false }
    port := { s.port with overflow := Levels.none } }

def statusBody : Body := fun s => (⟨.OK, statusData s⟩, clearStatus s)

def execStatus (s : State) : Host.Outcome State Fault Refusal := carryOut .status statusBody s

/-! ## Notices and attention (R175) -/

/-- The oldest notice of the highest-priority level that holds one, and the port without it. -/
def popNotice (p : Port) : Option (Notice × Port) :=
  match p.link with
  | n :: rest => some (n, { p with link := rest })
  | [] =>
    match p.money with
    | n :: rest => some (n, { p with money := rest })
    | [] =>
      match p.kitchen with
      | n :: rest => some (n, { p with kitchen := rest })
      | [] =>
        match p.peers with
        | n :: rest => some (n, { p with peers := rest })
        | [] => none

def Level.code : Level → Nat
  | .link => 0
  | .money => 1
  | .kitchen => 2
  | .peers => 3

def noticeData (n : Notice) (p : Port) : Bytes :=
  e1 n.level.code ++ e1 n.code ++ n.fields ++ e1 p.link.length ++ e1 p.money.length ++ e1 p.kitchen.length ++ e1 p.peers.length

def nextNoticeBody : Body := fun s =>
  match popNotice s.port with
  | some (n, p) => (⟨.OK, noticeData n p⟩, { s with port := p })
  | none => refuse .NO_ENTRY s

def execNextNotice (s : State) : Host.Outcome State Fault Refusal := carryOut .nextNotice nextNoticeBody s

def levelsOf (mask : Byte) : Levels := ⟨mask.getLsbD 0, mask.getLsbD 1, mask.getLsbD 2, mask.getLsbD 3⟩

def setAttentionBody (mask : Byte) : Body :=
  readCommand none fun s => (.bare .OK, modPort (fun p => { p with mask := levelsOf mask }) s)

def execSetAttention (mask : Byte) (s : State) : Host.Outcome State Fault Refusal :=
  carryOut (.setAttention mask) (setAttentionBody mask) s

/-! ## Read page (R177) -/

def readPageBody (offset length : Nat) : Body :=
  readCommand none fun s =>
    match s.port.snapshot with
    | none => refuse .NO_ENTRY s
    | some c =>
      if c.bytes.length ≤ offset ∨ length < 1 ∨ 64 < length then refuse .BAD_PARAM s
      else (⟨.OK, e1 c.kind ++ (c.bytes.drop offset).take length⟩, s)

def execReadPage (offset length : Nat) (s : State) : Host.Outcome State Fault Refusal :=
  carryOut (.readPage offset length) (readPageBody offset length) s

end Sys2Proof.Machine
end

