-- ==== Sys2Proof/Machine/Takings.lean ====
section
/-! DEFINITION. The takings unit's own rows: the PERIOD pin and its lockout, Mark period, Read capture and Release capture (R56 to
R60). -/

namespace Sys2Proof.Machine

/-! ## Local advances (R56) -/

/-- A falling edge on the PERIOD pin: a local advance and the lockout, or nothing while the lockout runs or out of service. -/
def pinEdge (s : State) : State :=
  if inService s ∧ s.takings.lockout = none then
    let s' := (localAdvance s).2
    { s' with takings := { s'.takings with lockout := some Config.lockoutMs } }
  else s

def execPeriodPinEdge (s : State) : Host.Outcome State Fault Refusal := event pinEdge s

/-- The lockout ends; it stands still in DUPLICATE (R143). -/
def lockoutExpiry (s : State) : State :=
  if s.station.state = .duplicate then s else { s with takings := { s.takings with lockout := none } }

def execPeriodLockoutExpiry (s : State) : Host.Outcome State Fault Refusal := event lockoutExpiry s

/-- The new period number, then the slot that took the capture, absent where it was deferred (log entry 32). -/
def markPeriodBody : Body :=
  job none fun s =>
    let (slot, s') := localAdvance s
    (⟨.OK, e1 s'.takings.period ++ eOpt e1 slot⟩, s')

def execMarkPeriod (s : State) : Host.Outcome State Fault Refusal := carryOut .markPeriod markPeriodBody s

/-! ## Capture slots (R60) -/

/-- The record a FULL slot holds. -/
def Takings.slot (t : Takings) : Nat → Option Capture
  | 1 => t.slot1
  | 2 => t.slot2
  | _ => none

def Takings.freeSlot (t : Takings) (n : Nat) : Takings := if n = 1 then { t with slot1 := none } else { t with slot2 := none }

def readCaptureBody (slot : Nat) : Body :=
  readCommand none fun s =>
    if slot < 1 ∨ 2 < slot then refuse .BAD_PARAM s
    else
      match s.takings.slot slot with
      | some c => fillSnapshot 3 [] (eCapture c) s
      | none => refuse .NO_ENTRY s

def execReadCapture (slot : Nat) (s : State) : Host.Outcome State Fault Refusal :=
  carryOut (.readCapture slot) (readCaptureBody slot) s

def releaseCaptureBody (slot : Nat) : Body :=
  readCommand none fun s =>
    if slot < 1 ∨ 2 < slot then refuse .BAD_PARAM s
    else
      match s.takings.slot slot with
      | some _ => (.bare .OK, { s with takings := s.takings.freeSlot slot })
      | none => refuse .NO_ENTRY s

def execReleaseCapture (slot : Nat) (s : State) : Host.Outcome State Fault Refusal :=
  carryOut (.releaseCapture slot) (releaseCaptureBody slot) s

end Sys2Proof.Machine
end

