-- ==== Sys2Proof/Machine/Tabs.lean ====
section
/-! DEFINITION. The tab store's rows: Open, Add, Send, Line void, Tab void, Release, Query and Read tab, with the frames ADD, LINE-VOID
and TAB-QUERY (R7 to R22). -/

namespace Sys2Proof.Machine

/-- A rule that gives its reply with its effect, its reply given at the end of the effect. -/
def answering (b : Body) : Answering → State → State := fun ans s =>
  let (r, s') := b s
  ans r s'

/-- A request frame of a kind, its payload read and its block served (R163, R164). -/
def request {α : Type} (kind : Nat) (r : Reader α) (role : Role) (subject : α → Nat) (share : α → Nat)
    (block : Frame → α → Answering → State → State) (s : State) : State :=
  deliver kind (fun f s =>
    match r.exact f.payload with
    | some a => serve role f (subject a) (share a) (block f a) s
    | none => s) s

/-! ## Open (R2, R7) -/

def printable (b : Byte) : Bool := decide (32 ≤ b.toNat) && decide (b.toNat ≤ 126)

/-- The lowest tab number no record holds (R2). -/
def freeTab (s : State) : Option Nat := leastFree Config.tabCapacity fun n => (findTab s n).isSome

/-- The record Open makes (R7). -/
def Tab.fresh (n : Nat) (label : Bytes) (time : Nat) : Tab :=
  ⟨n, label, .open, none, time, [], ⟨0, 0, 0, 0⟩, 0, none, []⟩

def openBody (label : Bytes) : Body :=
  job (some .till) fun s =>
    if Config.tabCapacity ≤ s.tabs.length then refuse .TABS_FULL s
    else
      let kept := label.take 8
      if !kept.all printable then refuse .BAD_PARAM s
      else
        match freeTab s with
        | none => refuse .TABS_FULL s
        | some n =>
          (⟨if 8 < label.length then .CLAMPED else .OK, eTabRef (own s) n⟩,
            { s with tabs := insertBy (·.number) (Tab.fresh n kept (stationTime s)) s.tabs })

def execOpenTab (label : Bytes) (s : State) : Host.Outcome State Fault Refusal :=
  carryOut (.openTab label) (openBody label) s

/-! ## Send (R12, R13) -/

/-- The ticket counter's next number: past 65535 comes 1 (R13). -/
def nextNumber (n : Nat) : Nat := if n ≥ 65535 then 1 else n + 1

/-- The first number from the counter on that no record holds (R13). -/
def freeNumber : Nat → Nat → List Nat → Nat
  | 0, c, _ => c
  | n + 1, c, used => if used.contains c then freeNumber n (nextNumber c) used else c

/-- A Send's walk so far: the tickets it has made, newest first, the counter, the lines joined with their ticket numbers, and whether
the list filled. -/
structure SendWalk where
  made : List Ticket
  counter : Nat
  joined : List (Nat × Nat)
  full : Bool
deriving DecidableEq, Repr

/-- One NEW line: it joins the most recent group of its prep class and rush flag with room, or makes a new ticket, or ends the walk
(R12, R13). -/
def sendLine (held : List Ticket) (tab : Nat) (w : SendWalk) (l : Line) : SendWalk :=
  let prep := l.prep.getD 0
  if w.full then w
  else
    match w.made.find? fun t => t.prep == prep && t.rush == l.rush && decide (t.lines.length < Config.groupCapacity) with
    | some t =>
      { w with
        made := mapIf (·.number == t.number) (fun t => { t with lines := t.lines ++ [l.number] }) w.made
        joined := w.joined ++ [(l.number, t.number)] }
    | none =>
      if Config.ticketCapacity ≤ held.length + w.made.length then { w with full := true }
      else
        let n := freeNumber Config.ticketCapacity w.counter ((held ++ w.made).map (·.number))
        { w with
          made := ⟨n, tab, prep, l.rush, [l.number], .pending, 0, [], []⟩ :: w.made
          counter := nextNumber n
          joined := w.joined ++ [(l.number, n)] }

def newLines (t : Tab) : List Line := t.lines.filter (·.state == .new)

/-- The walk over a tab's NEW lines. -/
def sendWalk (s : State) (t : Tab) : SendWalk :=
  (newLines t).foldl (sendLine s.router.tickets t.number) ⟨[], s.router.counter, [], false⟩

/-- A grouped NEW line takes its ticket number and is PENDING (R12). -/
def groupLine (joined : List (Nat × Nat)) (l : Line) : Line :=
  match joined.find? (·.1 == l.number) with
  | some (_, n) => if l.state = .new then { l with ticket := some n, state := .pending } else l
  | none => l

/-- What a walk leaves: the lines grouped, the new records at the end of the list, the counter moved on. -/
def applyWalk (tab : Nat) (w : SendWalk) (s : State) : State :=
  modTab tab (fun t => { t with lines := t.lines.map (groupLine w.joined) })
    { s with router := { s.router with tickets := s.router.tickets ++ w.made.reverse, counter := w.counter } }

def sendBody (tab : Nat) : Body :=
  job (some .till) fun s =>
    match findTab s tab with
    | none => refuse .NO_TAB s
    | some t =>
      if t.state = .splitting then refuse .BUSY s
      else
        let w := sendWalk s t
        (⟨if w.full then .TICKETS_FULL else .OK, e1 w.joined.length ++ e1 w.made.length⟩, applyWalk tab w s)

def execSend (tab : Nat) (s : State) : Host.Outcome State Fault Refusal := carryOut (.send tab) (sendBody tab) s

/-! ## Add (R8 to R11) -/

/-- The refusal by tab state that Add and Line void share (R8, R14). -/
def openOnly : TabState → Option Result
  | .open => none
  | .splitting => some .BUSY
  | .split => some .TAB_SPLIT
  | .closed => some .TAB_CLOSED

/-- Every field of an offered line within the ranges of R4. -/
def lineOffered (l : LineReq) : Bool :=
  decide (l.item ≤ 4095) && decide (l.price ≤ 50000) && decide (1 ≤ l.qty) && decide (l.qty ≤ 20) && decide (l.tax ≤ 3) &&
  decide (l.prep ≤ 8) && decide (l.rush ≤ 1) && decide (l.mods.length ≤ 3) && l.mods.all (· ≤ 4095)

/-- The stock screen's verdict on one line (R9). -/
def soldOut (s : State) (l : LineReq) : Bool :=
  l.prep != 8 && !(servingKitchens s l.prep).isEmpty && (servingKitchens s l.prep).all fun k => judgedOut s k l.item

/-- An appended line (R10). -/
def lineRecord (origin number : Nat) (l : LineReq) : Line where
  number := number
  item := l.item
  price := l.price
  qty := l.qty
  tax := l.tax
  prep := if l.prep = 8 then none else some l.prep
  rush := l.rush == 1
  mods := l.mods
  origin := origin
  ticket := none
  sharers := none
  state := if l.prep = 8 then .handed else .new

/-- The lines appended in list order, each with the next number. -/
def appendLines (origin : Nat) (lines : List LineReq) (t : Tab) : Tab :=
  lines.foldl (fun t l => { t with lines := t.lines ++ [lineRecord origin (t.lines.length + 1) l] }) t

/-- The tests of R8 in order: a refusal with its data, or none. -/
def addRefusal (s : State) (tab : Nat) (lines : List LineReq) (send : Nat) : Option Reply :=
  match findTab s tab with
  | none => some (.bare .NO_TAB)
  | some t =>
    match openOnly t.state with
    | some r => some (.bare r)
    | none =>
      if lines.length < 1 ∨ Config.groupCapacity < lines.length ∨ lines.all lineOffered = false ∨ 1 < send then
        some (.bare .BAD_PARAM)
      else if Config.lineCapacity < t.lines.length + lines.length then some (.bare .TAB_FULL)
      else
        match lines.findIdx? (soldOut s) with
        | some i => some ⟨.SOLD_OUT, e1 (i + 1)⟩
        | none => none

/-- The tab total as it stands. -/
def tabTotal (s : State) (tab : Nat) : Nat := ((findTab s tab).map (·.total)).getD 0

/-- An Add at the home, by command or frame (R8, R10). -/
def homeAdd (origin tab : Nat) (lines : List LineReq) (send : Nat) : Body := fun s =>
  match addRefusal s tab lines send with
  | some r => (r, s)
  | none =>
    let before := ((findTab s tab).map (·.lines.length)).getD 0
    let appended := modTab tab (fun t => (appendLines origin lines t).recompute s.cfg.rates) s
    let reply := fun (grouped left : Nat) =>
      (⟨.OK, e1 (before + 1) ++ e1 (before + lines.length) ++ e4 (tabTotal appended tab) ++ e1 grouped ++ e1 left⟩ : Reply)
    match findTab appended tab with
    | some t =>
      if send = 1 then
        let w := sendWalk appended t
        (reply w.joined.length ((newLines t).length - w.joined.length), applyWalk tab w appended)
      else (reply 0 0, appended)
    | none => (reply 0 0, appended)

def addBody (home tab : Nat) (lines : List LineReq) (send : Nat) : Body :=
  job (some .till) fun s =>
    if home = own s then homeAdd (own s) tab lines send s
    else remoteRequest home (fun _ => none) Kind.add tab 0 .command (eAddPayload tab send lines) s

def execAdd (home tab : Nat) (lines : List LineReq) (send : Nat) (s : State) : Host.Outcome State Fault Refusal :=
  carryOut (.add home tab lines send) (addBody home tab lines send) s

def takeAdd : State → State :=
  request Kind.add rAdd .till (·.tab) (fun _ => 0) fun f a => answering (homeAdd f.source a.tab a.lines a.send)

def execAddFrame (s : State) : Host.Outcome State Fault Refusal := event takeAdd s

/-! ## Line void and Tab void (R14 to R16) -/

/-- The tests of R14 in order. -/
def lineVoidRefusal (s : State) (tab line : Nat) : Option Result :=
  match findTab s tab with
  | none => some .NO_TAB
  | some t =>
    match openOnly t.state with
    | some r => some r
    | none =>
      match t.line line with
      | none => some .BAD_LINE
      | some l => if l.state.final then some .BAD_LINE else none

/-- A till's void of one line at the home; the answer is made before the ticket is dealt with (R14, R15). -/
def homeLineVoid (tab line : Nat) (ans : Answering) (s : State) : Reply × State :=
  match lineVoidRefusal s tab line with
  | some r => answered ans (.bare r) s
  | none =>
    let reply : Reply := ⟨.OK, e1 line ++ e4 (tabTotal (setLineState tab line .void s) tab)⟩
    (reply, voidLine tab line (ans reply s))

def lineVoidBody (home tab line : Nat) : Body :=
  job (some .till) fun s =>
    if home = own s then
      let (r, s') := homeLineVoid tab line noAnswer s
      (r, if r.result = .OK then countLineVoided s' else s')
    else remoteRequest home (fun _ => none) Kind.lineVoid tab 0 .command (e2 tab ++ e1 line) s

def execLineVoid (home tab line : Nat) (s : State) : Host.Outcome State Fault Refusal :=
  carryOut (.lineVoid home tab line) (lineVoidBody home tab line) s

def takeLineVoid : State → State :=
  request Kind.lineVoid rTabByte .till (·.1) (fun _ => 0) fun _ a ans s => (homeLineVoid a.1 a.2 ans s).2

def execLineVoidFrame (s : State) : Host.Outcome State Fault Refusal := event takeLineVoid s

/-- The tests of R16. -/
def tabVoidRefusal (t : Tab) : Option Result :=
  match t.state, t.split with
  | .splitting, _ => some .BUSY
  | .closed, _ => some .TAB_CLOSED
  | .split, some sp => if sp.anyIn .settled then some .SETTLED else if sp.anyIn .claimed then some .CLAIMED else none
  | _, _ => none

/-- The lines of a tab that Tab void voids: those still charged, in line order. -/
def chargedLines (t : Tab) : List Nat := (t.lines.filter (·.state.charged)).map (·.number)

/-- One line of a Tab void: dealt with by R15 and counted. -/
def voidAndCount (tab : Nat) (s : State) (line : Nat) : State := countLineVoided (voidLine tab line s)

/-- Tab void (R16). R16 has the split and its shares removed and is silent on the lines' sharer sets: they return to absent, as Withdraw
returns them (R34), which is the model's choice (log entry 78, DESIGN CHOICE, unsafe). -/
def tabVoidBody (tab : Nat) : Body :=
  job (some .till) fun s =>
    match findTab s tab with
    | none => refuse .NO_TAB s
    | some t =>
      match tabVoidRefusal t with
      | some r => refuse r s
      | none =>
        let lines := chargedLines t
        (⟨.OK, e1 lines.length⟩,
          closeTab tab .voided (lines.foldl (voidAndCount tab) (modTab tab Tab.withdrawSplit s)))

def execTabVoid (tab : Nat) (s : State) : Host.Outcome State Fault Refusal := carryOut (.tabVoid tab) (tabVoidBody tab) s

/-! ## Release (R19) -/

def releaseBody (tab : Nat) : Body :=
  job (some .till) fun s =>
    match findTab s tab with
    | none => refuse .NO_TAB s
    | some t =>
      if t.state ≠ .closed then refuse .STATE s
      else if s.router.tickets.any (·.tab == tab) then refuse .TICKETS_OPEN s
      else (.bare .OK, { s with tabs := s.tabs.filter (·.number != tab) })

def execRelease (tab : Nat) (s : State) : Host.Outcome State Fault Refusal := carryOut (.release tab) (releaseBody tab) s

/-! ## Query and Read tab (R20, R21) -/

/-- A tab's summary (R20); the shares follow their count N without a count byte of their own (log entry 29). -/
def tabSummary (t : Tab) : Bytes :=
  e1 t.state.ctorIdx ++ eOpt (fun o => e1 o.ctorIdx) t.outcome ++ eList (fun b => [b]) t.label ++ e1 t.lines.length ++ e4 t.total ++
  match t.split with
  | none => e1 0
  | some sp => e1 sp.count ++ (sp.shares.map fun sh => e4 sh.amount ++ e1 sh.state.ctorIdx ++ e1 sh.claimant).flatten

def homeQuery (tab : Nat) : Body := fun s =>
  match findTab s tab with
  | none => refuse .NO_TAB s
  | some t => (⟨.OK, tabSummary t⟩, s)

def queryBody (home tab : Nat) : Body :=
  job (some .till) fun s =>
    if home = own s then homeQuery tab s
    else remoteRequest home (fun _ => none) Kind.tabQuery tab 0 .command (e2 tab) s

def execQuery (home tab : Nat) (s : State) : Host.Outcome State Fault Refusal :=
  carryOut (.query home tab) (queryBody home tab) s

def takeTabQuery : State → State :=
  request Kind.tabQuery Reader.n2 .till id (fun _ => 0) fun _ tab => answering (homeQuery tab)

def execTabQueryFrame (s : State) : Host.Outcome State Fault Refusal := event takeTabQuery s

def readTabBody (tab : Nat) : Body :=
  readCommand (some .till) fun s =>
    match findTab s tab with
    | none => refuse .NO_TAB s
    | some t => fillSnapshot 1 [] (eTab t) s

def execReadTab (tab : Nat) (s : State) : Host.Outcome State Fault Refusal := carryOut (.readTab tab) (readTabBody tab) s

end Sys2Proof.Machine
end

