-- ==== Sys2Proof/Machine/Splitting.lean ====
section
/-! DEFINITION. Splitting a tab: Split and Withdraw with their frames, and the completion of the split computation (R23 to R35). -/

namespace Sys2Proof.Machine

/-! ## The split request (R23 to R25) -/

/-- The tests on one entry of an assignment list: its line, then its sharer set (R24 step 5). -/
def entryRefusal (t : Tab) (count : Nat) (earlier : List SplitEntry) (e : SplitEntry) : Option Result :=
  let charged := ((t.line e.line).map fun l => l.state.charged).getD false
  if !charged || earlier.any (·.line == e.line) then some .BAD_LINE
  else
    let sharers := membersOf 1 e.sharers
    if sharers.isEmpty || sharers.any (count < ·) then some .BAD_SHARE else none

/-- The first failing entry: its refusal, with its index in the list. -/
def entriesRefusal (t : Tab) (count : Nat) : List SplitEntry → List SplitEntry → Option Reply
  | _, [] => none
  | earlier, e :: rest =>
    match entryRefusal t count earlier e with
    | some r => some ⟨r, e1 (earlier.length + 1)⟩
    | none => entriesRefusal t count (earlier ++ [e]) rest

/-- The tests of R24 in order. -/
def splitRefusal (s : State) (tab count : Nat) (entries : List SplitEntry) : Option Reply :=
  match findTab s tab with
  | none => some (.bare .NO_TAB)
  | some t =>
    match openOnly t.state with
    | some r => some (.bare r)
    | none =>
      if count < 1 ∨ 8 < count ∨ 48 < entries.length then some (.bare .BAD_PARAM)
      else if (chargedLines t).isEmpty then some (.bare .NO_LINES)
      else
        match entriesRefusal t count [] entries with
        | some r => some r
        | none => if s.engine.isSome then some (.bare .BUSY) else none

/-- One charged line as the engine copies it at acceptance (R25). -/
def engineLine (count : Nat) (entries : List SplitEntry) (l : Line) : EngineLine :=
  match entries.find? (·.line == l.number) with
  | some e => ⟨l.number, l.amount, l.tax, membersOf 1 e.sharers, true⟩
  | none => ⟨l.number, l.amount, l.tax, shareNumbers count, false⟩

/-- The engine's record for a tab. -/
def engineJob (t : Tab) (requester : Requester) (count : Nat) (entries : List SplitEntry) : EngineJob :=
  ⟨t.number, requester, false, count, (t.lines.filter (·.state.charged)).map (engineLine count entries)⟩

/-- Acceptance: the tab is SPLITTING and the engine COMPUTING (R25). -/
def startSplit (tab : Nat) (requester : Requester) (count : Nat) (entries : List SplitEntry) (s : State) : State :=
  match findTab s tab with
  | none => s
  | some t =>
    modTab tab (fun t => { t with state := .splitting }) { s with engine := some (engineJob t requester count entries) }

def splitBody (home tab count : Nat) (entries : List SplitEntry) : Body :=
  job (some .till) fun s =>
    if home = own s then
      match splitRefusal s tab count entries with
      | some r => (r, s)
      | none => (.bare .STARTED, startSplit tab .local count entries s)
    else remoteRequest home (fun _ => none) Kind.split tab 0 .command (eSplitPayload tab count entries) s

def execSplit (home tab count : Nat) (entries : List SplitEntry) (s : State) : Host.Outcome State Fault Refusal :=
  carryOut (.split home tab count entries) (splitBody home tab count entries) s

/-- A SPLIT frame: a refusal is answered at once, an acceptance only at completion (R23). -/
def takeSplit : State → State :=
  request Kind.split rSplit .till (·.tab) (fun _ => 0) fun f a ans s =>
    match splitRefusal s a.tab a.count a.entries with
    | some r => ans r s
    | none => startSplit a.tab (.remote f.source f.tag) a.count a.entries s

def execSplitFrame (s : State) : Host.Outcome State Fault Refusal := event takeSplit s

/-! ## The completion (R31 to R33) -/

/-- A line named in the assignment list takes its sharer set (R31). -/
def strikeLine (input : List EngineLine) (l : Line) : Line :=
  match input.find? fun e => e.line == l.number && e.named with
  | some e => { l with sharers := some e.sharers }
  | none => l

/-- The tab takes the engine's results (R31). -/
def Tab.strike (home : Nat) (rates : ClassVec) (job : EngineJob) (t : Tab) : Tab :=
  { t with state := .split, split := some (struckSplit home rates job), lines := t.lines.map (strikeLine job.input) }

/-- Every share of a split is SETTLED. -/
def SplitRec.allSettled (sp : SplitRec) : Bool := sp.shares.all (·.state == .settled)

/-- What SPLIT_STRUCK and the ANSWER to a SPLIT both tell of a struck split (R31). -/
def strikeData (sp : SplitRec) (st : TabState) : Bytes :=
  e1 sp.count ++ e4 sp.total ++ (sp.shares.map fun sh => e4 sh.amount ++ eFlag (sh.state == .settled)).flatten ++ e1 st.ctorIdx

/-- The ANSWER to a SPLIT frame; in DUPLICATE a station sends nothing (R25). -/
def answerSplit (station tag tab : Nat) (r : Reply) (s : State) : State :=
  if s.station.state = .duplicate then s else sendAnswer station Kind.split tag tab 0 r s

/-- The strike, with the close of an all-zero split ahead of the result (R31, R32). -/
def strike (job : EngineJob) (s : State) : State :=
  let sp := struckSplit (own s) s.cfg.rates job
  let struck := modTab job.tab (·.strike (own s) s.cfg.rates job) s
  let closed := if sp.allSettled then closeTab job.tab .paid struck else struck
  let st : TabState := if sp.allSettled then .closed else .split
  match job.requester with
  | .local => post (.splitStruck job.tab sp.count sp.total (sp.shares.map fun sh => (sh.amount, sh.state == .settled)) st) closed
  | .remote station tag => answerSplit station tag job.tab ⟨.OK, strikeData sp st⟩ closed

/-- A stale completion: the results are thrown away and the tab is OPEN again (R33). -/
def redo (job : EngineJob) (s : State) : State :=
  let opened := modTab job.tab Tab.withdrawSplit s
  match job.requester with
  | .local => post (.splitRedo (own s) job.tab) opened
  | .remote station tag => answerSplit station tag job.tab (.bare .REDO) opened

/-- The completion, in every station state (R25). It is an event from outside and may come at any moment while the engine is COMPUTING
(log entry 64). -/
def completeSplit (s : State) : State :=
  match s.engine with
  | none => s
  | some job =>
    let idle : State := { s with engine := none }
    if job.stale then redo job idle else strike job idle

def execSplitCompletion (s : State) : Host.Outcome State Fault Refusal := event completeSplit s

/-! ## Withdraw (R34, R35) -/

/-- The tests of R34 in order. -/
def withdrawRefusal (s : State) (tab : Nat) : Option Result :=
  match findTab s tab with
  | none => some .NO_TAB
  | some t =>
    match t.state, t.split with
    | .open, _ => some .STATE
    | .splitting, _ => some .BUSY
    | .closed, _ => some .TAB_CLOSED
    | .split, some sp => if sp.anyIn .settled then some .SETTLED else if sp.anyIn .claimed then some .CLAIMED else none
    | .split, none => none

/-- A Withdraw at the home; in an ANSWER the tab is the subject and there is no data (R164). -/
def homeWithdraw (tab : Nat) : Body := fun s =>
  match withdrawRefusal s tab with
  | some r => refuse r s
  | none => (.bare .OK, modTab tab Tab.withdrawSplit s)

def withdrawBody (home tab : Nat) : Body :=
  job (some .till) fun s =>
    if home = own s then
      let (r, s') := homeWithdraw tab s
      (if r.result = .OK then ⟨.OK, e2 tab⟩ else r, s')
    else remoteRequest home (fun _ => none) Kind.withdraw tab 0 .command (e2 tab) s

def execWithdraw (home tab : Nat) (s : State) : Host.Outcome State Fault Refusal :=
  carryOut (.withdraw home tab) (withdrawBody home tab) s

def takeWithdraw : State → State :=
  request Kind.withdraw Reader.n2 .till id (fun _ => 0) fun _ tab => answering (homeWithdraw tab)

def execWithdrawFrame (s : State) : Host.Outcome State Fault Refusal := event takeWithdraw s

end Sys2Proof.Machine
end

