-- ==== Sys2Proof/Machine/Claims.lean ====
section
/-! DEFINITION. Claims and settlement: Claim, Settle and Release share at the home and for tabs homed elsewhere, their frames and
answers, CLAIM-END, and the hold and local expiries (R38 to R51). -/

namespace Sys2Proof.Machine

/-! ## Claims at the home (R39, R40) -/

/-- The claimant of a granted share, with the hold timer started or restarted (R39, R40). -/
def Share.grant (k holdMs : Nat) (sh : Share) : Share := { sh with state := .claimed, claimant := k, hold := some holdMs }

/-- Steps 4 to 7 of R40 on one share. -/
def claimShare (k tab : Nat) (sh : Share) : Body := fun s =>
  match sh.state with
  | .settled => refuse .SETTLED s
  | .claimed =>
    if sh.claimant = k then (⟨.GRANTED, e4 sh.amount⟩, modShare tab sh.number (Share.grant k (s.cfg.claimHold * 1000)) s)
    else (⟨.HELD_BY, e1 sh.claimant⟩, s)
  | .available => (⟨.GRANTED, e4 sh.amount⟩, modShare tab sh.number (Share.grant k (s.cfg.claimHold * 1000)) s)

/-- A claim by station `k` in the order of R40. -/
def homeClaim (k tab share : Nat) : Body := fun s =>
  match findTab s tab with
  | none => refuse .NO_TAB s
  | some t =>
    match t.state, t.split with
    | .splitting, _ => refuse .BUSY s
    | .open, _ => refuse .STATE s
    | .closed, _ => refuse .TAB_CLOSED s
    | .split, none => refuse .STATE s
    | .split, some sp =>
      match sp.share share with
      | none => refuse .BAD_SHARE s
      | some sh => claimShare k tab sh s

/-! ## Settlement (R41, R43) -/

/-- What an OK settlement tells: share amount, tender, tendered amount, rounding difference (R41). -/
def settledData (amount : Nat) (tender : Tender) (tendered : Nat) : Bytes :=
  e4 amount ++ e1 tender.code ++ e4 tendered ++ es4 ((tendered : Int) - (amount : Int))

/-- The amount a tender takes for a share: cash rounded, the others exact (R36, R41). -/
def tenderedAmount (increment : Nat) (tender : Tender) (amount : Nat) : Nat :=
  match tender with
  | .cash => cashTender increment amount
  | _ => amount

def Share.settle (k tendered : Nat) (tender : Tender) (sh : Share) : Share :=
  { sh with state := .settled, claimant := 0, hold := none, settlement := some ⟨tender, tendered, k⟩ }

/-- The split of a tab as Settle and Release share meet it: BUSY while SPLITTING, CLAIM_LOST with no split (R41, R42). -/
def settleSplit (s : State) (tab : Nat) : Except Result SplitRec :=
  match findTab s tab with
  | none => .error .NO_TAB
  | some t =>
    match t.state, t.split with
    | .splitting, _ => .error .BUSY
    | .open, _ => .error .CLAIM_LOST
    | _, none => .error .CLAIM_LOST
    | _, some sp => .ok sp

/-- The tab goes CLOSED, PAID, when every share is SETTLED (R43). -/
def closeIfPaid (tab : Nat) (s : State) : State :=
  match (findTab s tab).bind (·.split) with
  | some sp => if sp.allSettled then closeTab tab .paid s else s
  | none => s

/-- Steps 5 to 9 of R41 on one share; the answer is made before the tab may close. -/
def settleShare (k tab : Nat) (tender : Tender) (sh : Share) (ans : Answering) (s : State) : Reply × State :=
  match sh.state, sh.settlement with
  | .available, _ => answered ans (.bare .CLAIM_LOST) s
  | .settled, some p =>
    if p.station = k then answered ans ⟨.OK, settledData sh.amount p.tender p.tendered⟩ s else answered ans (.bare .SETTLED) s
  | .settled, none => answered ans (.bare .SETTLED) s
  | .claimed, _ =>
    if sh.claimant = k then
      let tendered := tenderedAmount s.cfg.rounding tender sh.amount
      let reply : Reply := ⟨.OK, settledData sh.amount tender tendered⟩
      let settled := modShare tab sh.number (Share.settle k tendered tender) s
      let counted := if k = own s then countSettlement tender tendered ((tendered : Int) - (sh.amount : Int)) settled else settled
      (reply, closeIfPaid tab (ans reply counted))
    else answered ans (.bare .NOT_CLAIMANT) s

/-- A settlement by station `k` in the order of R41. -/
def homeSettle (k tab share tender : Nat) (ans : Answering) (s : State) : Reply × State :=
  match settleSplit s tab with
  | .error r => answered ans (.bare r) s
  | .ok sp =>
    match sp.share share with
    | none => answered ans (.bare .BAD_SHARE) s
    | some sh =>
      match Tender.ofCode tender with
      | none => answered ans (.bare .BAD_PARAM) s
      | some t => settleShare k tab t sh ans s

/-! ## Release of a claim (R42) -/

/-- A release by station `k` in the order of R42. -/
def homeRelease (k tab share : Nat) : Body := fun s =>
  match settleSplit s tab with
  | .error r => refuse r s
  | .ok sp =>
    match sp.share share with
    | none => refuse .BAD_SHARE s
    | some sh =>
      match sh.state with
      | .available => refuse .CLAIM_LOST s
      | .settled => refuse .SETTLED s
      | .claimed => if sh.claimant = k then (.bare .OK, modShare tab share Share.free s) else refuse .NOT_CLAIMANT s

/-! ## The claims list (R45, R46) -/

def ClaimEntry.isFor (home tab share : Nat) (e : ClaimEntry) : Bool := e.home == home && e.tab == tab && e.share == share

def findClaim (s : State) (home tab share : Nat) : Option ClaimEntry := s.claims.find? (·.isFor home tab share)

def modClaim (home tab share : Nat) (f : ClaimEntry → ClaimEntry) (s : State) : State :=
  { s with claims := mapIf (·.isFor home tab share) f s.claims }

def dropClaim (home tab share : Nat) (s : State) : State :=
  { s with claims := s.claims.filter fun e => !e.isFor home tab share }

/-- CLAIM exchanges out for shares without an entry (R45 test 5). -/
def claimsInFlight (s : State) : Nat :=
  (s.exch.entries.filter fun x => x.kind == Kind.claim && (findClaim s x.dest x.subject x.share).isNone).length

/-- Test 5 of R45 for Claim. -/
def claimTests (home tab share : Nat) (s : State) : Option Result :=
  match findClaim s home tab share with
  | none => if Config.claimCapacity ≤ s.claims.length + claimsInFlight s then some .BUSY else none
  | some e => if e.state = .held then none else some .BUSY

/-- Test 5 of R45 for Release share, and for Settle up to its tender. -/
def heldTests (home tab share : Nat) (s : State) : Option Result :=
  match findClaim s home tab share with
  | none => some .NOT_CLAIMANT
  | some e => if e.state = .held then none else some .BUSY

def settleTests (home tab share tender : Nat) (s : State) : Option Result :=
  match heldTests home tab share s with
  | some r => some r
  | none => if (Tender.ofCode tender).isNone then some .BAD_PARAM else none

/-- An entry passes to SETTLING or RELEASING once its request is STARTED (R45). -/
def markStarted (home tab share : Nat) (st : ClaimState) (p : Reply × State) : Reply × State :=
  if p.1.result = .STARTED then (p.1, modClaim home tab share (fun e => { e with state := st }) p.2) else p

/-- A local answer carries the tab number and share a frame has as its subject (R40, R41). -/
def withSubject (tab share : Nat) (r : Reply) : Reply :=
  if r.result = .OK ∨ r.result = .GRANTED then ⟨r.result, e2 tab ++ e1 share ++ r.data⟩ else r

/-! ## Claim, Settle, Release share and their frames -/

def claimBody (home tab share : Nat) : Body :=
  job (some .till) fun s =>
    if home = own s then
      let (r, s') := homeClaim (own s) tab share s
      (withSubject tab share r, s')
    else remoteRequest home (claimTests home tab share) Kind.claim tab share .claims (e2 tab ++ e1 share) s

def execClaim (home tab share : Nat) (s : State) : Host.Outcome State Fault Refusal :=
  carryOut (.claim home tab share) (claimBody home tab share) s

def takeClaim : State → State :=
  request Kind.claim rTabByte .till (·.1) (·.2) fun f a => answering (homeClaim f.source a.1 a.2)

def execClaimFrame (s : State) : Host.Outcome State Fault Refusal := event takeClaim s

def settleBody (home tab share tender : Nat) : Body :=
  job (some .till) fun s =>
    if home = own s then
      let (r, s') := homeSettle (own s) tab share tender noAnswer s
      (withSubject tab share r, s')
    else
      markStarted home tab share .settling
        (remoteRequest home (settleTests home tab share tender) Kind.settle tab share .claims (e2 tab ++ e1 share ++ e1 tender) s)

def execSettle (home tab share tender : Nat) (s : State) : Host.Outcome State Fault Refusal :=
  carryOut (.settle home tab share tender) (settleBody home tab share tender) s

def takeSettle : State → State :=
  request Kind.settle rTabShareByte .till (·.1) (·.2.1) fun f a ans s => (homeSettle f.source a.1 a.2.1 a.2.2 ans s).2

def execSettleFrame (s : State) : Host.Outcome State Fault Refusal := event takeSettle s

def releaseShareBody (home tab share : Nat) : Body :=
  job (some .till) fun s =>
    if home = own s then homeRelease (own s) tab share s
    else
      markStarted home tab share .releasing
        (remoteRequest home (heldTests home tab share) Kind.release tab share .claims (e2 tab ++ e1 share) s)

def execReleaseShare (home tab share : Nat) (s : State) : Host.Outcome State Fault Refusal :=
  carryOut (.releaseShare home tab share) (releaseShareBody home tab share) s

def takeRelease : State → State :=
  request Kind.release rTabByte .till (·.1) (·.2) fun f a => answering (homeRelease f.source a.1 a.2)

def execReleaseFrame (s : State) : Host.Outcome State Fault Refusal := event takeRelease s

/-- Read claims (R177). -/
def readClaimsBody : Body :=
  readCommand (some .till) fun s => fillSnapshot 2 (e1 s.claims.length) (eAll eClaim s.claims) s

def execReadClaims (s : State) : Host.Outcome State Fault Refusal := carryOut .readClaims readClaimsBody s

/-! ## Answers to the claims list (R46 to R48) -/

def AnswerRec.is (a : AnswerRec) (r : Result) : Bool := a.result == r.code

/-- A GRANTED answer makes the entry, renews a HELD one, and leaves any other as it is; with the list full it makes none (R46). A late
grant's tab and share are taken as they stand, in range or not (log entry 54). -/
def takeGrant (a : AnswerRec) (s : State) : State :=
  let expiry : Timer := some (s.cfg.claimHold * 1000)
  match findClaim s a.source a.subject a.share with
  | none =>
    if s.claims.length < Config.claimCapacity then
      let amount := (Reader.n4.exact a.data).getD 0
      { s with claims := s.claims ++ [⟨a.source, a.subject, a.share, amount, expiry, .held, none⟩] }
    else s
  | some e => if e.state = .held then modClaim a.source a.subject a.share (fun e => { e with expiry := expiry }) s else s

/-- The answer to a CLAIM in time, or its NO_ANSWER (R46). -/
def claimAnswer (a : AnswerRec) (s : State) : State :=
  if a.is .GRANTED then post (.claimResult a) (takeGrant a s)
  else
    let held := ((findClaim s a.source a.subject a.share).map fun e => e.state == .held).getD false
    post (.claimResult a) (if held && !a.is .NO_ANSWER then dropClaim a.source a.subject a.share s else s)

/-- An OK settlement is counted with the answer's values, and the entry goes with it (R47, R55); one whose tender code is beyond VOUCHER
counts nothing (log entry 53). -/
def countAnswered (a : AnswerRec) (s : State) : State :=
  let gone := dropClaim a.source a.subject a.share s
  match rSettled.exact a.data with
  | some (_, tender, tendered, diff) => countSettlement ((Tender.ofCode tender).getD .none) tendered diff gone
  | none => gone

/-- The answer to a SETTLE in time, or its NO_ANSWER (R47). An OK is counted by whatever entry stands; any other result decides only an
entry in SETTLING or ENDED (log entry 35). -/
def settleAnswer (a : AnswerRec) (s : State) : State :=
  match findClaim s a.source a.subject a.share with
  | none => post (.settleResult a) s
  | some e =>
    let gone := dropClaim a.source a.subject a.share s
    if a.is .OK then post (.settleResult a) (countAnswered a s)
    else
      match e.state with
      | .held | .releasing => post (.settleResult a) s
      | .settling =>
        if a.is .CLAIM_LOST then post (.claimLost a.source a.subject a.share) gone
        else if a.is .NO_ANSWER then
          post (.settleResult a) (modClaim a.source a.subject a.share (fun e => { e with state := .held }) s)
        else post (.settleResult a) gone
      | .ended =>
        if a.is .CLAIM_LOST then post (.claimLost a.source a.subject a.share) gone
        else if a.is .NO_ANSWER then post (.claimEnded a.source a.subject a.share (e.reason.getD .expired)) gone
        else post (.settleResult a) gone

/-- The answer to a RELEASE in time, or its NO_ANSWER (R48). -/
def releaseAnswer (a : AnswerRec) (s : State) : State := post (.releaseResult a) (dropClaim a.source a.subject a.share s)

/-- The outcome of a claims list exchange by its kind (R167). -/
def claimsOutcome (a : AnswerRec) (s : State) : State :=
  if a.kind = Kind.claim then claimAnswer a s
  else if a.kind = Kind.settle then settleAnswer a s
  else releaseAnswer a s

/-- A late answer at the claims list: a late grant may make an entry, a late OK is counted if the entry still stands (R46, R47). -/
def claimsLate (a : AnswerRec) (s : State) : State :=
  if a.kind = Kind.claim ∧ a.is .GRANTED = true then takeGrant a s
  else if a.kind = Kind.settle ∧ a.is .OK = true ∧ (findClaim s a.source a.subject a.share).isSome = true then countAnswered a s
  else s

/-! ## CLAIM-END and the expiries (R39, R49, R50) -/

def endReason : Nat → Option EndReason
  | 0 => some .expired
  | 1 => some .cancelled
  | _ => none

/-- A home's CLAIM-END against the entry it names (R49). -/
def claimEnded (home tab share : Nat) (reason : EndReason) (s : State) : State :=
  match findClaim s home tab share with
  | none => s
  | some e =>
    match e.state with
    | .held | .releasing => post (.claimEnded home tab share reason) (dropClaim home tab share s)
    | .settling => modClaim home tab share (fun e => { e with state := .ended, reason := some reason }) s
    | .ended => s

/-- A delivered CLAIM-END; without the TILL role, or with an undefined reason, it is discarded (R163, R179). -/
def takeClaimEnd : State → State :=
  deliver Kind.claimEnd fun f s =>
    match rTabShareByte.exact f.payload with
    | some (tab, share, code) =>
      match endReason code with
      | some reason => if inService s && hasRole s .till then claimEnded f.source tab share reason s else s
      | none => s
    | none => s

def execClaimEndFrame (s : State) : Host.Outcome State Fault Refusal := event takeClaimEnd s

/-- The hold timer of a CLAIMED share expires: AVAILABLE, and the claimant is told (R39). -/
def holdExpiry (tab share : Nat) (s : State) : State :=
  if s.station.state = .duplicate then s
  else
    match findShare s tab share with
    | some sh =>
      if sh.state = .claimed ∧ isPending sh.hold = true then
        tellClaimEnd tab share sh.claimant .expired (modShare tab share Share.free s)
      else s
    | none => s

def execHoldTimerExpiry (tab share : Nat) (s : State) : Host.Outcome State Fault Refusal := event (holdExpiry tab share) s

/-- The local expiry of a claims list entry (R50). -/
def localExpired (home tab share : Nat) (s : State) : State :=
  if s.station.state = .duplicate then s
  else
    match findClaim s home tab share with
    | none => s
    | some e =>
      if isPending e.expiry then
        match e.state with
        | .held | .releasing => post (.claimLost home tab share) (dropClaim home tab share s)
        | .settling => modClaim home tab share (fun e => { e with state := .ended, reason := some .expired, expiry := none }) s
        | .ended => modClaim home tab share (fun e => { e with expiry := none }) s
      else s

def execLocalExpiry (home tab share : Nat) (s : State) : Host.Outcome State Fault Refusal := event (localExpired home tab share) s

end Sys2Proof.Machine
end

