-- ==== Sys2Proof/Machine/Peers.lean ====
section
/-! DEFINITION. The peer directory's rows: BEACON and PERIOD frames, the silence, interval and hold-off timers, Read peers (R57, R65 to
R75). -/

namespace Sys2Proof.Machine

/-- The station states in which the directory, the stock view and the period number take frames (R61, R129, R138). -/
def listening (s : State) : Bool := s.station.state == .joining || inService s

/-- A delivered beacon: the directory's part, then the period number to the takings unit unless it is above 99 (R66, R67, R57). -/
def takeBeaconFrame : State → State :=
  deliver Kind.beacon fun f s =>
    match rBeacon.exact f.payload with
    | some b =>
      if listening s then
        let recorded := takeBeacon f.source b s
        if b.period ≤ Config.maxPeriod then heardPeriod b.period recorded else recorded
      else s
    | none => s

def execBeaconFrame (s : State) : Host.Outcome State Fault Refusal := event takeBeaconFrame s

/-- A delivered PERIOD frame: recorded in its source's entry and heard by the takings unit; above 99 it is discarded (R57, R68,
R179). -/
def takePeriodFrame : State → State :=
  deliver Kind.period fun f s =>
    match Reader.n1.exact f.payload with
    | some n =>
      if listening s && decide (n ≤ Config.maxPeriod) then heardPeriod n (modPeer f.source (fun p => { p with period := some n }) s)
      else s
    | none => s

def execPeriodFrame (s : State) : Host.Outcome State Fault Refusal := event takePeriodFrame s

/-- A peer's silence timer expires (R65). -/
def silenceExpiry (k : Nat) (s : State) : State :=
  if s.station.state = .duplicate then s
  else
    match findPeer s k with
    | some p => if p.presence = .present ∧ isPending p.silence = true then losePeer p s else s
    | none => s

def execSilenceTimerExpiry (k : Nat) (s : State) : Host.Outcome State Fault Refusal := event (silenceExpiry k) s

/-- The beacon interval timer expires, and a beacon is generated (R73). -/
def intervalExpiry (s : State) : State :=
  if inService s ∧ isPending s.beacon.interval = true then genBeacon s else s

def execIntervalTimerExpiry (s : State) : Host.Outcome State Fault Refusal := event intervalExpiry s

/-- The hold-off expires, and a beacon marked as due is generated (R75). -/
def holdOffEnd (s : State) : State :=
  if inService s ∧ isPending s.beacon.holdOff = true then
    let lapsed : State := { s with beacon := { s.beacon with holdOff := none, due := false } }
    if s.beacon.due then genBeacon lapsed else lapsed
  else s

def execHoldOffExpiry (s : State) : Host.Outcome State Fault Refusal := event holdOffEnd s

/-- Read peers: the copy, the count of entries and of changed ones, and every changed-since-read flag cleared (R71). -/
def readPeersBody : Body :=
  readCommand none fun s =>
    let entries := s.dir.entries
    let (r, s') := fillSnapshot 4 (e1 entries.length ++ e1 (entries.filter (·.changed)).length) (eAll ePeer entries) s
    (r, { s' with dir := { s'.dir with entries := entries.map fun p => { p with changed := false } } })

def execReadPeers (s : State) : Host.Outcome State Fault Refusal := carryOut .readPeers readPeersBody s

end Sys2Proof.Machine
end

