-- ==== Sys2Proof/Machine/Routing.lean ====
section
/-! DEFINITION. The ticket router's rows: Retry, Refresh, Abandon, Read tickets, and the TICKET-STATE frame (R84, R87 to R89, R92, R95,
R96). -/

namespace Sys2Proof.Machine

/-! ## Retry (R84) -/

def retryBody (ticket : Nat) : Body :=
  job (some .till) fun s =>
    match findTicket s ticket with
    | none => refuse .NO_ENTRY s
    | some t =>
      if t.state = .unrouted then
        (.bare .OK,
          moveLines t.tab t.lines (· == .unrouted) .pending
            (modTicket ticket (fun t => { t with state := .pending, tried := [], attempts := 0 }) s))
      else refuse .STATE s

def execRetry (ticket : Nat) (s : State) : Host.Outcome State Fault Refusal := carryOut (.retry ticket) (retryBody ticket) s

/-! ## Refresh (R92) -/

/-- The report a ticket state amounts to; QUEUED is at or before every kitchen state and changes nothing, and neither does a state code
beyond READY (log entry 59). -/
def stateReport : Nat → Option ReportState
  | 1 => some .fired
  | 2 => some .ready
  | _ => none

/-- One line the kitchen reports VOID that has not been voided at the home: a line void whose report was missed (R92). -/
def missedVoid (t : Ticket) (s : State) (line : Nat) : State :=
  if t.lines.contains line then tabKitchenVoid t.tab line s else s

/-- A kitchen's answer applied to the record, if it still exists and is still placed at that kitchen (R92): the state of the ticket,
then the lines reported VOID. -/
def applyView (ticket kitchen place : Nat) (voids : List Nat) (s : State) : State :=
  match findTicket s ticket with
  | none => s
  | some t =>
    match t.state with
    | .placed k ks =>
      if k = kitchen then
        let moved :=
          match stateReport place with
          | some st => applyPlaced t k ks (.state st) s
          | none => s
        pruneTicket ticket (voids.foldl (missedVoid t) moved)
      else s
    | _ => s

/-- UNKNOWN: every listed line that has not ended is LOST, and the record is removed (R92). -/
def applyUnknown (ticket kitchen : Nat) (s : State) : State :=
  match findTicket s ticket with
  | none => s
  | some t => if t.placedAt kitchen then endTicket t .lost s else s

/-- The lines a TICKET-QUERY answer shows VOID: line state codes ACTIVE 0, VOID 1; any other code is not VOID (log entry 59). -/
def voidedLines (lines : List (Nat × Nat)) : List Nat := (lines.filter (·.2 == 1)).map (·.1)

/-- The outcome of a Refresh exchange: applied, then posted (R92). -/
def refreshAnswer (a : AnswerRec) (s : State) : State :=
  post (.refreshResult a)
    (if a.is .OK then
      match rQueryAnswer.exact a.data with
      | some (place, _, _, lines) => applyView a.subject a.source place (voidedLines lines) s
      | none => s
    else if a.is .UNKNOWN then applyUnknown a.subject a.source s
    else s)

/-- Refresh of a ticket placed at this station's own kitchen: answered in the same event (R92). -/
def refreshOwn (ticket : Nat) : Body := fun s =>
  match kitchenQuery s (own s) ticket with
  | some v => (v.reply, applyView ticket (own s) v.place.code ((v.lines.filter (·.2)).map (·.1)) s)
  | none => (.bare .UNKNOWN, applyUnknown ticket (own s) s)

/-- Refresh of a ticket placed at a peer, in the order of R92. -/
def refreshPeerAt (ticket kitchen : Nat) : Body := fun s =>
  if s.station.state = .isolated then refuse .LINK_DOWN s
  else
    let (r, s') := openExchange Kind.ticketQuery kitchen ticket 0 .command (e2 ticket) s
    (.bare r, s')

def refreshBody (ticket : Nat) : Body :=
  job (some .till) fun s =>
    match findTicket s ticket with
    | none => refuse .NO_ENTRY s
    | some t =>
      match t.state with
      | .placed k _ => if k = own s then refreshOwn ticket s else refreshPeerAt ticket k s
      | _ => refuse .STATE s

def execRefresh (ticket : Nat) (s : State) : Host.Outcome State Fault Refusal := carryOut (.refresh ticket) (refreshBody ticket) s

/-! ## Abandon (R95) -/

/-- A record Abandon may end: UNROUTED, or placed at a peer not held PRESENT. -/
def abandonable (s : State) (t : Ticket) : Bool :=
  match t.state with
  | .unrouted => true
  | .placed k _ => k != own s && !isPresent s k
  | _ => false

/-- Listed lines that have not ended. -/
def openLines (s : State) (t : Ticket) : List Nat := t.lines.filter fun l => !lineEnded s t.tab l

def abandonBody (ticket : Nat) : Body :=
  job (some .till) fun s =>
    match findTicket s ticket with
    | none => refuse .NO_ENTRY s
    | some t => if abandonable s t then (⟨.OK, e1 (openLines s t).length⟩, endTicket t .lost s) else refuse .STATE s

def execAbandon (ticket : Nat) (s : State) : Host.Outcome State Fault Refusal := carryOut (.abandon ticket) (abandonBody ticket) s

/-! ## Read tickets (R96) -/

def readTicketsBody : Body :=
  readCommand (some .till) fun s =>
    fillSnapshot 5 (e1 (s.router.tickets.length + s.router.voids.length))
      (eAll eTicket s.router.tickets ++ eAll eVoidEntry s.router.voids) s

def execReadTickets (s : State) : Host.Outcome State Fault Refusal := carryOut .readTickets readTicketsBody s

/-! ## TICKET-STATE (R87 to R89) -/

/-- The report a TICKET-STATE carries; an undefined code, a home of 0 or 127, or an empty line list discards it (R179). -/
def TicketStateFields.report (f : TicketStateFields) : Option Report :=
  if f.home = 0 ∨ f.home = allStations then none
  else if f.form = 0 then
    match f.code with
    | 0 => some (.state .fired)
    | 1 => some (.state .ready)
    | 2 => some (.state .collected)
    | 3 => some (.state .uncollected)
    | 4 => some (.state .voided)
    | _ => none
  else if f.lines.isEmpty then none
  else
    match f.code with
    | 0 => some (.voids true f.lines)
    | 1 => some (.voids false f.lines)
    | _ => none

/-- A delivered TICKET-STATE: only this home's, and none with the orphan flag set (R87), any flag byte but 0 counting as set (log entry
57); without the TILL role it is discarded. -/
def takeTicketState : State → State :=
  deliver Kind.ticketState fun f s =>
    match (rTicketState.exact f.payload).bind fun x => x.report.map fun r => (x, r) with
    | some (x, r) =>
      if inService s && hasRole s .till && x.home == own s && x.orphan == 0 then applyReport ownVoid f.source x.ticket r s else s
    | none => s

def execTicketStateFrame (s : State) : Host.Outcome State Fault Refusal := event takeTicketState s

end Sys2Proof.Machine
end

