-- ==== Sys2Proof/Machine/Kitchen.lean ====
section
/-! DEFINITION. The kitchen queue's rows: Fire, Ready, Collect, Kitchen void, Read queue, Next new, the ticket timers, and the frames
TICKET, TICKET-VOID and TICKET-QUERY (R97 to R117). -/

namespace Sys2Proof.Machine

/-! ## Fire, Ready and Collect (R104, R106, R108) -/

def fireBody (ref : Nat) : Body :=
  job (some .kitchen) fun s =>
    match s.kitchen.byRef ref with
    | none => refuse .NO_ENTRY s
    | some (.queued, t) =>
      if s.cfg.fireLimit ≤ s.kitchen.fired.length then refuse .FIRE_LIMIT s
      else
        let s' := fireTicket ownReport t s
        (⟨.OK, e1 s'.kitchen.fired.length⟩, s')
    | some _ => refuse .STATE s

def execFire (ref : Nat) (s : State) : Host.Outcome State Fault Refusal := carryOut (.fire ref) (fireBody ref) s

/-- A ticket as it joins the ready list: its warn and late timers stop and its collect timer starts (R106). -/
def KTicket.readied (collectMs : Nat) (t : KTicket) : KTicket :=
  { t with warnTimer := none, lateTimer := none, collectTimer := some collectMs }

/-- A QUEUED or FIRED ticket becomes READY: the fire transfers of a QUEUED one, the move, the report and the count (R106). -/
def readyTicket (p : Place) (t : KTicket) (s : State) : State :=
  let k := s.kitchen.drop t.ref
  let t' := t.readied (s.cfg.collectTimeout * 1000)
  let moved : State := { s with kitchen := { k with ready := k.ready ++ [t'] } }
  let fired := if p = .queued then transferAll Portion.fire t.active moved else moved
  countReadied (makeReport ownReport t' (.state .ready) fired)

def readyBody (ref : Nat) : Body :=
  job (some .kitchen) fun s =>
    match s.kitchen.byRef ref with
    | none => refuse .NO_ENTRY s
    | some (.queued, t) => (.bare .OK, holdTest (readyTicket .queued t s))
    | some (.fired, t) => (.bare .OK, autoFire ownReport (holdTest (readyTicket .fired t s)))
    | some (.ready, _) => refuse .STATE s

def execReady (ref : Nat) (s : State) : Host.Outcome State Fault Refusal := carryOut (.ready ref) (readyBody ref) s

/-- A READY ticket leaves the queue with its report (R108). -/
def collectTicket (t : KTicket) (r : ReportState) (s : State) : State :=
  makeReport ownReport t (.state r) { s with kitchen := s.kitchen.drop t.ref }

def collectBody (ref : Nat) : Body :=
  job (some .kitchen) fun s =>
    match s.kitchen.byRef ref with
    | none => refuse .NO_ENTRY s
    | some (.ready, t) => (.bare .OK, collectTicket t .collected s)
    | some _ => refuse .STATE s

def execCollect (ref : Nat) (s : State) : Host.Outcome State Fault Refusal := carryOut (.collect ref) (collectBody ref) s

/-! ## Kitchen void (R113) -/

/-- The first named line that is not in the ticket or is already VOID. -/
def badLine (t : KTicket) (lines : List Nat) : Option Nat := lines.find? fun n => !t.active.any (·.line == n)

def kitchenVoidBody (ref : Nat) (lines : List Nat) : Body :=
  job (some .kitchen) fun s =>
    match s.kitchen.byRef ref with
    | none => refuse .NO_ENTRY s
    | some (.ready, _) => refuse .STATE s
    | some (p, t) =>
      if 8 < lines.length then refuse .BAD_PARAM s
      else
        match badLine t lines with
        | some n => (⟨.BAD_LINE, e1 n⟩, s)
        | none =>
          let names := if lines.isEmpty then t.active.map (·.line) else lines.foldl (fun l n => addNew n l) []
          (⟨.OK, e1 names.length⟩, voidKLines ownReport p t names true s)

def execKitchenVoid (ref : Nat) (lines : List Nat) (s : State) : Host.Outcome State Fault Refusal :=
  carryOut (.kitchenVoid ref lines) (kitchenVoidBody ref lines) s

/-! ## Read queue and Next new (R117) -/

/-- The whole queue: queued list, fired list, ready list. -/
def eQueue (k : Kitchen) : Bytes := eAll (eKTicket .queued) k.queued ++ eAll (eKTicket .fired) k.fired ++ eAll (eKTicket .ready) k.ready

def readQueueBody : Body :=
  readCommand (some .kitchen) fun s => fillSnapshot 6 (e1 s.kitchen.all.length) (eQueue s.kitchen) s

def execReadQueue (s : State) : Host.Outcome State Fault Refusal := carryOut .readQueue readQueueBody s

/-- Ticket `a` comes ahead of `b`: earlier accepted time, or the same time and accepted first. -/
def acceptedBefore (a b : KTicket) : Bool := decide (a.accepted < b.accepted) || (a.accepted == b.accepted && decide (a.seq < b.seq))

def oldestOf : List KTicket → Option KTicket
  | [] => none
  | t :: rest =>
    match oldestOf rest with
    | none => some t
    | some u => if acceptedBefore u t then some u else some t

/-- The oldest record whose unread flag is set. -/
def Kitchen.oldestUnread (k : Kitchen) : Option KTicket := oldestOf (k.all.filter (·.unread))

/-- The list that holds a reference; a reference no list holds counts as QUEUED, which no caller meets. -/
def Kitchen.placeOf (ref : Nat) (k : Kitchen) : Place := ((k.byRef ref).map (·.1)).getD .queued

def nextNewBody : Body :=
  readCommand (some .kitchen) fun s =>
    match s.kitchen.oldestUnread with
    | none => refuse .NO_ENTRY s
    | some t =>
      let (r, s') := fillSnapshot 7 (e1 t.ref) (eKTicket (s.kitchen.placeOf t.ref) t) s
      (r, { s' with kitchen := s.kitchen.modRef t.ref fun t => { t with unread := false } })

def execNextNew (s : State) : Host.Outcome State Fault Refusal := carryOut .nextNew nextNewBody s

/-! ## The ticket timers (R107, R108) -/

def modKTicket (ref : Nat) (f : KTicket → KTicket) (s : State) : State := { s with kitchen := s.kitchen.modRef ref f }

/-- An expiry on the record that holds a reference; in DUPLICATE the queue is frozen (R116). -/
def onTicket (ref : Nat) (f : Place → KTicket → State → State) (s : State) : State :=
  if s.station.state = .duplicate then s
  else
    match s.kitchen.byRef ref with
    | some (p, t) => f p t s
    | none => s

def warnExpiry (ref : Nat) : State → State :=
  onTicket ref fun _ t s =>
    if isPending t.warnTimer then
      post (.ticketWarn ref t.home t.number s.cfg.warnTime) (modKTicket ref (fun t => { t with warn := true, warnTimer := none }) s)
    else s

def execWarnTimerExpiry (ref : Nat) (s : State) : Host.Outcome State Fault Refusal := event (warnExpiry ref) s

def lateExpiry (ref : Nat) : State → State :=
  onTicket ref fun _ t s =>
    if isPending t.lateTimer then
      countLate (post (.ticketLate ref t.home t.number) (modKTicket ref (fun t => { t with late := true, lateTimer := none }) s))
    else s

def execLateTimerExpiry (ref : Nat) (s : State) : Host.Outcome State Fault Refusal := event (lateExpiry ref) s

def collectExpiry (ref : Nat) : State → State :=
  onTicket ref fun p t s =>
    if p = .ready ∧ isPending t.collectTimer = true then
      post (.ticketUncollected ref t.home t.number) (collectTicket t .uncollected s)
    else s

def execCollectTimerExpiry (ref : Nat) (s : State) : Host.Outcome State Fault Refusal := event (collectExpiry ref) s

/-! ## The frames a kitchen serves (R100, R112, R114) -/

def takeTicket : State → State :=
  request Kind.ticket rOffer .kitchen (·.ticket) (fun _ => 0) fun f o ans s => (takeOffer ownReport ans f.source o s).2

def execTicketFrame (s : State) : Host.Outcome State Fault Refusal := event takeTicket s

def VoidAnswer.reply : VoidAnswer → Reply
  | .lines rs => ⟨.OK, eList (fun p => e1 p.1 ++ e1 p.2) rs⟩
  | _ => .bare .UNKNOWN

/-- A delivered TICKET-VOID, answered per line; more than eight line numbers are refused BAD_PARAM (R112, R179; log entry 38). -/
def takeTicketVoid : State → State :=
  request Kind.ticketVoid rTicketVoid .kitchen (·.1) (fun _ => 0) fun f a ans s =>
    if 8 < a.2.length then ans (.bare .BAD_PARAM) s
    else
      let reply := (kitchenTicketVoid ownReport f.source a.1 a.2 s).1.reply
      (kitchenTicketVoid ownReport f.source a.1 a.2 (ans reply s)).2

def execTicketVoidFrame (s : State) : Host.Outcome State Fault Refusal := event takeTicketVoid s

def takeTicketQuery : State → State :=
  request Kind.ticketQuery Reader.n2 .kitchen id (fun _ => 0) fun f n ans s =>
    match kitchenQuery s f.source n with
    | some v => ans v.reply s
    | none => ans (.bare .UNKNOWN) s

def execTicketQueryFrame (s : State) : Host.Outcome State Fault Refusal := event takeTicketQuery s

end Sys2Proof.Machine
end

