-- ==== Sys2Proof/Machine/Portions.lean ====
section
/-! DEFINITION. The portion table's commands: Load, Refill, Reload to preset, Recount, Remove and Read portions (R118 to R128). The
reports of R120 are made at the end of every event. -/

namespace Sys2Proof.Machine

/-- The range test on an item code and the counts a command carries, then the entry it needs (R123). -/
def withPortion (item : Nat) (inRange : Bool) (body : Portion → Body) : Body := fun s =>
  if 4095 < item ∨ inRange = false then refuse .BAD_PARAM s
  else
    match findPortion s item with
    | none => refuse .NO_ENTRY s
    | some p => body p s

/-- An entry as Load makes it (R124). -/
def Portion.fresh (item count low : Nat) : Portion := ⟨item, count, 0, 0, count, count, low, 0, 0, false⟩

def loadData (p : Portion) : Bytes := e2 p.remaining ++ e2 p.preset ++ e2 p.low ++ e1 (stockState p).ctorIdx

def loadBody (item countIn low : Nat) : Body :=
  job (some .kitchen) fun s =>
    if 4095 < item ∨ Config.portionLimit < countIn ∨ 999 < low then refuse .BAD_PARAM s
    else
      match findPortion s item with
      | some p =>
        let p' : Portion := { p with preset := countIn, low := low }
        (⟨.OK, loadData p'⟩, modPortion item (fun _ => p') s)
      | none =>
        if Config.portionCapacity ≤ s.portions.length then refuse .FULL s
        else
          let p := Portion.fresh item countIn low
          (⟨.OK, loadData p⟩, { s with portions := insertBy (·.item) p s.portions })

def execLoad (item count low : Nat) (s : State) : Host.Outcome State Fault Refusal :=
  carryOut (.load item count low) (loadBody item count low) s

/-- Loaded may not pass its range (R123). -/
def loadedFits (v : Int) : Bool := decide (v ≤ (Config.max32 : Int))

def refillBody (item n : Nat) : Body :=
  job (some .kitchen) <|
    withPortion item (decide (n ≤ Config.portionLimit)) fun p s =>
      let taken := min n (Config.portionLimit - p.remaining)
      if Config.max32 < p.loaded + taken then refuse .FULL s
      else
        let p' : Portion := { p with remaining := p.remaining + taken, loaded := p.loaded + taken }
        (⟨.OK, e2 taken ++ e2 p'.remaining⟩, modPortion item (fun _ => p') s)

def execRefill (item count : Nat) (s : State) : Host.Outcome State Fault Refusal :=
  carryOut (.refill item count) (refillBody item count) s

/-- The remaining count set to a value, with loaded changed by the difference. -/
def Portion.setRemaining (v : Nat) (p : Portion) : Portion :=
  { p with remaining := v, loaded := ((p.loaded : Int) + ((v : Int) - (p.remaining : Int))).toNat }

def reloadBody (item : Nat) : Body :=
  job (some .kitchen) <|
    withPortion item true fun p s =>
      let diff : Int := (p.preset : Int) - (p.remaining : Int)
      if loadedFits ((p.loaded : Int) + diff) = false then refuse .FULL s
      else (⟨.OK, e2 p.preset ++ es4 diff⟩, modPortion item (fun p => p.setRemaining p.preset) s)

def execReloadToPreset (item : Nat) (s : State) : Host.Outcome State Fault Refusal :=
  carryOut (.reloadToPreset item) (reloadBody item) s

/-- Adjust moved by a recount's difference, stopping at its ends (R119, R127). -/
def clampAdjust (v : Int) : Int := max (-(Config.maxSigned : Int)) (min (Config.maxSigned : Int) v)

def recountBody (item counted : Nat) : Body :=
  job (some .kitchen) <|
    withPortion item (decide (counted ≤ Config.portionLimit)) fun p s =>
      let diff : Int := (counted : Int) - (p.remaining : Int)
      if loadedFits ((p.loaded : Int) + diff) = false then refuse .FULL s
      else
        (⟨.OK, es4 diff ++ e2 counted⟩,
          modPortion item (fun p => { p.setRemaining counted with adjust := clampAdjust (p.adjust + diff) }) s)

def execRecount (item counted : Nat) (s : State) : Host.Outcome State Fault Refusal :=
  carryOut (.recount item counted) (recountBody item counted) s

/-- The portion-taken flag of every line of an item is cleared, in every record (R103, R128). -/
def clearTaken (item : Nat) (t : KTicket) : KTicket :=
  { t with lines := mapIf (·.item == item) (fun l => { l with taken := false }) t.lines }

def removeBody (item : Nat) : Body :=
  job (some .kitchen) <|
    withPortion item true fun p s =>
      if 0 < p.held then refuse .HELD s
      else
        (⟨.OK, e2 p.remaining ++ e4 p.used ++ e4 p.loaded ++ e4 p.waste ++ es4 p.adjust⟩,
          { s with portions := s.portions.filter (·.item != item), kitchen := s.kitchen.mapAll (clearTaken item) })

def execRemove (item : Nat) (s : State) : Host.Outcome State Fault Refusal := carryOut (.remove item) (removeBody item) s

/-- The fields of one entry in the order of R119. -/
def portionFields (p : Portion) : Bytes := (ePortion p).drop 3

def readPortionsBody (item : Option Nat) : Body :=
  readCommand (some .kitchen) fun s =>
    match item with
    | some i => withPortion i true (fun p s => (⟨.OK, portionFields p⟩, s)) s
    | none => fillSnapshot 8 (e1 s.portions.length) (eAll ePortion s.portions) s

def execReadPortions (item : Option Nat) (s : State) : Host.Outcome State Fault Refusal :=
  carryOut (.readPortions item) (readPortionsBody item) s

end Sys2Proof.Machine
end

