-- ==== Sys2Proof/Machine/Stock.lean ====
section
/-! DEFINITION. The stock view's rows: STOCK frames and Read stock view (R129 to R132). -/

namespace Sys2Proof.Machine

def StockEntry.isFor (item kitchen : Nat) (e : StockEntry) : Bool := e.item == item && e.kitchen == kitchen

/-- The view without the entry for a pair. -/
def dropPair (item kitchen : Nat) (l : List StockEntry) : List StockEntry := l.filter fun e => !e.isFor item kitchen

/-- A LOW or OUT report: the entry at the end of the order, the one heard longest ago making room in a full view (R130). -/
def noteStock (e : StockEntry) (l : List StockEntry) : List StockEntry :=
  let rest := dropPair e.item e.kitchen l
  (if Config.stockCapacity ≤ rest.length then rest.tail else rest) ++ [e]

/-- The state code of a STOCK frame (R120). -/
def stockCode : Nat → Option StockState
  | 0 => some .available
  | 1 => some .low
  | 2 => some .out
  | _ => none

/-- One report from kitchen `k` (R130). -/
def takeReport (k : Nat) (b : StockFields) (st : StockState) (s : State) : State :=
  match st with
  | .available => { s with stock := dropPair b.item k s.stock }
  | _ => { s with stock := noteStock ⟨b.item, k, st, b.remaining, stationTime s⟩ s.stock }

/-- A delivered STOCK frame; without the TILL role, or with a field out of range, it is discarded (R129, R179). -/
def takeStock : State → State :=
  deliver Kind.stock fun f s =>
    match rStock.exact f.payload with
    | some b =>
      match stockCode b.state with
      | some st =>
        if listening s && hasRole s .till && decide (b.item ≤ 4095) && decide (b.remaining ≤ Config.portionLimit) then
          takeReport f.source b st s
        else s
      | none => s
    | none => s

def execStockFrame (s : State) : Host.Outcome State Fault Refusal := event takeStock s

def readStockViewBody : Body :=
  readCommand (some .till) fun s => fillSnapshot 9 (e1 s.stock.length) (eAll eStockEntry s.stock) s

def execReadStockView (s : State) : Host.Outcome State Fault Refusal := carryOut .readStockView readStockViewBody s

end Sys2Proof.Machine
end

