-- ==== Sys2Proof/Machine/Exchanges.lean ====
section
/-! DEFINITION. The exchange table's rows: Test, the TEST and ANSWER frames, and the exchange timeout (R165 to R171). -/

namespace Sys2Proof.Machine

/-! ## Test (R170) -/

/-- Test and its echo work in LOOPBACK, ONLINE and ISOLATED. -/
def testable (s : State) : Bool := s.station.state == .loopback || inService s

def testBody (dest : Nat) (payload : Bytes) : Body := fun s =>
  if !testable s then refuse .STATE s
  else if 32 < payload.length ∨ isStation dest = false then refuse .BAD_PARAM s
  else if dest = own s ∧ s.station.state ≠ .loopback then refuse .BAD_PARAM s
  else if s.station.state = .isolated then refuse .LINK_DOWN s
  else
    let (r, s') := openExchange Kind.test dest 0 0 .command payload s
    (.bare r, s')

def execTest (dest : Nat) (payload : Bytes) (s : State) : Host.Outcome State Fault Refusal :=
  carryOut (.test dest payload) (testBody dest payload) s

/-- The echo of a TEST frame; above 32 bytes it is refused with none (R170, R179). -/
def testEcho (payload : Bytes) : Reply := if 32 < payload.length then .bare .BAD_PARAM else ⟨.OK, payload⟩

def takeTest : State → State :=
  deliver Kind.test fun f s => if testable s then sendAnswer f.source Kind.test f.tag 0 0 (testEcho f.payload) s else s

def execTestFrame (s : State) : Host.Outcome State Fault Refusal := event takeTest s

/-! ## The outcome of an exchange (R167, R168) -/

/-- A local command's outcome, by the kind of its request (R167). -/
def commandOutcome (a : AnswerRec) (s : State) : State :=
  if a.kind = Kind.add then post (.addResult a) s
  else if a.kind = Kind.lineVoid then post (.lineVoidResult a) (if a.is .OK then countLineVoided s else s)
  else if a.kind = Kind.tabQuery then post (.queryResult a) s
  else if a.kind = Kind.split then post (.splitResult a) s
  else if a.kind = Kind.withdraw then post (.withdrawResult a) s
  else if a.kind = Kind.ticketQuery then refreshAnswer a s
  else post (.testResult a) s

/-- The depth an ACCEPT carries. -/
def acceptDepth (a : AnswerRec) : Nat := ((rAccept.exact a.data).map (·.2)).getD 0

/-- An offer's outcome: placed, or failed (R83, R84). -/
def offerOutcome (a : AnswerRec) (s : State) : State :=
  if a.is .ACCEPT then takeAccept ownVoid a.subject a.source (acceptDepth a) s else failOffer a.subject a.source s

/-- What an answer says of a void request (R91). -/
def voidAnswerOf (a : AnswerRec) : VoidAnswer :=
  if a.is .OK then
    match rVoidResults.exact a.data with
    | some rs => .lines rs
    | none => .failed a.result
  else if a.is .UNKNOWN then .unknown
  else .failed a.result

/-- The outcome of an exchange, handed to its owner (R167, R168). -/
def handOutcome (e : ExchEntry) (a : AnswerRec) (s : State) : State :=
  match e.owner with
  | .command => commandOutcome a s
  | .claims => claimsOutcome a s
  | .offer => offerOutcome a s
  | .void purpose tab lines => voidEnd ⟨e.dest, e.subject, tab, lines, purpose⟩ (voidAnswerOf a) s

def freeEntry (tag : Nat) (s : State) : State :=
  { s with exch := { s.exch with entries := s.exch.entries.filter (·.tag != tag) } }

/-- The live entry an ANSWER matches (R167). -/
def ExchEntry.matches (a : AnswerRec) (e : ExchEntry) : Bool :=
  e.dest == a.source && e.tag == a.tag && e.kind == a.kind && e.subject == a.subject && e.share == a.share

def matchEntry (a : AnswerRec) (s : State) : Option ExchEntry := s.exch.entries.find? (·.matches a)

/-! ## Late answers (R169) -/

/-- What a late answer does at the block it is handed to. Every station has a takings unit; without the TILL role it has neither router
nor claims list (R169; log entry 45). -/
def lateEffect (a : AnswerRec) (s : State) : State :=
  if !inService s then s
  else if a.kind = Kind.lineVoid then if a.is .OK then countLineVoided s else s
  else if !hasRole s .till then s
  else if a.kind = Kind.ticket then
    if a.is .ACCEPT then takeLateAccept ownVoid a.subject a.source (acceptDepth a) s else s
  else claimsLate a s

/-- An ANSWER that matches no live entry; LATE_ANSWER is posted for every request kind but TICKET (R169). An echoed kind that is no
request is discarded (log entry 36). -/
def lateAnswer (a : AnswerRec) (s : State) : State :=
  if !isRequest a.kind then s
  else
    let acted := lateEffect a s
    if a.kind = Kind.ticket then acted else post (.lateAnswer a) acted

/-- A delivered ANSWER: it completes the exchange it matches, or is late (R167, R169). -/
def takeAnswer : State → State :=
  deliver Kind.answer fun f s =>
    match parseAnswer f.source f.payload with
    | some a =>
      if testable s then
        match matchEntry a s with
        | some e => handOutcome e a (freeEntry e.tag s)
        | none => lateAnswer a s
      else s
    | none => s

def execAnswerFrame (s : State) : Host.Outcome State Fault Refusal := event takeAnswer s

/-- What the owner is handed at a timeout. -/
def noAnswerOf (e : ExchEntry) : AnswerRec := ⟨e.dest, e.kind, e.tag, e.subject, e.share, Result.NO_ANSWER.code, []⟩

/-- An entry's timer expires: NO_ANSWER (R168). -/
def exchangeExpiry (tag : Nat) (s : State) : State :=
  if s.station.state = .duplicate then s
  else
    match s.exch.entries.find? (·.tag == tag) with
    | some e => if isPending e.timer then handOutcome e (noAnswerOf e) (freeEntry tag s) else s
    | none => s

def execExchangeTimeout (tag : Nat) (s : State) : Host.Outcome State Fault Refusal := event (exchangeExpiry tag) s

end Sys2Proof.Machine
end

