-- ==== Sys2Proof/Machine/Lanes.lean ====
section
/-! DEFINITION. The lane front end's rows: activity, frame start and end, silence, a stuck lane, and the twin window (R146 to R150). In
LOOPBACK what the cable carries is not received (R137), and this station's own frames are ignored while it drives them (R146). -/

namespace Sys2Proof.Machine

/-- The cable is listened to: not in LOOPBACK. -/
def onCable (s : State) : Bool := s.station.state != .loopback

/-- What a lane carries is another station's: not while this station drives. -/
def hearsPeers (s : State) : Bool := onCable s && !driving s

/-- A lane turns dominant: DOWN goes to HUNT (R147). -/
def laneActive (lane : Lane) (s : State) : State :=
  if hearsPeers s ∧ (s.link.rx lane).state = .down then moveLane lane .hunt s else s

def execLaneActivity (lane : Lane) (s : State) : Host.Outcome State Fault Refusal := event (laneActive lane) s

/-- A frame start from another station: the silence timer of HUNT and LOCKED restarts, and the lane carries a frame (R147, R155). -/
def frameStarts (lane : Lane) (s : State) : State :=
  if hearsPeers s then
    modRx lane (fun r =>
      match r.state with
      | .hunt | .locked => { r with carrying := true, silence := some Config.laneSilenceMs }
      | .down => { r with carrying := true }
      | .stuck => r) s
  else s

def execLaneFrameStart (lane : Lane) (s : State) : Host.Outcome State Fault Refusal := event (frameStarts lane) s

/-- A frame ends on a lane: no frame is under way there any more (R155; log entry 63), and where peers are heard the receiver takes what
the lane carried (R146). -/
def frameEnds (lane : Lane) (bits : List Bool) (s : State) : State :=
  let ended := modRx lane (fun r => { r with carrying := false }) s
  if hearsPeers s then frameAt lane bits ended else ended

def execLaneFrameEnd (lane : Lane) (bits : List Bool) (s : State) : Host.Outcome State Fault Refusal :=
  event (frameEnds lane bits) s

/-- 5000 ms with no frame start from another station: HUNT and LOCKED go to DOWN (R147). -/
def laneSilent (lane : Lane) (s : State) : State :=
  let r := s.link.rx lane
  if onCable s ∧ (r.state = .hunt ∨ r.state = .locked) ∧ isPending r.silence = true then moveLane lane .down s else s

def execLaneSilenceExpiry (lane : Lane) (s : State) : Host.Outcome State Fault Refusal := event (laneSilent lane) s

/-- A lane held dominant for longer than 2 ms: STUCK, and whatever frame it carried is broken off (R147). -/
def laneHeld (lane : Lane) (s : State) : State :=
  if onCable s then moveLane lane .stuck (modRx lane (fun r => { r with carrying := false }) s) else s

def execLaneStuck (lane : Lane) (s : State) : Host.Outcome State Fault Refusal := event (laneHeld lane) s

/-- A STUCK lane returns recessive: HUNT (R147). -/
def laneFreed (lane : Lane) (s : State) : State :=
  if onCable s ∧ (s.link.rx lane).state = .stuck then moveLane lane .hunt s else s

def execLaneRecessive (lane : Lane) (s : State) : Host.Outcome State Fault Refusal := event (laneFreed lane) s

/-- A twin window passes without a twin (R150). -/
def windowExpiry (lane : Lane) (s : State) : State := modRx lane (fun r => { r with window := none }) s

def execTwinWindowExpiry (lane : Lane) (s : State) : Host.Outcome State Fault Refusal := event (windowExpiry lane) s

end Sys2Proof.Machine
end

