-- ==== Sys2Proof/Machine/Transmit.lean ====
section
/-! DEFINITION. The transmitter's rows: a frame begins, loses arbitration, meets a fault, or is sent to the end of its check (R153, R155
to R159). -/

namespace Sys2Proof.Machine

/-- The lanes the transmitter reads (R155). -/
def watchedLanes (s : State) : List Lane :=
  if s.station.state = .loopback then [.A, .B]
  else if anyLocked s then [Lane.A, Lane.B].filter fun l => (s.link.rx l).state == .locked
  else [Lane.A, Lane.B].filter fun l => (s.link.rx l).state == .down || (s.link.rx l).state == .hunt

/-- The transmitter contends: ONLINE or LOOPBACK, a frame to send and none being driven, a watched lane, and no peer's frame under way on
one (R155). -/
def readyToSend (s : State) : Bool :=
  (s.station.state == .online || s.station.state == .loopback) && !s.tx.slots.isEmpty && !driving s && !(watchedLanes s).isEmpty &&
  !(s.station.state == .online && (watchedLanes s).any fun l => (s.link.rx l).carrying)

/-- The lowest class in the queue. -/
def lowestClass (l : List Slot) : Nat := (l.map fun x => kindClass x.frame.kind).foldl min 3

/-- The first slot of a class is marked as begun and on the wire. -/
def beginFirst (c : Nat) : List Slot → List Slot
  | [] => []
  | x :: rest =>
    if kindClass x.frame.kind = c then { x with begun := true, onWire := true } :: rest else x :: beginFirst c rest

/-- The scheduler's choice begins to be driven: the lowest class, and in it the earliest queued; the watched lanes are settled
(R153, R155). -/
def startSending (s : State) : State :=
  if readyToSend s then
    { s with tx := { s.tx with slots := beginFirst (lowestClass s.tx.slots) s.tx.slots, watched := watchedLanes s } }
  else s

def execTransmitStart (s : State) : Host.Outcome State Fault Refusal := event startSending s

/-- A frame that loses arbitration stays in its slot with its age raised (R157). -/
def loseArbitration (s : State) : State :=
  if onCable s then
    { s with
      tx :=
        { s.tx with
          slots := mapIf (·.onWire) (fun x => { x with age := min (x.age + 1) 7, onWire := false }) s.tx.slots
          watched := if driving s then [] else s.tx.watched } }
  else s

def execArbitrationLost (s : State) : Host.Outcome State Fault Refusal := event loseArbitration s

/-- The slot of the frame on the wire comes free; the offer pause is cleared as a frame leaves the queue (R79, R159). -/
def freeSlot (s : State) : State :=
  { s with
    tx := { s.tx with slots := s.tx.slots.filter fun x => !x.onWire, watched := [] }
    router := { s.router with pause := false } }

def sending (s : State) : Option Slot := s.tx.slots.find? (·.onWire)

/-- A fault: the frame waits to contend again, or at the fourth fault is discarded with TX_FAULT_DISCARD (R158). -/
def faultSlot (x : Slot) (s : State) : State :=
  if 3 ≤ x.faults then post (.txFaultDiscard x.frame.kind x.frame.dest) (freeSlot s)
  else
    { s with
      tx :=
        { s.tx with slots := mapIf (·.onWire) (fun x => { x with faults := x.faults + 1, onWire := false }) s.tx.slots, watched := [] } }

/-- In LOOPBACK both receivers take a frame broken off as malformed (R137, R146). -/
def loopBroken (s : State) : State :=
  if s.station.state = .loopback then takeMalformed .B (takeMalformed .A s) else s

def takeFault (s : State) : State :=
  match sending s with
  | some x => loopBroken (faultSlot x s)
  | none => s

def execTransmitFault (s : State) : Host.Outcome State Fault Refusal := event takeFault s

/-- In LOOPBACK each lane's copy of a frame sent goes to that lane's receiver (R137). -/
def loopFrame (x : Slot) (s : State) : State :=
  if s.station.state = .loopback then
    frameAt .B (wireBits .B (own s) x.age x.frame) (frameAt .A (wireBits .A (own s) x.age x.frame) s)
  else s

/-- A beacon sent to its end ends the beacons of join age 0 (R73). -/
def noteBeacon (x : Slot) (s : State) : State :=
  if x.frame.kind = Kind.beacon then { s with beacon := { s.beacon with sent := true } } else s

/-- A frame sent to the end of its check leaves the queue (R159). -/
def completeSending (s : State) : State :=
  match sending s with
  | some x => loopFrame x (noteBeacon x (freeSlot s))
  | none => s

def execTransmitComplete (s : State) : Host.Outcome State Fault Refusal := event completeSending s

end Sys2Proof.Machine
end

