-- ==== Sys2Proof/Machine/Dispatch.lean ====
section
/-! DEFINITION. One arm for each command and event: a direct call of its meaning. -/

namespace Sys2Proof.Machine

def exec (i : Instr) (s : State) : Host.Outcome State Fault Refusal :=
  match i with
  | .resetAsserted => Sys2Proof.Machine.execResetAsserted s
  | .resetEnd straps => Sys2Proof.Machine.execResetEnd straps s
  | .periodPinEdge => Sys2Proof.Machine.execPeriodPinEdge s
  | .periodLockoutExpiry => Sys2Proof.Machine.execPeriodLockoutExpiry s
  | .portTransaction pdi => Sys2Proof.Machine.execPortTransaction pdi s
  | .status => Sys2Proof.Machine.execStatus s
  | .nextNotice => Sys2Proof.Machine.execNextNotice s
  | .setAttention mask => Sys2Proof.Machine.execSetAttention mask s
  | .readPage offset length => Sys2Proof.Machine.execReadPage offset length s
  | .configure req => Sys2Proof.Machine.execConfigure req s
  | .loopbackOn => Sys2Proof.Machine.execLoopbackOn s
  | .loopbackOff => Sys2Proof.Machine.execLoopbackOff s
  | .join => Sys2Proof.Machine.execJoin s
  | .laneRestart lane => Sys2Proof.Machine.execLaneRestart lane s
  | .test dest payload => Sys2Proof.Machine.execTest dest payload s
  | .openTab label => Sys2Proof.Machine.execOpenTab label s
  | .add home tab lines send => Sys2Proof.Machine.execAdd home tab lines send s
  | .send tab => Sys2Proof.Machine.execSend tab s
  | .lineVoid home tab line => Sys2Proof.Machine.execLineVoid home tab line s
  | .tabVoid tab => Sys2Proof.Machine.execTabVoid tab s
  | .release tab => Sys2Proof.Machine.execRelease tab s
  | .query home tab => Sys2Proof.Machine.execQuery home tab s
  | .readTab tab => Sys2Proof.Machine.execReadTab tab s
  | .split home tab count entries => Sys2Proof.Machine.execSplit home tab count entries s
  | .withdraw home tab => Sys2Proof.Machine.execWithdraw home tab s
  | .claim home tab share => Sys2Proof.Machine.execClaim home tab share s
  | .settle home tab share tender => Sys2Proof.Machine.execSettle home tab share tender s
  | .releaseShare home tab share => Sys2Proof.Machine.execReleaseShare home tab share s
  | .readClaims => Sys2Proof.Machine.execReadClaims s
  | .markPeriod => Sys2Proof.Machine.execMarkPeriod s
  | .readCapture slot => Sys2Proof.Machine.execReadCapture slot s
  | .releaseCapture slot => Sys2Proof.Machine.execReleaseCapture slot s
  | .readPeers => Sys2Proof.Machine.execReadPeers s
  | .retry ticket => Sys2Proof.Machine.execRetry ticket s
  | .refresh ticket => Sys2Proof.Machine.execRefresh ticket s
  | .abandon ticket => Sys2Proof.Machine.execAbandon ticket s
  | .readTickets => Sys2Proof.Machine.execReadTickets s
  | .fire ref => Sys2Proof.Machine.execFire ref s
  | .ready ref => Sys2Proof.Machine.execReady ref s
  | .collect ref => Sys2Proof.Machine.execCollect ref s
  | .kitchenVoid ref lines => Sys2Proof.Machine.execKitchenVoid ref lines s
  | .readQueue => Sys2Proof.Machine.execReadQueue s
  | .nextNew => Sys2Proof.Machine.execNextNew s
  | .load item count low => Sys2Proof.Machine.execLoad item count low s
  | .refill item count => Sys2Proof.Machine.execRefill item count s
  | .reloadToPreset item => Sys2Proof.Machine.execReloadToPreset item s
  | .recount item counted => Sys2Proof.Machine.execRecount item counted s
  | .remove item => Sys2Proof.Machine.execRemove item s
  | .readPortions item => Sys2Proof.Machine.execReadPortions item s
  | .readStockView => Sys2Proof.Machine.execReadStockView s
  | .laneActivity lane => Sys2Proof.Machine.execLaneActivity lane s
  | .laneFrameStart lane => Sys2Proof.Machine.execLaneFrameStart lane s
  | .laneFrameEnd lane bits => Sys2Proof.Machine.execLaneFrameEnd lane bits s
  | .laneSilenceExpiry lane => Sys2Proof.Machine.execLaneSilenceExpiry lane s
  | .laneStuck lane => Sys2Proof.Machine.execLaneStuck lane s
  | .laneRecessive lane => Sys2Proof.Machine.execLaneRecessive lane s
  | .twinWindowExpiry lane => Sys2Proof.Machine.execTwinWindowExpiry lane s
  | .beaconFrame => Sys2Proof.Machine.execBeaconFrame s
  | .periodFrame => Sys2Proof.Machine.execPeriodFrame s
  | .stockFrame => Sys2Proof.Machine.execStockFrame s
  | .addFrame => Sys2Proof.Machine.execAddFrame s
  | .lineVoidFrame => Sys2Proof.Machine.execLineVoidFrame s
  | .tabQueryFrame => Sys2Proof.Machine.execTabQueryFrame s
  | .splitFrame => Sys2Proof.Machine.execSplitFrame s
  | .withdrawFrame => Sys2Proof.Machine.execWithdrawFrame s
  | .claimFrame => Sys2Proof.Machine.execClaimFrame s
  | .settleFrame => Sys2Proof.Machine.execSettleFrame s
  | .releaseFrame => Sys2Proof.Machine.execReleaseFrame s
  | .claimEndFrame => Sys2Proof.Machine.execClaimEndFrame s
  | .ticketFrame => Sys2Proof.Machine.execTicketFrame s
  | .ticketVoidFrame => Sys2Proof.Machine.execTicketVoidFrame s
  | .ticketQueryFrame => Sys2Proof.Machine.execTicketQueryFrame s
  | .ticketStateFrame => Sys2Proof.Machine.execTicketStateFrame s
  | .testFrame => Sys2Proof.Machine.execTestFrame s
  | .answerFrame => Sys2Proof.Machine.execAnswerFrame s
  | .exchangeTimeout tag => Sys2Proof.Machine.execExchangeTimeout tag s
  | .splitCompletion => Sys2Proof.Machine.execSplitCompletion s
  | .holdTimerExpiry tab share => Sys2Proof.Machine.execHoldTimerExpiry tab share s
  | .localExpiry home tab share => Sys2Proof.Machine.execLocalExpiry home tab share s
  | .silenceTimerExpiry station => Sys2Proof.Machine.execSilenceTimerExpiry station s
  | .intervalTimerExpiry => Sys2Proof.Machine.execIntervalTimerExpiry s
  | .holdOffExpiry => Sys2Proof.Machine.execHoldOffExpiry s
  | .joinWindowExpiry => Sys2Proof.Machine.execJoinWindowExpiry s
  | .isolationTimerExpiry => Sys2Proof.Machine.execIsolationTimerExpiry s
  | .warnTimerExpiry ref => Sys2Proof.Machine.execWarnTimerExpiry ref s
  | .lateTimerExpiry ref => Sys2Proof.Machine.execLateTimerExpiry ref s
  | .collectTimerExpiry ref => Sys2Proof.Machine.execCollectTimerExpiry ref s
  | .transmitStart => Sys2Proof.Machine.execTransmitStart s
  | .arbitrationLost => Sys2Proof.Machine.execArbitrationLost s
  | .transmitFault => Sys2Proof.Machine.execTransmitFault s
  | .transmitComplete => Sys2Proof.Machine.execTransmitComplete s

end Sys2Proof.Machine
end

