-- ==== Sys2Proof/Machine/Step.lean ====
section
/-! DEFINITION. One step of the block: the command at the front of the queue, or, with none waiting, the local command the port has
taken, or one millisecond of time (log entries 6, 7 and 8). -/

namespace Sys2Proof.Machine

/-- What the block does with no command waiting: the command the port has taken is carried out, and with none taken time passes. -/
def idle (s : State) : Host.Outcome State Fault Refusal :=
  match s.port.taken with
  | some c => exec c s
  | none => .next (tick s)

/-- One step: the command at the front of the queue on the state with the queue's rest. -/
def step (s : State) : Host.Outcome State Fault Refusal :=
  match s.pending with
  | [] => idle s
  | c :: rest => exec c { s with pending := rest }

/-- The state with the command a word spells at the front of its queue; no word spells one, since the table gives no row bits. -/
def State.withFetchWord (s : State) (nbits w : Nat) : State :=
  match Sys2Proof.decodeTableWord nbits w with
  | some c => { s with pending := c :: s.pending }
  | none => s

end Sys2Proof.Machine
end

