-- ==== Sys2Proof/Machine/Commands.lean ====
section
/-! DEFINITION. A local command as the processor shifts it in: code, parameter length, parameters in the order the command's rule names
them (chapter Formats, Local Command and Answer Framing). -/

namespace Sys2Proof.Machine

/-- Configure's parameters in the order of the chapter Formats. -/
def eConfigReq (q : ConfigReq) : Bytes :=
  [q.roles] ++ [q.prep] ++ e2 q.rates.c0 ++ e2 q.rates.c1 ++ e2 q.rates.c2 ++ e2 q.rates.c3 ++ e1 q.rounding ++ eOpt e2 q.interval ++
  eOpt e1 q.lockCount ++ eOpt e2 q.claimHold ++ eOpt e1 q.fireLimit ++ eOpt e1 q.autoFire ++ eOpt e1 q.holdMark ++
  eOpt e1 q.releaseMark ++ eOpt e2 q.warnTime ++ eOpt e2 q.lateTime ++ eOpt e2 q.collectTimeout

/-- The parameter bytes of a local command; none for an event that is no command. -/
def commandParams : Instr → Bytes
  | .setAttention mask => [mask]
  | .readPage offset length => e2 offset ++ e1 length
  | .configure q => eConfigReq q
  | .loopbackOn => [1#8]
  | .loopbackOff => [0#8]
  | .laneRestart lane => e1 lane
  | .test dest payload => e1 dest ++ eList (fun b => [b]) payload
  | .openTab label => eList (fun b => [b]) label
  | .add home tab lines send => e1 home ++ e2 tab ++ eList eLineReq lines ++ e1 send
  | .send tab => e2 tab
  | .lineVoid home tab line => e1 home ++ e2 tab ++ e1 line
  | .tabVoid tab => e2 tab
  | .release tab => e2 tab
  | .query home tab => e1 home ++ e2 tab
  | .split home tab count entries => e1 home ++ e2 tab ++ e1 count ++ eList (fun e => e1 e.line ++ [e.sharers]) entries
  | .withdraw home tab => e1 home ++ e2 tab
  | .claim home tab share => e1 home ++ e2 tab ++ e1 share
  | .settle home tab share tender => e1 home ++ e2 tab ++ e1 share ++ e1 tender
  | .releaseShare home tab share => e1 home ++ e2 tab ++ e1 share
  | .retry ticket => e2 ticket
  | .refresh ticket => e2 ticket
  | .abandon ticket => e2 ticket
  | .fire ref => e1 ref
  | .ready ref => e1 ref
  | .collect ref => e1 ref
  | .kitchenVoid ref lines => e1 ref ++ eList e1 lines
  | .load item count low => e2 item ++ e2 count ++ e2 low
  | .refill item count => e2 item ++ e2 count
  | .reloadToPreset item => e2 item
  | .recount item counted => e2 item ++ e2 counted
  | .remove item => e2 item
  | .readTab tab => e2 tab
  | .readCapture slot => e1 slot
  | .releaseCapture slot => e1 slot
  | .readPortions item => eOpt e2 item
  | _ => []

/-- A whole local command as it is shifted in on PDI. -/
def commandBytes (c : Instr) : Bytes := e1 (commandCode c) ++ e1 (commandParams c).length ++ commandParams c

end Sys2Proof.Machine
end

