-- ==== Sys2Proof/Safety.lean ====
section
/-! DEFINITION. What statements about the block are said in: when a command or an event runs and what it then leaves, the tests of the
command catalogue (R178), and the invariants that every step keeps. -/

namespace Sys2Proof.Machine

/-! ## What a command or an event leaves -/

/-- The state after a local command whose rule gives reply `r` and leaves `t`: the answer is pending, BUSY is low, and the event has
ended (R172). -/
def afterCommand (c : Instr) (s : State) (r : Reply) (t : State) : State := endEvent s.portions (setAnswer c r t)

/-- The state after an event of a pin, a timer or a lane whose rule leaves `t`. -/
def afterEvent (s t : State) : State := endEvent s.portions t

/-- The state after a delivered frame whose rule leaves `t`: undeliverable frames behind it leave the queue (R179), and the event has
ended. -/
def afterFrame (s t : State) : State := endEvent s.portions (settleRx t)

/-- The state after a delivered request answered with `r` (R164). -/
def afterRequest (s : State) (f : Frame) (subject share : Nat) (r : Reply) (t : State) : State :=
  afterFrame s (sendAnswer f.source f.kind f.tag subject share r t)

/-! ## When a command or an event runs -/

/-- A job command passes the tests of R178. -/
def jobReady (c : Instr) (role : Role) (s : State) : Bool := commandTaken c s && inService s && hasRole s role

/-- A read command passes the tests of R178. -/
def readReady (c : Instr) (role : Option Role) (s : State) : Bool :=
  commandTaken c s && s.station.state != .duplicate && (role.map (hasRole s)).getD true

/-- The event of a kind's frame finds that kind at the head of the receive queue, fit to be delivered (R152, R162, R179). -/
def frameReady (kind : Nat) (f : Frame) (rest : List Frame) (s : State) : Bool :=
  !s.station.inReset && decide (s.rx = f :: rest) && f.kind == kind && deliverable f

/-- A request at a block in service whose role the station has (R163). -/
def requestReady (kind : Nat) (role : Role) (f : Frame) (rest : List Frame) (s : State) : Bool :=
  frameReady kind f rest s && inService s && hasRole s role

/-- The state a frame's block works on: the frame has left the receive queue. -/
def popped (rest : List Frame) (s : State) : State := { s with rx := rest }

/-- Nothing waits for the router: no void request, and no PENDING record (R79, R90). -/
def routerQuiet (s : State) : Bool := s.router.voids.isEmpty && s.router.tickets.all fun t => t.state != .pending

/-! ## The command catalogue (R178) -/

/-- In which station states a command is taken. -/
inductive TakenIn where
  | all | allButDuplicate | offline | configured | loopback | allButLoopbackAndDuplicate | loopbackAndJob | job
deriving DecidableEq, Repr

def TakenIn.holds (k : TakenIn) (st : StationState) : Bool :=
  match k with
  | .all => true
  | .allButDuplicate => st != .duplicate
  | .offline => st == .offline
  | .configured => st == .configured
  | .loopback => st == .loopback
  | .allButLoopbackAndDuplicate => st != .loopback && st != .duplicate
  | .loopbackAndJob => st == .loopback || st == .online || st == .isolated
  | .job => st == .online || st == .isolated

/-- The row of the catalogue for a local command: where it is taken and the role it needs; none for an event. -/
def catalogue : Instr → Option (TakenIn × Option Role)
  | .status | .nextNotice => some (.all, none)
  | .setAttention _ | .readPage _ _ => some (.allButDuplicate, none)
  | .configure _ => some (.offline, none)
  | .loopbackOn => some (.configured, none)
  | .loopbackOff => some (.loopback, none)
  | .join => some (.configured, none)
  | .laneRestart _ => some (.allButLoopbackAndDuplicate, none)
  | .test _ _ => some (.loopbackAndJob, none)
  | .openTab _ | .add _ _ _ _ | .send _ | .lineVoid _ _ _ | .tabVoid _ | .release _ | .query _ _ | .split _ _ _ _ | .withdraw _ _
  | .claim _ _ _ | .settle _ _ _ _ | .releaseShare _ _ _ | .retry _ | .refresh _ | .abandon _ => some (.job, some .till)
  | .markPeriod => some (.job, none)
  | .fire _ | .ready _ | .collect _ | .kitchenVoid _ _ | .load _ _ _ | .refill _ _ | .reloadToPreset _ | .recount _ _ | .remove _ =>
    some (.job, some .kitchen)
  | .readTab _ | .readClaims | .readTickets | .readStockView => some (.allButDuplicate, some .till)
  | .readPeers | .readCapture _ | .releaseCapture _ => some (.allButDuplicate, none)
  | .readQueue | .nextNew | .readPortions _ => some (.allButDuplicate, some .kitchen)
  | _ => none

/-- The moves between station states (chapter Station States and Joining); a reset ends any life. -/
def stateMoves : StationState → StationState → Bool
  | .offline, .configured => true
  | .configured, .loopback => true
  | .configured, .joining => true
  | .loopback, .configured => true
  | .joining, .online => true
  | .joining, .duplicate => true
  | .online, .isolated => true
  | .online, .duplicate => true
  | .isolated, .online => true
  | .isolated, .duplicate => true
  | a, b => a == b

/-- The two ends of a reset, the only events that begin a new life. -/
def isReset : Instr → Bool
  | .resetAsserted => true
  | .resetEnd _ => true
  | _ => false

/-! ## Invariants -/

/-- Entries in ascending station number, never this station's own; the LOST order names each LOST entry once; a silence timer runs for
each PRESENT entry and for no other; kitchen fields only beside the role (R61 to R65). -/
structure DirectorySound (s : State) : Prop where
  fits : s.dir.entries.length ≤ Config.peerCapacity
  ordered : (s.dir.entries.map (·.station)).Pairwise (· < ·)
  stations : ∀ p ∈ s.dir.entries, isStation p.station = true ∧ p.station ≠ own s
  lostOnce : s.dir.lostOrder.Nodup
  lost : ∀ k, k ∈ s.dir.lostOrder ↔ ∃ p ∈ s.dir.entries, p.station = k ∧ p.presence = .lost
  silence : ∀ p ∈ s.dir.entries, p.presence = .present ↔ p.silence.isSome = true
  load : ∀ p ∈ s.dir.entries, p.load.isSome = true → p.kitchen = true

/-- Every accumulator within its range (R55). -/
def Accums.inRange (a : Accums) : Prop :=
  (∀ x ∈ [a.cashCount, a.cashAmount, a.cardCount, a.cardAmount, a.voucherCount, a.voucherAmount, a.linesVoided, a.tabsClosed,
    a.ticketsAccepted, a.ticketsReadied, a.ticketsVoided, a.lateTickets, a.wastePortions], x.value ≤ Config.max32) ∧
  -(Config.maxSigned : Int) ≤ a.rounding.value ∧ a.rounding.value ≤ (Config.maxSigned : Int)

/-- A peer's load fields within their ranges (R62). -/
def KitchenLoad.inRange (l : KitchenLoad) : Prop := l.depth ≤ 48 ∧ l.late ≤ 48 ∧ l.placed ≤ 255

/-- The four notice queues, the transmit and receive queues, the exchange table, the tab store, the ticket list, the void queue, the
claims list, the kitchen queue, the portion table, the stock view and the peer directory within their capacities; at most one frame on
the wire; the counts of drops, disagreements, lane errors, ages and faults, the period number, the accumulators and the load fields
within their ranges. The directory's room depends on its order, so `DirectorySound` is part of it (R64). -/
structure CapacitiesHold (s : State) : Prop where
  link : s.port.link.length ≤ Level.link.capacity
  money : s.port.money.length ≤ Level.money.capacity
  kitchenNotices : s.port.kitchen.length ≤ Level.kitchen.capacity
  peers : s.port.peers.length ≤ Level.peers.capacity
  transmit : s.tx.slots.length ≤ Config.txCapacity
  transmitLow : lowCount s.tx.slots ≤ Config.txLowCapacity
  slots : ∀ x ∈ s.tx.slots, x.age ≤ 7 ∧ x.faults ≤ 3
  wire : (s.tx.slots.filter (·.onWire)).length ≤ 1
  receive : s.rx.length ≤ Config.rxCapacity
  exchanges : s.exch.entries.length ≤ Config.exchangeCapacity
  tabs : s.tabs.length ≤ Config.tabCapacity
  tickets : s.router.tickets.length ≤ Config.ticketCapacity
  voids : s.router.voids.length ≤ Config.voidCapacity
  claims : s.claims.length ≤ Config.claimCapacity
  kitchen : s.kitchen.all.length ≤ Config.kitchenCapacity
  portions : s.portions.length ≤ Config.portionCapacity
  stock : s.stock.length ≤ Config.stockCapacity
  directory : DirectorySound s
  loads : ∀ p ∈ s.dir.entries, ∀ l, p.load = some l → l.inRange
  dropped : s.tx.dropped ≤ 65535
  disagree : s.link.disagree ≤ 255
  errorsA : s.link.a.errors ≤ 255
  errorsB : s.link.b.errors ≤ 255
  period : s.takings.period ≤ Config.maxPeriod
  span : s.takings.spanStart ≤ s.takings.period
  accums : s.takings.accums.inRange
  captures : ∀ c, s.takings.slot1 = some c ∨ s.takings.slot2 = some c → c.accums.inRange

/-- What names a record names one record, and every number drawn lies in its range. -/
structure KeysDistinct (s : State) : Prop where
  tabs : (s.tabs.map (·.number)).Pairwise (· < ·)
  tabRange : ∀ t ∈ s.tabs, 1 ≤ t.number ∧ t.number ≤ Config.tabCapacity
  tickets : (s.router.tickets.map (·.number)).Nodup
  ticketRange : ∀ t ∈ s.router.tickets, 1 ≤ t.number ∧ t.number ≤ 65535
  counter : 1 ≤ s.router.counter ∧ s.router.counter ≤ 65535
  claims : (s.claims.map fun e => (e.home, e.tab, e.share)).Nodup
  portions : (s.portions.map (·.item)).Pairwise (· < ·)
  stock : (s.stock.map fun e => (e.item, e.kitchen)).Nodup
  entries : s.exch.entries.length ≤ Config.exchangeCapacity
  tags : (s.exch.entries.map (·.tag)).Nodup
  tagRange : ∀ e ∈ s.exch.entries, e.tag < 256
  tagCounter : s.exch.counter < 256

/-- The lines of every tab are numbered by their places, and its class bases and total are those its charged lines give (R4, R6). -/
structure TabsCurrent (s : State) : Prop where
  offline : s.station.state = .offline → s.tabs = []
  numbered : ∀ t ∈ s.tabs, t.lines.map (·.number) = (List.range t.lines.length).map (· + 1)
  fits : ∀ t ∈ s.tabs, t.lines.length ≤ Config.lineCapacity
  current : ∀ t ∈ s.tabs, t.recompute s.cfg.rates = t

/-- The fields of a share by its state (R38). -/
def Share.sound (sh : Share) : Prop :=
  match sh.state with
  | .available => sh.claimant = 0 ∧ sh.hold = none ∧ sh.settlement = none
  | .claimed => isStation sh.claimant = true ∧ sh.hold.isSome = true ∧ sh.settlement = none
  | .settled => sh.claimant = 0 ∧ sh.hold = none ∧ sh.settlement.isSome = true

/-- A split by its tab's state: none in OPEN and SPLITTING, one in SPLIT; an outcome in CLOSED alone (R3). -/
def Tab.splitFits (t : Tab) : Prop :=
  match t.state with
  | .open => t.split = none ∧ t.outcome = none
  | .splitting => t.split = none ∧ t.outcome = none
  | .split => t.split.isSome = true ∧ t.outcome = none
  | .closed => t.outcome.isSome = true

/-- An engine record that a Split can have made: 1 to 8 shares, and for every line sharers among them, each once (R24, R25). -/
def EngineJob.valid (j : EngineJob) : Prop :=
  1 ≤ j.count ∧ j.count ≤ 8 ∧
  ∀ l ∈ j.input, l.sharers ≠ [] ∧ l.sharers.Nodup ∧ ∀ n ∈ l.sharers, 1 ≤ n ∧ n ≤ j.count

/-- Every split adds up, every share's fields fit its state, and the engine computes for the one SPLITTING tab (R25, R31, R38). -/
structure SplitsSound (s : State) : Prop where
  station : s.station.state ≠ .offline → isStation (own s) = true
  tabs : (s.tabs.map (·.number)).Pairwise (· < ·)
  fits : ∀ t ∈ s.tabs, t.splitFits
  numbered : ∀ t ∈ s.tabs, ∀ sp, t.split = some sp → sp.shares.map (·.number) = shareNumbers sp.count
  sums : ∀ t ∈ s.tabs, ∀ sp, t.split = some sp → (sp.shares.map (·.amount)).sum = sp.total
  shares : ∀ t ∈ s.tabs, ∀ sp, t.split = some sp → ∀ sh ∈ sp.shares, sh.sound
  job : ∀ j, s.engine = some j → j.valid ∧ ∃ t ∈ s.tabs, t.number = j.tab ∧ t.state = .splitting
  splitting : ∀ t ∈ s.tabs, t.state = .splitting → ∃ j, s.engine = some j ∧ j.tab = t.number

/-- At most 48 tickets under distinct references 1..48; rush tickets ahead of normal ones and each kind in the order accepted; the fired
list within the fire limit (R97, R99, R105). -/
structure KitchenSound (s : State) : Prop where
  offline : s.station.state = .offline → s.kitchen.all = []
  fits : s.kitchen.all.length ≤ Config.kitchenCapacity
  refs : (s.kitchen.all.map (·.ref)).Nodup
  refRange : ∀ t ∈ s.kitchen.all, 1 ≤ t.ref ∧ t.ref ≤ Config.kitchenCapacity
  accepted : ∀ t ∈ s.kitchen.all, t.seq < s.kitchen.accepts
  ordered : s.kitchen.queued.Pairwise fun a b => (a.rush = true ∧ b.rush = false) ∨ (a.rush = b.rush ∧ a.seq < b.seq)
  fired : s.kitchen.fired.length ≤ s.cfg.fireLimit

/-- The portions of an item on the ACTIVE lines with the portion-taken flag, over the tickets of a list (R103). -/
def takenBy (item : Nat) (l : List KTicket) : Nat :=
  (((l.flatMap (·.active)).filter fun x => x.taken && x.item == item).map (·.qty)).sum

/-- The figures of every portion entry agree with each other and with the kitchen queue: loaded is remaining, held and used together, so
used is within the range of loaded; held is what the QUEUED tickets hold; the portions still on FIRED and READY tickets and those wasted
were all used, so waste is within the range of used; remaining, held, loaded, preset, low mark and adjust are within their ranges; a
ticket has at most 8 lines of at most 20; a taken line's item has an entry (R98, R103, R119). -/
structure PortionsBalance (s : State) : Prop where
  kitchen : KitchenSound s
  ordered : (s.portions.map (·.item)).Pairwise (· < ·)
  balance : ∀ p ∈ s.portions, p.loaded = p.remaining + p.held + p.used
  remaining : ∀ p ∈ s.portions, p.remaining ≤ Config.portionLimit
  loaded : ∀ p ∈ s.portions, p.loaded ≤ Config.max32
  marks : ∀ p ∈ s.portions, p.preset ≤ Config.portionLimit ∧ p.low ≤ 999
  lines : ∀ t ∈ s.kitchen.all, t.lines.length ≤ Config.groupCapacity ∧ ∀ l ∈ t.lines, l.qty ≤ 20
  held : ∀ p ∈ s.portions, p.held = takenBy p.item s.kitchen.queued
  heldRange : ∀ p ∈ s.portions, p.held ≤ Config.portionLimit
  adjust : ∀ p ∈ s.portions, -(Config.maxSigned : Int) ≤ p.adjust ∧ p.adjust ≤ (Config.maxSigned : Int)
  waste : ∀ p ∈ s.portions, p.waste + takenBy p.item (s.kitchen.fired ++ s.kitchen.ready) ≤ p.used
  taken : ∀ t ∈ s.kitchen.all, ∀ l ∈ t.lines, l.taken = true → ∃ p ∈ s.portions, p.item = l.item

end Sys2Proof.Machine
end

