-- ==== Sys2Proof/WellFormed.lean ====
section
/-! DEFINITION. Which commands can be written down: every operand fits the field that carries it (chapter Formats), and a local
command's parameters fit the one byte that gives their length. A value inside its field but outside its range is well formed; its own
rule refuses it (R180). -/

namespace Sys2Proof

/-- A value of a 1-byte field. -/
def fits1 (n : Nat) : Bool := decide (n < 256)

/-- A value of a 2-byte field. -/
def fits2 (n : Nat) : Bool := decide (n < 65536)

def fitsOpt (f : Nat → Bool) (v : Option Nat) : Bool := (v.map f).getD true

/-- The encoded size of an offered line: nine bytes and two for each modifier. -/
def LineReq.size (l : LineReq) : Nat := 9 + 2 * l.mods.length

def LineReq.fits (l : LineReq) : Bool :=
  fits2 l.item && fits2 l.price && fits1 l.qty && fits1 l.tax && fits1 l.prep && fits1 l.rush && l.mods.all fits2

def ConfigReq.fits (q : ConfigReq) : Bool :=
  fits2 q.rates.c0 && fits2 q.rates.c1 && fits2 q.rates.c2 && fits2 q.rates.c3 && fits1 q.rounding && fitsOpt fits2 q.interval &&
  fitsOpt fits1 q.lockCount && fitsOpt fits2 q.claimHold && fitsOpt fits1 q.fireLimit && fitsOpt fits1 q.autoFire &&
  fitsOpt fits1 q.holdMark && fitsOpt fits1 q.releaseMark && fitsOpt fits2 q.warnTime && fitsOpt fits2 q.lateTime &&
  fitsOpt fits2 q.collectTimeout

/-- The longest parameter field of a local command (chapter Formats, Local Command and Answer Framing). -/
def maxParams : Nat := 255

/-- Every operand fits the field that carries it. Timers and peers are named by the same widths as in commands. -/
def Instr.wellFormed : Instr → Bool
  | .resetAsserted => true
  | .resetEnd straps => decide (straps < 128)
  | .periodPinEdge => true
  | .periodLockoutExpiry => true
  | .portTransaction _ => true
  | .status => true
  | .nextNotice => true
  | .setAttention _ => true
  | .readPage offset length => fits2 offset && fits1 length
  | .configure req => req.fits
  | .loopbackOn => true
  | .loopbackOff => true
  | .join => true
  | .laneRestart lane => fits1 lane
  | .test dest payload => fits1 dest && decide (2 + payload.length ≤ maxParams)
  | .openTab label => decide (1 + label.length ≤ maxParams)
  | .add home tab lines flag =>
    fits1 home && fits2 tab && lines.all (·.fits) && fits1 flag && decide (5 + (lines.map (·.size)).sum ≤ maxParams)
  | .send tab => fits2 tab
  | .lineVoid home tab line => fits1 home && fits2 tab && fits1 line
  | .tabVoid tab => fits2 tab
  | .release tab => fits2 tab
  | .query home tab => fits1 home && fits2 tab
  | .readTab tab => fits2 tab
  | .split home tab count entries =>
    fits1 home && fits2 tab && fits1 count && entries.all (fun e => fits1 e.line) && decide (5 + 2 * entries.length ≤ maxParams)
  | .withdraw home tab => fits1 home && fits2 tab
  | .claim home tab share => fits1 home && fits2 tab && fits1 share
  | .settle home tab share tender => fits1 home && fits2 tab && fits1 share && fits1 tender
  | .releaseShare home tab share => fits1 home && fits2 tab && fits1 share
  | .readClaims => true
  | .markPeriod => true
  | .readCapture slot => fits1 slot
  | .releaseCapture slot => fits1 slot
  | .readPeers => true
  | .retry ticket => fits2 ticket
  | .refresh ticket => fits2 ticket
  | .abandon ticket => fits2 ticket
  | .readTickets => true
  | .fire ref => fits1 ref
  | .ready ref => fits1 ref
  | .collect ref => fits1 ref
  | .kitchenVoid ref lines => fits1 ref && lines.all fits1 && decide (2 + lines.length ≤ maxParams)
  | .readQueue => true
  | .nextNew => true
  | .load item count low => fits2 item && fits2 count && fits2 low
  | .refill item count => fits2 item && fits2 count
  | .reloadToPreset item => fits2 item
  | .recount item counted => fits2 item && fits2 counted
  | .remove item => fits2 item
  | .readPortions item => fitsOpt fits2 item
  | .readStockView => true
  | .laneActivity _ => true
  | .laneFrameStart _ => true
  | .laneFrameEnd _ _ => true
  | .laneSilenceExpiry _ => true
  | .laneStuck _ => true
  | .laneRecessive _ => true
  | .twinWindowExpiry _ => true
  | .beaconFrame => true
  | .periodFrame => true
  | .stockFrame => true
  | .addFrame => true
  | .lineVoidFrame => true
  | .tabQueryFrame => true
  | .splitFrame => true
  | .withdrawFrame => true
  | .claimFrame => true
  | .settleFrame => true
  | .releaseFrame => true
  | .claimEndFrame => true
  | .ticketFrame => true
  | .ticketVoidFrame => true
  | .ticketQueryFrame => true
  | .ticketStateFrame => true
  | .testFrame => true
  | .answerFrame => true
  | .exchangeTimeout tag => fits1 tag
  | .splitCompletion => true
  | .holdTimerExpiry tab share => fits2 tab && fits1 share
  | .localExpiry home tab share => fits1 home && fits2 tab && fits1 share
  | .silenceTimerExpiry station => fits1 station
  | .intervalTimerExpiry => true
  | .holdOffExpiry => true
  | .joinWindowExpiry => true
  | .isolationTimerExpiry => true
  | .warnTimerExpiry ref => fits1 ref
  | .lateTimerExpiry ref => fits1 ref
  | .collectTimerExpiry ref => fits1 ref
  | .transmitStart => true
  | .arbitrationLost => true
  | .transmitFault => true
  | .transmitComplete => true

end Sys2Proof
end

