-- ==== Sys2Proof/Certificates/Slice0/Obligations.lean ====
section
/-! DEFINITION. The statements about the block, family by family of its commands. A result written `afterCommand`, `afterEvent`,
`afterFrame` or `afterRequest` (Sys2Proof/Safety.lean) is the rule's own effect followed by the end of the event, which
`EventEnds` describes; a record update leaves every field it does not name as it was. -/

open Sys2Proof Sys2Proof.Machine

/-! ## Steps, the queue and reset -/

/-- A step carries out the command at the front of the queue on the state with the queue's rest. -/
def Obligations.StepRunsFrontCommand : Prop :=
  ∀ (c : Instr) (rest : List Instr) (s : State), s.pending = c :: rest → step s = exec c { s with pending := rest }

/-- With nothing waiting, a step carries out the command the port has taken, or lets one millisecond pass. A millisecond takes one off
every running timer, which stands at 0, and leaves a stopped one; station time rises, and the join age in ONLINE and ISOLATED (R72). A
STUCK lane's silence timer stands (R147), and so do both lanes' in LOOPBACK; in DUPLICATE the records' timers and the join age stand
(R143). The step is the model's choice (log entries 7 and 8), and so is that a timer at 0 waits for its expiry row (log entry 6). -/
def Obligations.EmptyQueueStep : Prop :=
  ∀ s : State, s.pending = [] →
    (∀ c, s.port.taken = some c → step s = exec c s) ∧
    (s.port.taken = none → s.station.inReset = true → step s = .next s) ∧
    (s.port.taken = none → s.station.inReset = false →
      let down := fun (x : Timer) => (x.map (· - 1) : Timer)
      let lane := fun (r : Receiver) =>
        if s.station.state = .loopback ∨ r.state = .stuck then r else { r with silence := down r.silence }
      let ticket := fun (k : KTicket) =>
        { k with warnTimer := down k.warnTimer, lateTimer := down k.lateTimer, collectTimer := down k.collectTimer }
      let clocked : State :=
        { s with
          station := { s.station with clock := s.station.clock + 1 }
          link := { s.link with a := lane s.link.a, b := lane s.link.b } }
      (s.station.state = .duplicate → step s = .next clocked) ∧
      (s.station.state ≠ .duplicate →
        step s =
          .next
            { clocked with
              station :=
                { clocked.station with
                  online := if s.station.state = .online ∨ s.station.state = .isolated then s.station.online + 1 else s.station.online
                  joinWindow := down s.station.joinWindow
                  isolation := down s.station.isolation }
              tabs :=
                s.tabs.map fun t =>
                  { t with split := t.split.map fun sp => { sp with shares := sp.shares.map fun sh => { sh with hold := down sh.hold } } }
              claims := s.claims.map fun c => { c with expiry := down c.expiry }
              takings := { s.takings with lockout := down s.takings.lockout }
              dir := { s.dir with entries := s.dir.entries.map fun p => { p with silence := down p.silence } }
              beacon := { s.beacon with interval := down s.beacon.interval, holdOff := down s.beacon.holdOff }
              kitchen :=
                { s.kitchen with
                  queued := s.kitchen.queued.map ticket, fired := s.kitchen.fired.map ticket, ready := s.kitchen.ready.map ticket }
              exch := { s.exch with entries := s.exch.entries.map fun e => { e with timer := down e.timer } } }))

/-- Every command completes from every state, and none touches the queue of waiting commands. That none faults or is refused is read from
the spec (log entry 1); the queue is the model's own (log entry 2). -/
def Obligations.EveryCommandCompletes : Prop :=
  ∀ (c : Instr) (s : State), ∃ t, exec c s = .next t ∧ t.pending = s.pending

/-- What a reset leaves (R133): the two reset rows. That RESET_END leaves these values from every state is the model's (log entry 3), and
so is the queue of waiting commands, which reset keeps (log entry 2). -/
def Obligations.ResetLeavesResetValues : Prop :=
  ∀ (s : State) (straps : Nat), straps < 128 → ∃ low up,
    exec .resetAsserted s = .next low ∧ exec (.resetEnd straps) s = .next up ∧
    low.station.inReset = true ∧ attn low = false ∧ busy low = false ∧ up.station.inReset = false ∧
    up.station.number = straps ∧
    ∀ t, t = low ∨ t = up →
      t.station.state = .offline ∧ t.station.clock = 0 ∧ t.station.online = 0 ∧ t.station.joinWindow = none ∧
      t.station.isolation = none ∧ t.cfg.till = false ∧ t.cfg.kitchen = false ∧ t.cfg.prep = [] ∧ t.cfg.rates = ⟨0, 0, 0, 0⟩ ∧
      t.tabs = [] ∧ t.engine = none ∧ t.claims = [] ∧ t.takings.accums = Accums.zero ∧ t.takings.period = 0 ∧
      t.takings.spanStart = 0 ∧ t.takings.deferral = false ∧ t.takings.slot1 = none ∧ t.takings.slot2 = none ∧
      t.takings.lockout = none ∧ t.dir.entries = [] ∧ t.dir.full = false ∧ t.beacon.interval = none ∧ t.beacon.holdOff = none ∧
      t.beacon.due = false ∧ t.router.tickets = [] ∧ t.router.counter = 1 ∧ t.router.voids = [] ∧ t.router.pause = false ∧
      t.kitchen.all = [] ∧ t.kitchen.hold = false ∧ t.portions = [] ∧ t.stock = [] ∧ t.link.a.state = .down ∧
      t.link.b.state = .down ∧ t.link.a.badRun = 0 ∧ t.link.b.badRun = 0 ∧ t.link.a.errors = 0 ∧ t.link.b.errors = 0 ∧
      t.link.disagree = 0 ∧ t.link.tagStatus = .clear ∧ t.link.a.changed = false ∧ t.link.b.changed = false ∧
      t.link.overrun = false ∧ t.tx.slots = [] ∧ t.tx.dropped = 0 ∧ t.rx = [] ∧ t.exch.entries = [] ∧ t.exch.counter = 0 ∧
      t.port.answer = none ∧ t.port.taken = none ∧ t.port.link = [] ∧ t.port.money = [] ∧ t.port.kitchen = [] ∧
      t.port.peers = [] ∧ t.port.overflow = ⟨false, false, false, false⟩ ∧ t.port.mask = ⟨true, true, true, true⟩ ∧
      t.port.snapshot = none ∧ t.pending = s.pending

/-- While reset lasts every other row changes nothing (R133). A command's row that differs from the command taken is turned away with no
change: the model's choice (log entry 9), after R172's command shifted in while BUSY is high. A row with nothing to act on is only the end
of an event, as the model has it: a timer's row whose timer is stopped (log entry 6), the transmitter's rows with no frame on the wire, the
completion with no computation, a frame's row without its kind at the head of the receive queue (log entry 12); and a frame there that
may not be delivered only leaves the queue (R162, R179; log entry 13). -/
def Obligations.TurnedAwayCommandsChangeNothing : Prop :=
  (∀ (c : Instr) (s : State), s.station.inReset = true → isReset c = false → exec c s = .next s) ∧
  (∀ (c c' : Instr) (s : State), s.port.taken = some c' → c ≠ c' → (catalogue c).isSome = true → exec c s = .next s) ∧
  -- nothing to act on
  (∀ s : State, s.station.inReset = false →
    let idles := fun (c : Instr) => exec c s = .next (afterEvent s s)
    (s.takings.lockout = none → idles .periodLockoutExpiry) ∧
    (s.station.joinWindow = none ∨ s.station.state ≠ .joining → idles .joinWindowExpiry) ∧
    (s.station.isolation = none ∨ s.station.state ≠ .online → idles .isolationTimerExpiry) ∧
    (s.beacon.interval = none ∨ inService s = false → idles .intervalTimerExpiry) ∧
    (s.beacon.holdOff = none ∨ inService s = false → idles .holdOffExpiry) ∧
    (s.engine = none → idles .splitCompletion) ∧
    ((∀ x ∈ s.tx.slots, x.onWire = false) → idles .arbitrationLost ∧ idles .transmitFault ∧ idles .transmitComplete) ∧
    (∀ lane, (s.link.rx lane).silence = none → idles (.laneSilenceExpiry lane)) ∧
    (∀ lane, (s.link.rx lane).window = none → idles (.twinWindowExpiry lane)) ∧
    (∀ k, (∀ p, findPeer s k = some p → p.silence = none ∨ p.presence = .lost) → idles (.silenceTimerExpiry k)) ∧
    (∀ tab share, (∀ sh, findShare s tab share = some sh → sh.hold = none ∨ sh.state ≠ .claimed) → idles (.holdTimerExpiry tab share)) ∧
    (∀ home tab share, (∀ e, findClaim s home tab share = some e → e.expiry = none) → idles (.localExpiry home tab share)) ∧
    (∀ tag, (∀ e ∈ s.exch.entries, e.tag = tag → e.timer = none) → idles (.exchangeTimeout tag)) ∧
    (∀ ref,
      ((∀ p t, s.kitchen.byRef ref = some (p, t) → t.warnTimer = none) → idles (.warnTimerExpiry ref)) ∧
      ((∀ p t, s.kitchen.byRef ref = some (p, t) → t.lateTimer = none) → idles (.lateTimerExpiry ref)) ∧
      ((∀ p t, s.kitchen.byRef ref = some (p, t) → t.collectTimer = none ∨ p ≠ .ready) → idles (.collectTimerExpiry ref)))) ∧
  (∀ row ∈ [(Kind.beacon, Instr.beaconFrame), (Kind.period, .periodFrame), (Kind.stock, .stockFrame), (Kind.add, .addFrame),
      (Kind.lineVoid, .lineVoidFrame), (Kind.tabQuery, .tabQueryFrame), (Kind.split, .splitFrame), (Kind.withdraw, .withdrawFrame),
      (Kind.claim, .claimFrame), (Kind.settle, .settleFrame), (Kind.release, .releaseFrame), (Kind.claimEnd, .claimEndFrame),
      (Kind.ticket, .ticketFrame), (Kind.ticketVoid, .ticketVoidFrame), (Kind.ticketQuery, .ticketQueryFrame),
      (Kind.ticketState, .ticketStateFrame), (Kind.test, .testFrame), (Kind.answer, .answerFrame)],
    ∀ s : State, s.station.inReset = false →
      (s.rx = [] → exec row.2 s = .next (afterEvent s s)) ∧
      ∀ f rest, s.rx = f :: rest →
        (f.kind ≠ row.1 → exec row.2 s = .next (afterEvent s s)) ∧
        (f.kind = row.1 → deliverable f = false → exec row.2 s = .next (afterFrame s (popped rest s))))

/-! ## The end of an event -/

/-- What the end of an event does: nothing where the router has nothing to do and no stock state changed; otherwise the router's rounds, a
void request ahead of an offer and records in list order, and then the stock reports (R79, R82, R84, R90, R120, R121). How many rounds
an event has is the model's (log entry 21), and so are the order of the stock reports (log entry 14), that with the offer pause set a
record bound for a peer is passed over (log entry 55), and that the answer of a hand-off is acted on after all the kitchen does (log
entry 71). -/
def Obligations.EventEnds : Prop :=
  let drawn := fun (s : State) (c : Nat) =>
    let tag := fun (i : Nat) => if i = 0 then s.exch.counter else (s.exch.counter + i) % 256
    ∃ i, i < 8 ∧ c = tag i ∧ (∀ e ∈ s.exch.entries, e.tag ≠ c) ∧ ∀ j, j < i → ∃ e ∈ s.exch.entries, e.tag = tag j
  (∀ (before : List Portion) (s : State), routerQuiet s = true → (s.portions.map (·.item)).Nodup →
      before.map (fun p => (p.item, stockState p)) = s.portions.map (fun p => (p.item, stockState p)) → endEvent before s = s) ∧
  (∀ (before : List Portion) (s : State),
      let t := endEvent before s
      t.station = s.station ∧ t.cfg = s.cfg ∧ t.claims = s.claims ∧ t.stock = s.stock ∧ t.link = s.link ∧ t.rx = s.rx ∧
      t.takings.period = s.takings.period ∧ t.takings.spanStart = s.takings.spanStart ∧ t.takings.deferral = s.takings.deferral ∧
      t.takings.slot1 = s.takings.slot1 ∧ t.takings.slot2 = s.takings.slot2 ∧ t.takings.lockout = s.takings.lockout ∧
      t.port.answer = s.port.answer ∧ t.port.taken = s.port.taken ∧ t.port.mask = s.port.mask ∧
      t.port.snapshot = s.port.snapshot ∧ t.port.pdo = s.port.pdo ∧ t.pending = s.pending) ∧
  -- the end of an event: the router's rounds, then a report of each entry that left and of each whose stock state changed
  (∀ (before : List Portion) (s : State),
      let u := routerWork s
      let report := fun (item : Nat) (old new : Option StockState) (remaining : Nat) (v : State) =>
        let noted := post (.stockChange item old new remaining) (queueStock item (new.getD .available) remaining v)
        if new = some .low then post (.portionLow item remaining) noted else noted
      let old := fun (p : Portion) => (before.find? (·.item == p.item)).map stockState
      let gone := before.filter fun p => !u.portions.any (·.item == p.item)
      let changed := u.portions.filter fun p => old p != some (stockState p)
      u = routerLoop (s.router.voids.length + 8 * s.router.tickets.length + 32) s ∧
      endEvent before s =
        changed.foldl (fun v p => report p.item (old p) (some (stockState p)) p.remaining v)
          (gone.foldl (fun v p => report p.item (some (stockState p)) none p.remaining v) u)) ∧
  -- a STOCK frame takes the place of the item's frame that has not begun, or is queued
  (∀ (item remaining : Nat) (st : StockState) (s : State),
      let payload : Bytes := e2 item ++ e1 st.ctorIdx ++ e2 remaining
      let waits := fun (x : Slot) => stockItem x.frame == some item && !x.begun
      ((∃ x ∈ s.tx.slots, waits x = true) →
        queueStock item st remaining s =
          { s with
            tx :=
              { s.tx with
                slots := s.tx.slots.map fun x => if waits x then { x with frame := { x.frame with payload := payload } } else x } }) ∧
      ((∀ x ∈ s.tx.slots, waits x = false) → queueStock item st remaining s = (sendFrame ⟨Kind.stock, 127, 0, payload⟩ s).2)) ∧
  -- one round of the router
  (∀ (n : Nat) (s : State),
      let again := routerLoop n
      let round := routerLoop (n + 1) s
      let ripe := fun (x : Ticket) => x.state = .pending ∧ ∀ k, chooseKitchen s x = some k → k = own s ∨ s.router.pause = false
      let ownRipe := fun (x : Ticket) => x.state = .pending ∧ own s ∈ candidates s x
      (s.station.state = .online → 8 ≤ s.exch.entries.length → round = s) ∧
      (s.station.state = .online → s.exch.entries.length < 8 →
        (∀ e rest, s.router.voids = e :: rest → round = again (sendVoid e rest s)) ∧
        (s.router.voids = [] →
          (∀ before t after, s.router.tickets = before ++ t :: after → ripe t → (∀ x ∈ before, ¬ripe x) →
            (chooseKitchen s t = none → round = again (unroute t .noCandidate s)) ∧
            (∀ k, chooseKitchen s t = some k → round = again (offerTo t k s))) ∧
          ((∀ x ∈ s.router.tickets, ¬ripe x) → round = s))) ∧
      (s.station.state = .isolated →
        (∀ before t after, s.router.tickets = before ++ t :: after → ownRipe t → (∀ x ∈ before, ¬ownRipe x) →
          round = again (offerTo t (own s) s)) ∧
        ((∀ x ∈ s.router.tickets, ¬ownRipe x) → round = s)) ∧
      (s.station.state ≠ .online → s.station.state ≠ .isolated → round = s)) ∧
  -- the offer of a record, and the sending of a void request; a request with a free entry draws the first tag from the counter's on that
  -- no entry holds
  (∀ (t : Ticket) (k : Nat) (s : State),
      let offered := modTicket t.number (fun r => { r with attempts := r.attempts + 1, state := .offered k }) s
      let lines :=
        match findTab s t.tab with
        | none => []
        | some tab => (tab.lines.filter fun l => t.lines.contains l.number).map fun l => (⟨l.number, l.item, l.qty, l.mods⟩ : OfferLine)
      let offer : Offer := ⟨t.number, t.tab, t.prep, if t.rush then 1 else 0, lines⟩
      (k = own s →
        let kitchen := takeOffer ownReport noAnswer k offer offered
        (kitchen.1.result = .ACCEPT →
          offerTo t k s = takeAccept ownVoid t.number k (kitchen.2.kitchen.queued.length + kitchen.2.kitchen.fired.length) kitchen.2) ∧
        (kitchen.1.result ≠ .ACCEPT → offerTo t k s = failOffer t.number k kitchen.2)) ∧
      (k ≠ own s → isLost s k = true → offerTo t k s = failOffer t.number k offered) ∧
      (k ≠ own s → isLost s k = false → s.exch.entries.length < 8 → ∀ c, drawn s c →
        let sent := sendFrame ⟨Kind.ticket, k, c, eOfferPayload offer⟩ { offered with exch := { s.exch with counter := (c + 1) % 256 } }
        (sent.1 = true →
          offerTo t k s =
            { sent.2 with
              exch := { sent.2.exch with entries := s.exch.entries ++ [⟨c, Kind.ticket, k, t.number, 0, .offer, some 300⟩] } }) ∧
        (sent.1 = false →
          let back := modTicket t.number (fun _ => t) sent.2
          offerTo t k s = { back with router := { back.router with pause := true } }))) ∧
  (∀ (e : VoidEntry) (rest : List VoidEntry) (s : State),
      let popped : State := { s with router := { s.router with voids := rest } }
      (isLost s e.kitchen = true → sendVoid e rest s = voidEnd e (.failed Result.KITCHEN_LOST.code) popped) ∧
      (isLost s e.kitchen = false → s.exch.entries.length < 8 → ∀ c, drawn s c →
        let sent := sendFrame ⟨Kind.ticketVoid, e.kitchen, c, e2 e.ticket ++ eList e1 e.lines⟩
          { popped with exch := { s.exch with counter := (c + 1) % 256 } }
        (sent.1 = true →
          sendVoid e rest s =
            { sent.2 with
              exch :=
                { sent.2.exch with
                  entries :=
                    s.exch.entries ++ [⟨c, Kind.ticketVoid, e.kitchen, e.ticket, 0, .void e.purpose e.tab e.lines, some 300⟩] } }) ∧
        (sent.1 = false → sendVoid e rest s = voidEnd e (.failed Result.LINK_BUSY.code) sent.2))) ∧
  (∀ (t : Ticket) (reason : UnroutedReason) (s : State),
      unroute t reason s =
        post (.unrouted t.number t.tab t.prep reason)
          (modTab t.tab (fun u =>
            { u with
              lines :=
                mapIf (fun l => t.lines.contains l.number && l.state == .pending) (fun l => { l with state := .unrouted }) u.lines })
            (modTicket t.number (fun r => { r with state := .unrouted }) s)))

/-! ## The local port -/

/-- A command is first tested against the station state, then against the roles; a refusal by either changes nothing (R178, R143,
R135). A read in OFFLINE is thus NOT_SERVED for want of the role, where R178 also speaks of an empty collection (log entry 37). -/
def Obligations.CatalogueTestsComeFirst : Prop :=
  ∀ (c : Instr) (k : TakenIn) (role : Option Role) (s : State), catalogue c = some (k, role) → commandTaken c s = true →
    (k.holds s.station.state = false →
      exec c s = .next (afterCommand c s
        (.bare (if k = .offline ∧ s.station.state ≠ .duplicate then .CONFIG_LOCKED else .STATE)) s)) ∧
    (k.holds s.station.state = true → ∀ r, role = some r → hasRole s r = false →
      exec c s = .next (afterCommand c s (.bare .NOT_SERVED) s))

/-- How a transaction settles (R172): the answer read or kept, a whole command taken while BUSY is low, turned away while it is high,
and a code or framing the part does not know answered BAD_PARAM; a Loopback setting other than on or off is BAD_PARAM where one of its
settings is taken and STATE elsewhere. Which bytes are a whole command: leading 00 bytes are skipped, one cut short is none, and what
follows it is ignored. Which codes are known, 1 to 44, and which parameters fit: a command's own bytes, and behind them no more than its
layout with every optional field present; any others, too few, too many or with a presence byte above 1, are bad framing (R180). That no
station state changes the first of these answers is the model's reading (log entry 10), and so is that bytes behind the fields present
are ignored up to that length (log entry 43); the bytes PDO is left holding are its own record (log entry 17). -/
def Obligations.TransactionSettles : Prop :=
  -- the first whole command in what was shifted in
  (∀ zeros : Bytes, (∀ b ∈ zeros, b = 0#8) →
    firstCommand zeros = none ∧
    ∀ code : Byte, code ≠ 0#8 →
      firstCommand (zeros ++ [code]) = none ∧
      ∀ (p : Byte) (body : Bytes),
        (body.length < p.toNat → firstCommand (zeros ++ code :: p :: body) = none) ∧
        (p.toNat ≤ body.length → firstCommand (zeros ++ code :: p :: body) = some (code.toNat, body.take p.toNat))) ∧
  -- what the port makes of it
  (∀ (code : Nat) (params : Bytes), params.length ≤ 255 →
    let whole := fun (c : Instr) => max (commandParams c).length (if code = 5 then 36 else if code = 44 then 3 else 0)
    let reads := fun (c : Instr) =>
      c.wellFormed = true ∧ (catalogue c).isSome = true ∧ commandCode c = code ∧ commandParams c <+: params ∧ params.length ≤ whole c
    (parseCommand code params = .unknownCode ↔ code = 0 ∨ 44 < code) ∧
    (1 ≤ code → code ≤ 44 → code ≠ 6 →
      (∀ c, parseCommand code params = .command c ↔ reads c) ∧ ((∀ c, ¬reads c) → parseCommand code params = .badFraming)) ∧
    (code = 6 →
      (params = [1#8] → parseCommand code params = .command .loopbackOn) ∧
      (params = [0#8] → parseCommand code params = .command .loopbackOff) ∧
      (∀ b : Byte, params = [b] → 1 < b.toNat → parseCommand code params = .badLoopback) ∧
      (params.length ≠ 1 → parseCommand code params = .badFraming))) ∧
  -- parameters too short, too long, or with a presence byte above 1
  (∀ c : Instr, c.wellFormed = true → (catalogue c).isSome = true → commandCode c ≠ 6 →
    let whole := max (commandParams c).length (if commandCode c = 5 then 36 else if commandCode c = 44 then 3 else 0)
    (∀ n, n < (commandParams c).length → parseCommand (commandCode c) ((commandParams c).take n) = .badFraming) ∧
    (∀ extra, whole < (commandParams c ++ extra).length → parseCommand (commandCode c) (commandParams c ++ extra) = .badFraming)) ∧
  (∀ (b : Byte) (rest : Bytes), 1 < b.toNat →
    parseCommand 44 (b :: rest) = .badFraming ∧
    ∀ q : ConfigReq, (Instr.configure q).wellFormed = true →
      let optional : List Bytes :=
        [eOpt e2 q.interval, eOpt e1 q.lockCount, eOpt e2 q.claimHold, eOpt e1 q.fireLimit, eOpt e1 q.autoFire, eOpt e1 q.holdMark,
          eOpt e1 q.releaseMark, eOpt e2 q.warnTime, eOpt e2 q.lateTime, eOpt e2 q.collectTimeout]
      ∀ i, i < 10 → parseCommand 5 ((eConfigReq q).take 11 ++ (optional.take i).flatten ++ b :: rest) = .badFraming) ∧
  -- the transaction
  ∀ (pdi : Bytes) (s : State), s.station.inReset = false →
    let settled : State :=
      { s with
        port :=
          { s.port with
            pdo := shiftedOut s.port.answer pdi.length
            answer := if answerRead s.port.answer pdi.length then none else s.port.answer } }
    (firstCommand pdi = none → exec (.portTransaction pdi) s = .next (afterEvent s settled)) ∧
    (busy s = true → exec (.portTransaction pdi) s = .next (afterEvent s settled)) ∧
    (∀ code params c, busy s = false → firstCommand pdi = some (code, params) → parseCommand code params = .command c →
      exec (.portTransaction pdi) s =
        .next (afterEvent s { settled with port := { settled.port with answer := none, taken := some c } })) ∧
    (∀ code params, busy s = false → firstCommand pdi = some (code, params) →
      parseCommand code params = .unknownCode ∨ parseCommand code params = .badFraming →
      exec (.portTransaction pdi) s =
        .next (afterEvent s { settled with port := { settled.port with answer := some ⟨code, .BAD_PARAM, []⟩ } })) ∧
    (∀ code params, busy s = false → firstCommand pdi = some (code, params) → parseCommand code params = .badLoopback →
      let r : Result := if s.station.state = .configured ∨ s.station.state = .loopback then .BAD_PARAM else .STATE
      exec (.portTransaction pdi) s =
        .next (afterEvent s { settled with port := { settled.port with answer := some ⟨code, r, []⟩ } }))

/-- Every local command that can be written down is read back from its bytes as itself (chapter Formats). That Read page's offset is
written in 2 bytes (log entry 69), and Open's label and Test's payload with a count byte (log entry 74), is the model's choice. -/
def Obligations.CommandBytesReadBack : Prop :=
  ∀ c : Instr, c.wellFormed = true → (catalogue c).isSome = true →
    firstCommand (commandBytes c) = some (commandCode c, commandParams c) ∧
    parseCommand (commandCode c) (commandParams c) = .command c

/-- Status answers with every item of R176 as held before the read, and clears the flags the table marks. The bytes follow the chapter
Formats; the codes of states and slots are read from the order of the spec's tables (log entry 41). -/
def Obligations.StatusReportsAndClears : Prop :=
  ∀ s : State, commandTaken .status s = true →
    let k := s.link
    let a := s.takings.accums
    let data : Bytes :=
      e1 s.station.state.ctorIdx ++ e1 s.station.number ++ e1 k.a.state.ctorIdx ++ eFlag k.a.changed ++ e1 k.b.state.ctorIdx ++
      eFlag k.b.changed ++ e1 k.tagStatus.ctorIdx ++ e1 k.a.errors ++ e1 k.b.errors ++ e1 k.disagree ++ eFlag k.overrun ++
      e2 s.tx.dropped ++ eFlag s.port.overflow.link ++ eFlag s.port.overflow.money ++ eFlag s.port.overflow.kitchen ++
      eFlag s.port.overflow.peers ++ e1 s.takings.period ++ e1 (if s.takings.slot1.isSome then 1 else 0) ++
      e1 (if s.takings.slot2.isSome then 1 else 0) ++
      eFlag (a.cashCount.saturated || a.cashAmount.saturated || a.cardCount.saturated || a.cardAmount.saturated ||
        a.voucherCount.saturated || a.voucherAmount.saturated || a.rounding.saturated || a.linesVoided.saturated ||
        a.tabsClosed.saturated || a.ticketsAccepted.saturated || a.ticketsReadied.saturated || a.ticketsVoided.saturated ||
        a.lateTickets.saturated || a.wastePortions.saturated)
    exec .status s =
      .next (afterCommand .status s ⟨.OK, data⟩
        { s with
          link := { k with a := { k.a with changed := false }, b := { k.b with changed := false }, overrun := false }
          port := { s.port with overflow := ⟨false, false, false, false⟩ } })

/-- A notice joins its level's queue, of 8, 16, 24 or 8 notices; at a full level it is dropped and that level's overflow flag is set, the
levels being those of R174's table (R174, R169). ATTN is high exactly while an enabled level holds a notice and RESET is not low. Next
notice takes the oldest notice of the first level that holds one; Set attention replaces the mask whole; Read page gives a part of the
copy, is refused NO_ENTRY with no copy and BAD_PARAM outside it, and changes nothing (R175, R177). That the mask's bits 0 to 3 are LINK,
MONEY, KITCHEN, PEERS is the model's reading (log entry 18), and so are the layouts of a notice's fields where the general encoding leaves them
open, an answer's whole among them (log entries 19, 29 and 79). -/
def Obligations.NoticesMaskAndPages : Prop :=
  (∀ (s : State) (n : Notice) (p : Port), commandTaken .nextNotice s = true →
    ((∃ l, s.port.link = n :: l ∧ p = { s.port with link := l }) ∨
      (s.port.link = [] ∧ ∃ l, s.port.money = n :: l ∧ p = { s.port with money := l }) ∨
      (s.port.link = [] ∧ s.port.money = [] ∧ ∃ l, s.port.kitchen = n :: l ∧ p = { s.port with kitchen := l }) ∨
      (s.port.link = [] ∧ s.port.money = [] ∧ s.port.kitchen = [] ∧ ∃ l, s.port.peers = n :: l ∧ p = { s.port with peers := l })) →
    exec .nextNotice s =
      .next (afterCommand .nextNotice s
        ⟨.OK, e1 n.level.code ++ e1 n.code ++ n.fields ++ e1 p.link.length ++ e1 p.money.length ++ e1 p.kitchen.length ++
          e1 p.peers.length⟩
        { s with port := p })) ∧
  (∀ s : State, commandTaken .nextNotice s = true →
    s.port.link = [] ∧ s.port.money = [] ∧ s.port.kitchen = [] ∧ s.port.peers = [] →
    exec .nextNotice s = .next (afterCommand .nextNotice s (.bare .NO_ENTRY) s)) ∧
  (∀ (s : State) (mask : Byte), readReady (.setAttention mask) none s = true →
    exec (.setAttention mask) s =
      .next (afterCommand (.setAttention mask) s (.bare .OK)
        { s with
          port :=
            { s.port with
              mask := ⟨mask.getLsbD 0, mask.getLsbD 1, mask.getLsbD 2, mask.getLsbD 3⟩ } })) ∧
  (∀ (s : State) (offset length : Nat) (c : Snapshot), readReady (.readPage offset length) none s = true →
    s.port.snapshot = some c → offset < c.bytes.length → 1 ≤ length → length ≤ 64 →
    exec (.readPage offset length) s =
      .next (afterCommand (.readPage offset length) s ⟨.OK, e1 c.kind ++ (c.bytes.drop offset).take length⟩ s)) ∧
  (∀ (s : State) (offset length : Nat), readReady (.readPage offset length) none s = true →
    (s.port.snapshot = none → exec (.readPage offset length) s = .next (afterCommand (.readPage offset length) s (.bare .NO_ENTRY) s)) ∧
    (∀ c, s.port.snapshot = some c → c.bytes.length ≤ offset ∨ length = 0 ∨ 64 < length →
      exec (.readPage offset length) s = .next (afterCommand (.readPage offset length) s (.bare .BAD_PARAM) s))) ∧
  -- a notice is posted, or dropped with its level's flag set
  (∀ (n : Notice) (s : State),
    let p := s.port
    let put := fun (q : Port) => ({ s with port := q } : State)
    (n.level = .link →
      (p.link.length < 8 → post n s = put { p with link := p.link ++ [n] }) ∧
      (8 ≤ p.link.length → post n s = put { p with overflow := { p.overflow with link := true } })) ∧
    (n.level = .money →
      (p.money.length < 16 → post n s = put { p with money := p.money ++ [n] }) ∧
      (16 ≤ p.money.length → post n s = put { p with overflow := { p.overflow with money := true } })) ∧
    (n.level = .kitchen →
      (p.kitchen.length < 24 → post n s = put { p with kitchen := p.kitchen ++ [n] }) ∧
      (24 ≤ p.kitchen.length → post n s = put { p with overflow := { p.overflow with kitchen := true } })) ∧
    (n.level = .peers →
      (p.peers.length < 8 → post n s = put { p with peers := p.peers ++ [n] }) ∧
      (8 ≤ p.peers.length → post n s = put { p with overflow := { p.overflow with peers := true } }))) ∧
  -- the table's order gives the kinds their codes, so its rows are ranges of codes; LATE_ANSWER, code 19, stands in two of them
  (∀ n : Notice,
    (n.code ≤ 4 → n.level = .link) ∧ (5 ≤ n.code → n.code ≤ 18 → n.level = .money) ∧
    (20 ≤ n.code → n.code ≤ 39 → n.level = .kitchen) ∧ (40 ≤ n.code → n.level = .peers)) ∧
  (∀ a : AnswerRec,
    (Notice.lateAnswer a).level =
      if a.kind ∈ [Kind.claim, Kind.settle, Kind.release, Kind.split, Kind.withdraw] then Level.money else Level.kitchen) ∧
  (∀ s : State,
    let p := s.port
    attn s = true ↔
      s.station.inReset = false ∧
      ((p.mask.link = true ∧ p.link ≠ []) ∨ (p.mask.money = true ∧ p.money ≠ []) ∨ (p.mask.kitchen = true ∧ p.kitchen ≠ []) ∨
        (p.mask.peers = true ∧ p.peers ≠ [])))

/-- Each read command copies its whole subject into the snapshot buffer and answers OK with its fields and the copy's size (R177, R21,
R71, R96, R117, R128, R132, R60); Query answers with the tab's summary, by command at the home or by frame, and changes no tab (R20).
A tab not held is NO_TAB, a FREE slot or no unread ticket NO_ENTRY, and a slot other than 1 or 2 BAD_PARAM, with nothing changed. The
layouts of copies and their sizes, and of the summary's shares without a count byte, are the model's reading (log entry 29). -/
def Obligations.ReadsAndQueriesAnswer : Prop :=
  (
    let copied := fun (s : State) (kind : Nat) (bytes : Bytes) => ({ s with port := { s.port with snapshot := some ⟨kind, bytes⟩ } } : State)
    (∀ (s : State) (tab : Nat) (t : Tab), readReady (.readTab tab) (some .till) s = true → findTab s tab = some t →
      exec (.readTab tab) s =
        .next (afterCommand (.readTab tab) s ⟨.OK, e2 (eTab t).length⟩ (copied s 1 (eTab t)))) ∧
    (∀ s : State, readReady .readClaims (some .till) s = true →
      let bytes := (s.claims.map eClaim).flatten
      exec .readClaims s =
        .next (afterCommand .readClaims s ⟨.OK, e1 s.claims.length ++ e2 bytes.length⟩ (copied s 2 bytes))) ∧
    (∀ (s : State) (slot : Nat) (c : Capture), readReady (.readCapture slot) none s = true →
      (slot = 1 ∧ s.takings.slot1 = some c) ∨ (slot = 2 ∧ s.takings.slot2 = some c) →
      exec (.readCapture slot) s =
        .next (afterCommand (.readCapture slot) s ⟨.OK, e2 (eCapture c).length⟩ (copied s 3 (eCapture c)))) ∧
    (∀ s : State, readReady .readPeers none s = true →
      let bytes := (s.dir.entries.map ePeer).flatten
      exec .readPeers s =
        .next (afterCommand .readPeers s
          ⟨.OK, e1 s.dir.entries.length ++ e1 (s.dir.entries.filter (·.changed)).length ++ e2 bytes.length⟩
          { copied s 4 bytes with dir := { s.dir with entries := s.dir.entries.map fun p => { p with changed := false } } })) ∧
    (∀ s : State, readReady .readTickets (some .till) s = true →
      let bytes := (s.router.tickets.map eTicket).flatten ++ (s.router.voids.map eVoidEntry).flatten
      exec .readTickets s =
        .next (afterCommand .readTickets s ⟨.OK, e1 (s.router.tickets.length + s.router.voids.length) ++ e2 bytes.length⟩
          (copied s 5 bytes))) ∧
    (∀ s : State, readReady .readQueue (some .kitchen) s = true →
      let k := s.kitchen
      let bytes := (k.queued.map (eKTicket .queued)).flatten ++ (k.fired.map (eKTicket .fired)).flatten ++
        (k.ready.map (eKTicket .ready)).flatten
      exec .readQueue s =
        .next (afterCommand .readQueue s ⟨.OK, e1 (k.queued.length + k.fired.length + k.ready.length) ++ e2 bytes.length⟩
          (copied s 6 bytes))) ∧
    (∀ (s : State) (t : KTicket) (p : Place), readReady .nextNew (some .kitchen) s = true → s.kitchen.byRef t.ref = some (p, t) →
      t.unread = true →
      (∀ u ∈ s.kitchen.all, u.unread = true → u = t ∨ t.accepted < u.accepted ∨ (t.accepted = u.accepted ∧ t.seq < u.seq)) →
      exec .nextNew s =
        .next (afterCommand .nextNew s ⟨.OK, e1 t.ref ++ e2 (eKTicket p t).length⟩
          { copied s 7 (eKTicket p t) with kitchen := s.kitchen.modRef t.ref fun u => { u with unread := false } })) ∧
    (∀ s : State, readReady (.readPortions none) (some .kitchen) s = true →
      let bytes := (s.portions.map ePortion).flatten
      exec (.readPortions none) s =
        .next (afterCommand (.readPortions none) s ⟨.OK, e1 s.portions.length ++ e2 bytes.length⟩ (copied s 8 bytes))) ∧
    (∀ s : State, readReady .readStockView (some .till) s = true →
      let bytes := (s.stock.map eStockEntry).flatten
      exec .readStockView s =
        .next (afterCommand .readStockView s ⟨.OK, e1 s.stock.length ++ e2 bytes.length⟩ (copied s 9 bytes)))) ∧
  -- the refusals: nothing changes
  (∀ (s : State) (tab : Nat), findTab s tab = none →
    (readReady (.readTab tab) (some .till) s = true → exec (.readTab tab) s = .next (afterCommand (.readTab tab) s (.bare .NO_TAB) s)) ∧
    (jobReady (.query (own s) tab) .till s = true →
      exec (.query (own s) tab) s = .next (afterCommand (.query (own s) tab) s (.bare .NO_TAB) s)) ∧
    (∀ (f : Frame) (rest : List Frame), requestReady Kind.tabQuery .till f rest s = true → Reader.n2.exact f.payload = some tab →
      exec .tabQueryFrame s = .next (afterRequest s f tab 0 (.bare .NO_TAB) (popped rest s)))) ∧
  (∀ (s : State) (slot : Nat), readReady (.readCapture slot) none s = true →
    (slot ≠ 1 → slot ≠ 2 → exec (.readCapture slot) s = .next (afterCommand (.readCapture slot) s (.bare .BAD_PARAM) s)) ∧
    ((slot = 1 ∧ s.takings.slot1 = none) ∨ (slot = 2 ∧ s.takings.slot2 = none) →
      exec (.readCapture slot) s = .next (afterCommand (.readCapture slot) s (.bare .NO_ENTRY) s))) ∧
  (∀ s : State, readReady .nextNew (some .kitchen) s = true → (∀ t ∈ s.kitchen.all, t.unread = false) →
    exec .nextNew s = .next (afterCommand .nextNew s (.bare .NO_ENTRY) s)) ∧
  (∀ (tab : Nat) (t : Tab),
      let summary : Bytes :=
        e1 t.state.ctorIdx ++ eOpt (fun o => e1 o.ctorIdx) t.outcome ++ eList (fun b => [b]) t.label ++ e1 t.lines.length ++ e4 t.total ++
        match t.split with
        | none => [0#8]
        | some sp => e1 sp.count ++ (sp.shares.map fun sh => e4 sh.amount ++ e1 sh.state.ctorIdx ++ e1 sh.claimant).flatten
      (∀ s : State, jobReady (.query (own s) tab) .till s = true → findTab s tab = some t →
        exec (.query (own s) tab) s = .next (afterCommand (.query (own s) tab) s ⟨.OK, summary⟩ s)) ∧
      (∀ (f : Frame) (rest : List Frame) (s : State), requestReady Kind.tabQuery .till f rest s = true →
        Reader.n2.exact f.payload = some tab → findTab s tab = some t →
        exec .tabQueryFrame s = .next (afterRequest s f tab 0 ⟨.OK, summary⟩ (popped rest s))))

/-! ## Station states -/

/-- Configure with a station number 1..126, a role, rates to 2500, an increment of 1, 5, 10 or 50 and, for a kitchen, prep classes: the
configuration of R136 stands and the station is CONFIGURED; another station number is BAD_STATION and any other of these BAD_PARAM, with
nothing changed and the state OFFLINE as it was (R135). The answer carries every value in force (R136). Its layout, in the command's
order and without presence bytes, is the model's choice (log entry 68), and so is that no lane locks in the event where the lock count
falls to its run (log entry 73). -/
def Obligations.ConfigureTakesItsValues : Prop :=
  (∀ (q : ConfigReq) (s : State), commandTaken (.configure q) s = true → s.station.state = .offline →
    isStation s.station.number = true → (q.roles.getLsbD 0 || q.roles.getLsbD 1) = true →
    q.rates.c0 ≤ 2500 ∧ q.rates.c1 ≤ 2500 ∧ q.rates.c2 ≤ 2500 ∧ q.rates.c3 ≤ 2500 →
    q.rounding = 1 ∨ q.rounding = 5 ∨ q.rounding = 10 ∨ q.rounding = 50 →
    (q.roles.getLsbD 1 = true → membersOf 0 q.prep ≠ []) →
    let c := configured (withoutKitchen q)
    let inForce : Bytes :=
      [eRoles c.till c.kitchen] ++ [eSet 0 c.prep] ++ (e2 c.rates.c0 ++ e2 c.rates.c1 ++ e2 c.rates.c2 ++ e2 c.rates.c3) ++
      e1 c.rounding ++ e2 c.interval ++ e1 c.lockCount ++ e2 c.claimHold ++ e1 c.fireLimit ++ eFlag c.autoFire ++ e1 c.holdMark ++
      e1 c.releaseMark ++ e2 c.warnTime ++ e2 c.lateTime ++ e2 c.collectTimeout
    exec (.configure q) s =
      .next (afterCommand (.configure q) s ⟨if clampedAny (withoutKitchen q) c then .CLAMPED else .OK, inForce⟩
        { s with cfg := c, station := { s.station with state := .configured } })) ∧
  -- the refusals, in the order of R135: nothing changes
  (∀ (q : ConfigReq) (s : State), commandTaken (.configure q) s = true → s.station.state = .offline →
    (isStation s.station.number = false → exec (.configure q) s = .next (afterCommand (.configure q) s (.bare .BAD_STATION) s)) ∧
    (isStation s.station.number = true →
      (q.roles.getLsbD 0 = false ∧ q.roles.getLsbD 1 = false) ∨
        (2500 < q.rates.c0 ∨ 2500 < q.rates.c1 ∨ 2500 < q.rates.c2 ∨ 2500 < q.rates.c3) ∨
        (q.rounding ≠ 1 ∧ q.rounding ≠ 5 ∧ q.rounding ≠ 10 ∧ q.rounding ≠ 50) ∨
        (q.roles.getLsbD 1 = true ∧ membersOf 0 q.prep = []) →
      exec (.configure q) s = .next (afterCommand (.configure q) s (.bare .BAD_PARAM) s)))

/-- The values R136 settles: each given one is taken to the nearer limit of its range, each absent one to its default, and the answer is
CLAMPED exactly when some given value was changed; the roles, the rates and the increment stand as given. Without the KITCHEN role the
set of prep classes is empty, no kitchen parameter is taken, and none plays a part in the result (R135); that the kitchen's values then
stand at their defaults is the model's choice (log entry 68). -/
def Obligations.ConfiguredValuesAreClamped : Prop :=
  ∀ q : ConfigReq,
    let c := configured q
    c.lockCount = (match q.lockCount with | none => 2 | some v => min 4 (max 1 v)) ∧
    c.claimHold = (match q.claimHold with | none => 120 | some v => min 600 (max 30 v)) ∧
    c.fireLimit = (match q.fireLimit with | none => 6 | some v => min 16 (max 1 v)) ∧
    c.holdMark = (match q.holdMark with | none => 24 | some v => min 48 (max 4 v)) ∧
    c.releaseMark = (match q.releaseMark with | none => min 16 (c.holdMark - 1) | some v => min v (c.holdMark - 1)) ∧
    c.warnTime = (match q.warnTime with | none => 480 | some v => min 3600 (max 60 v)) ∧
    c.lateTime = (match q.lateTime with | none => 900 | some v => min 3600 (max 60 v)) ∧
    c.collectTimeout = (match q.collectTimeout with | none => 300 | some v => min 900 (max 30 v)) ∧
    (c.autoFire = true ↔ ∃ v, q.autoFire = some v ∧ 1 ≤ v) ∧
    c.till = q.roles.getLsbD 0 ∧ c.kitchen = q.roles.getLsbD 1 ∧ c.rates = q.rates ∧ c.rounding = q.rounding ∧
    (∀ n, n ∈ c.prep ↔ q.roles.getLsbD 1 = true ∧ n < 8 ∧ q.prep.getLsbD n = true) ∧
    (q.interval = none → c.interval = 500) ∧
    (∀ v, q.interval = some v →
      250 ≤ c.interval ∧ c.interval ≤ 2000 ∧ c.interval % 250 = 0 ∧ (250 ≤ v → v ≤ 2000 → c.interval ≤ v ∧ v < c.interval + 250) ∧
      (v < 250 → c.interval = 250) ∧ (2000 < v → c.interval = 2000)) ∧
    c.releaseMark < c.holdMark ∧
    (clampedAny q c = true ↔
      (∃ v, q.interval = some v ∧ v ≠ c.interval) ∨ (∃ v, q.lockCount = some v ∧ v ≠ c.lockCount) ∨
      (∃ v, q.claimHold = some v ∧ v ≠ c.claimHold) ∨ (∃ v, q.fireLimit = some v ∧ v ≠ c.fireLimit) ∨
      (∃ v, q.autoFire = some v ∧ 1 < v) ∨ (∃ v, q.holdMark = some v ∧ v ≠ c.holdMark) ∨
      (∃ v, q.releaseMark = some v ∧ v ≠ c.releaseMark) ∨ (∃ v, q.warnTime = some v ∧ v ≠ c.warnTime) ∨
      (∃ v, q.lateTime = some v ∧ v ≠ c.lateTime) ∨ (∃ v, q.collectTimeout = some v ∧ v ≠ c.collectTimeout)) ∧
    (q.roles.getLsbD 1 = true → withoutKitchen q = q) ∧
    (q.roles.getLsbD 1 = false →
      configured (withoutKitchen q) =
        { c with
          prep := [], fireLimit := 6, autoFire := false, holdMark := 24, releaseMark := 16, warnTime := 480, lateTime := 900
          collectTimeout := 300 } ∧
      (clampedAny (withoutKitchen q) (configured (withoutKitchen q)) = true ↔
        (∃ v, q.interval = some v ∧ v ≠ c.interval) ∨ (∃ v, q.lockCount = some v ∧ v ≠ c.lockCount) ∨
        (∃ v, q.claimHold = some v ∧ v ≠ c.claimHold)))

/-- Loopback on and off, Join, the end of the join window and the isolation timer (R137 to R140). That either Loopback move also ends what
the cable carried is the model's reading (log entry 63). -/
def Obligations.StationRowsMoveTheState : Prop :=
  (∀ s : State, commandTaken .loopbackOn s = true → s.station.state = .configured →
    ∃ t, exec .loopbackOn s = .next (afterCommand .loopbackOn s (.bare .OK) t) ∧
      t.station = { s.station with state := .loopback } ∧ t.tx.slots = [] ∧ t.rx = [] ∧ t.exch.entries = [] ∧
      t.link.a.carrying = false ∧ t.link.b.carrying = false ∧
      t.link.a.state = .locked ∧ t.link.b.state = .locked ∧ t.link.a.errors = s.link.a.errors ∧ t.link.b.errors = s.link.b.errors ∧
      t.cfg = s.cfg ∧ t.tabs = s.tabs ∧ t.dir = s.dir ∧ t.kitchen = s.kitchen ∧ t.portions = s.portions ∧ t.takings = s.takings) ∧
  (∀ s : State, commandTaken .loopbackOff s = true → s.station.state = .loopback →
    ∃ t, exec .loopbackOff s = .next (afterCommand .loopbackOff s (.bare .OK) t) ∧
      t.station = { s.station with state := .configured } ∧ t.tx.slots = [] ∧ t.rx = [] ∧ t.exch.entries = [] ∧
      t.link.a.carrying = false ∧ t.link.b.carrying = false ∧
      t.link.a.state = .hunt ∧ t.link.b.state = .hunt ∧ t.link.a.errors = s.link.a.errors ∧ t.link.b.errors = s.link.b.errors ∧
      t.link.tagStatus = s.link.tagStatus ∧ t.link.disagree = s.link.disagree ∧
      t.cfg = s.cfg ∧ t.tabs = s.tabs ∧ t.dir = s.dir ∧ t.kitchen = s.kitchen ∧ t.portions = s.portions ∧ t.takings = s.takings) ∧
  (∀ s : State, commandTaken .join s = true → s.station.state = .configured →
    exec .join s =
      .next (afterCommand .join s (.bare .OK)
        { s with station := { s.station with state := .joining, joinWindow := some 4000 } })) ∧
  (∀ s : State, s.station.inReset = false → s.station.state = .joining → s.station.joinWindow.isSome = true →
    exec .joinWindowExpiry s =
      .next (afterEvent s
        (post (.stationState .online none)
          (genBeacon
            { s with
              station :=
                { s.station with
                  state := .online
                  online := 0
                  joinWindow := none
                  isolation :=
                    if s.link.a.state = .locked ∨ s.link.b.state = .locked then none
                    else some (s.station.isolation.getD 1000) } })))) ∧
  (∀ s : State, s.station.inReset = false → s.station.state = .online → s.station.isolation.isSome = true →
    exec .isolationTimerExpiry s =
      .next (afterEvent s
        (post (.stationState .isolated none) { s with station := { s.station with state := .isolated, isolation := none } })))

/-- Whatever happens but a reset, the station state moves only along the moves of the chapter Station States and Joining, the station
number stands, and only a Configure that leaves OFFLINE changes the configuration (R133, R135). -/
def Obligations.StationLifeRules : Prop :=
  (∀ (c : Instr) (s t : State), isReset c = false → exec c s = .next t → stateMoves s.station.state t.station.state = true) ∧
  (∀ (c : Instr) (s t : State), isReset c = false → exec c s = .next t →
      t.station.number = s.station.number ∧ t.station.inReset = s.station.inReset ∧
      (t.cfg ≠ s.cfg → s.station.state = .offline ∧ t.station.state = .configured ∧ ∃ q, c = .configure q))

/-- In DUPLICATE, entered with both queues emptied, every record stands still and nothing is queued, whatever happens but a reset and the
completion of a split in flight (R143, R25). -/
def Obligations.DuplicateFreezesTheRecords : Prop :=
  ∀ (c : Instr) (s t : State), s.station.state = .duplicate → s.rx = [] → s.tx.slots = [] → (s.portions.map (·.item)).Nodup →
    isReset c = false → c ≠ .splitCompletion → exec c s = .next t →
    t.station = s.station ∧ t.rx = [] ∧ t.tx.slots = [] ∧ t.cfg = s.cfg ∧ t.tabs = s.tabs ∧ t.engine = s.engine ∧
    t.claims = s.claims ∧ t.takings = s.takings ∧ t.dir = s.dir ∧ t.beacon = s.beacon ∧ t.router.tickets = s.router.tickets ∧
    t.router.voids = s.router.voids ∧ t.kitchen = s.kitchen ∧ t.portions = s.portions ∧ t.stock = s.stock ∧
    t.exch = s.exch

/-! ## Tabs -/

/-- Open makes an empty OPEN tab under the lowest free number; Release deletes a CLOSED tab no ticket record names (R7, R19). Each is
refused, with nothing changed, by the first of its tests that applies. -/
def Obligations.OpenAndReleaseTabs : Prop :=
  (∀ (label : Bytes) (n : Nat) (s : State), jobReady (.openTab label) .till s = true → s.tabs.length < 64 →
    (label.take 8).all (fun b => decide (32 ≤ b.toNat) && decide (b.toNat ≤ 126)) = true → 1 ≤ n → n ≤ 64 →
    (∀ t ∈ s.tabs, t.number ≠ n) → (∀ m, 1 ≤ m → m < n → ∃ t ∈ s.tabs, t.number = m) →
    exec (.openTab label) s =
      .next (afterCommand (.openTab label) s ⟨if 8 < label.length then .CLAMPED else .OK, e1 (own s) ++ e2 n⟩
        { s with
          tabs :=
            insertBy (·.number) ⟨n, label.take 8, .open, none, min (s.station.clock / 1000) 4294967295, [], ⟨0, 0, 0, 0⟩, 0, none, []⟩
              s.tabs })) ∧
  (∀ (tab : Nat) (t : Tab) (s : State), jobReady (.release tab) .till s = true → findTab s tab = some t → t.state = .closed →
    (∀ k ∈ s.router.tickets, k.tab ≠ tab) →
    exec (.release tab) s =
      .next (afterCommand (.release tab) s (.bare .OK) { s with tabs := s.tabs.filter (·.number != tab) })) ∧
  (∀ (label : Bytes) (s : State), jobReady (.openTab label) .till s = true →
    (64 ≤ s.tabs.length → exec (.openTab label) s = .next (afterCommand (.openTab label) s (.bare .TABS_FULL) s)) ∧
    (s.tabs.length < 64 → (∃ b ∈ label.take 8, b.toNat < 32 ∨ 126 < b.toNat) →
      exec (.openTab label) s = .next (afterCommand (.openTab label) s (.bare .BAD_PARAM) s))) ∧
  (∀ (tab : Nat) (s : State), jobReady (.release tab) .till s = true →
    (findTab s tab = none → exec (.release tab) s = .next (afterCommand (.release tab) s (.bare .NO_TAB) s)) ∧
    (∀ t, findTab s tab = some t →
      (t.state ≠ .closed → exec (.release tab) s = .next (afterCommand (.release tab) s (.bare .STATE) s)) ∧
      (t.state = .closed → (∃ k ∈ s.router.tickets, k.tab = tab) →
        exec (.release tab) s = .next (afterCommand (.release tab) s (.bare .TICKETS_OPEN) s))))

/-- Add appends its lines in order to an OPEN tab, works its total out again and, with the send flag, groups the NEW lines; the frame does
the same with its source as origin (R8, R10, R11). A request that fails a test of R8 changes nothing and is answered with the first
refusal that applies, the sold-out line named by its place; that a send flag beyond 1 is out of range is the model's reading (log entry
28). -/
def Obligations.AddAppendsLines : Prop :=
  ∀ (tab send : Nat) (lines : List LineReq),
    let added := fun (rates : ClassVec) (origin : Nat) (t : Tab) =>
      Tab.recompute rates
        { t with lines := t.lines ++ lines.mapIdx fun i l => lineRecord origin (t.lines.length + i + 1) l }
    let effect := fun (origin : Nat) (t : Tab) (s : State) =>
      let t' := added s.cfg.rates origin t
      let s' := modTab tab (added s.cfg.rates origin) s
      let w : SendWalk := if send = 1 then sendWalk s' t' else ⟨[], s.router.counter, [], false⟩
      ((⟨.OK, e1 (t.lines.length + 1) ++ e1 (t.lines.length + lines.length) ++ e4 t'.total ++ e1 w.joined.length ++
          e1 (if send = 1 then (newLines t').length - w.joined.length else 0)⟩ : Reply),
        if send = 1 then applyWalk tab w s' else s')
    let fits := fun (t : Tab) (s : State) =>
      findTab s tab = some t ∧ t.state = .open ∧ 1 ≤ lines.length ∧ lines.length ≤ 8 ∧ lines.all lineOffered = true ∧ send ≤ 1 ∧
      t.lines.length + lines.length ≤ 48 ∧ lines.all (fun l => !soldOut s l) = true
    (∀ (t : Tab) (s : State), jobReady (.add (own s) tab lines send) .till s = true → fits t s →
      exec (.add (own s) tab lines send) s =
        .next (afterCommand (.add (own s) tab lines send) s (effect (own s) t s).1 (effect (own s) t s).2)) ∧
    (∀ (f : Frame) (rest : List Frame) (t : Tab) (s : State), requestReady Kind.add .till f rest s = true →
      rAdd.exact f.payload = some ⟨tab, send, lines⟩ → fits t (popped rest s) →
      exec .addFrame s =
        .next (afterRequest s f tab 0 (effect f.source t (popped rest s)).1 (effect f.source t (popped rest s)).2)) ∧
    (
      let ranged := 1 ≤ lines.length ∧ lines.length ≤ 8 ∧ send ≤ 1 ∧
        ∀ l ∈ lines, l.item ≤ 4095 ∧ l.price ≤ 50000 ∧ 1 ≤ l.qty ∧ l.qty ≤ 20 ∧ l.tax ≤ 3 ∧ l.prep ≤ 8 ∧ l.rush ≤ 1 ∧
          l.mods.length ≤ 3 ∧ ∀ m ∈ l.mods, m ≤ 4095
      let refused := fun (s : State) (r : Reply) =>
        (findTab s tab = none ∧ r = .bare .NO_TAB) ∨
        ∃ t, findTab s tab = some t ∧
          ((t.state = .splitting ∧ r = .bare .BUSY) ∨ (t.state = .split ∧ r = .bare .TAB_SPLIT) ∨
            (t.state = .closed ∧ r = .bare .TAB_CLOSED) ∨
            (t.state = .open ∧
              ((¬ranged ∧ r = .bare .BAD_PARAM) ∨
                (ranged ∧ 48 < t.lines.length + lines.length ∧ r = .bare .TAB_FULL) ∨
                (ranged ∧ t.lines.length + lines.length ≤ 48 ∧
                  ∃ pre l post, lines = pre ++ l :: post ∧ (∀ x ∈ pre, soldOut s x = false) ∧ soldOut s l = true ∧
                    r = ⟨.SOLD_OUT, e1 (pre.length + 1)⟩))))
      (∀ (r : Reply) (s : State), jobReady (.add (own s) tab lines send) .till s = true → refused s r →
        exec (.add (own s) tab lines send) s = .next (afterCommand (.add (own s) tab lines send) s r s)) ∧
      (∀ (f : Frame) (rest : List Frame) (r : Reply) (s : State), requestReady Kind.add .till f rest s = true →
        rAdd.exact f.payload = some ⟨tab, send, lines⟩ → refused (popped rest s) r →
        exec .addFrame s = .next (afterRequest s f tab 0 r (popped rest s))))

/-- A line is sold out where it needs a kitchen, some kitchen serves its prep class, and each one that does is judged OUT for its item:
a peer by the stock view, this station's own kitchen by an entry with nothing remaining (R9). -/
def Obligations.SoldOutNeedsEveryKitchenOut : Prop :=
  ∀ (s : State) (l : LineReq),
    let peerServes := fun (p : Peer) => p.presence = .present ∧ p.kitchen = true ∧ l.prep ∈ p.prep
    let ownServes := s.cfg.kitchen = true ∧ l.prep ∈ s.cfg.prep
    (∀ p ∈ s.dir.entries, p.station ≠ own s) →
    (soldOut s l = true ↔
      l.prep ≠ 8 ∧ ((∃ p ∈ s.dir.entries, peerServes p) ∨ ownServes) ∧
      (∀ p ∈ s.dir.entries, peerServes p → ∃ e ∈ s.stock, e.item = l.item ∧ e.kitchen = p.station ∧ e.state = .out) ∧
      (ownServes → ∃ p, findPortion s l.item = some p ∧ p.remaining = 0))

/-- Send groups the NEW lines of a tab that is not SPLITTING: the lines joined become PENDING under their ticket numbers, and the new
records join the end of the list (R12). A tab number not held is refused NO_TAB and a SPLITTING tab BUSY, with nothing changed. -/
def Obligations.SendMakesTickets : Prop :=
  (∀ (tab : Nat) (t : Tab) (s : State), jobReady (.send tab) .till s = true → findTab s tab = some t → t.state ≠ .splitting →
    let w := sendWalk s t
    exec (.send tab) s =
      .next (afterCommand (.send tab) s ⟨if w.full then .TICKETS_FULL else .OK, e1 w.joined.length ++ e1 w.made.length⟩
        { s with
          tabs :=
            s.tabs.map fun u =>
              if u.number = tab then
                { u with
                  lines :=
                    u.lines.map fun l =>
                      match w.joined.find? (·.1 == l.number) with
                      | some (_, n) => if l.state = .new then { l with ticket := some n, state := .pending } else l
                      | none => l }
              else u
          router := { s.router with tickets := s.router.tickets ++ w.made.reverse, counter := w.counter } })) ∧
  (∀ (tab : Nat) (s : State), jobReady (.send tab) .till s = true →
    (findTab s tab = none → exec (.send tab) s = .next (afterCommand (.send tab) s (.bare .NO_TAB) s)) ∧
    (∀ t, findTab s tab = some t → t.state = .splitting →
      exec (.send tab) s = .next (afterCommand (.send tab) s (.bare .BUSY) s)))

/-- How a Send's walk groups the NEW lines: line by line, each joins the most recently made group of its prep class and rush flag with
fewer than 8 lines, or makes a ticket under the counter's next number that no record holds, or ends the walk at a full list (R12, R13).
What is made is tickets of 1 to 8 lines under distinct numbers 1..65535, and a line not joined stays NEW. -/
def Obligations.SendWalkGroups : Prop :=
  State.reset.router.counter = 1 ∧
  (∀ (s : State) (t : Tab),
    let w := sendWalk s t
    let news := t.lines.filter fun l => l.state == .new
    (∀ k ∈ w.made, 1 ≤ k.lines.length ∧ k.lines.length ≤ 8 ∧ k.tab = t.number ∧ k.state = .pending ∧ k.attempts = 0 ∧ k.tried = [] ∧
      k.stray = [] ∧
      ∀ n ∈ k.lines, (n, k.number) ∈ w.joined ∧ ∃ l ∈ news, l.number = n ∧ l.prep.getD 0 = k.prep ∧ l.rush = k.rush) ∧
    w.joined.map (·.1) <+: news.map (·.number) ∧
    (w.full = false → w.joined.map (·.1) = news.map (·.number)) ∧
    (w.full = true → 96 ≤ s.router.tickets.length + w.made.length) ∧
    (s.router.tickets.length ≤ 96 → s.router.tickets.length + w.made.length ≤ 96) ∧
    ((s.router.tickets.map (·.number)).Nodup → 1 ≤ s.router.counter → s.router.counter ≤ 65535 →
      ((s.router.tickets ++ w.made).map (·.number)).Nodup ∧ (∀ k ∈ w.made, 1 ≤ k.number ∧ k.number ≤ 65535) ∧
      1 ≤ w.counter ∧ w.counter ≤ 65535)) ∧
  -- no line: no ticket, and no number used; a line that is not NEW is passed over
  (∀ (s : State) (t : Tab), sendWalk s { t with lines := [] } = ⟨[], s.router.counter, [], false⟩) ∧
  (∀ (s : State) (t : Tab) (pre : List Line) (l : Line), l.state ≠ .new →
    sendWalk s { t with lines := pre ++ [l] } = sendWalk s { t with lines := pre }) ∧
  -- one NEW line more
  (∀ (s : State) (t : Tab) (pre : List Line) (l : Line), l.state = .new → 1 ≤ s.router.counter → s.router.counter ≤ 65535 →
    let w := sendWalk s { t with lines := pre }
    let w' := sendWalk s { t with lines := pre ++ [l] }
    let open_ := fun (k : Ticket) => k.prep = l.prep.getD 0 ∧ k.rush = l.rush ∧ k.lines.length < 8
    let held := fun (n : Nat) => ∃ k ∈ s.router.tickets ++ w.made, k.number = n
    let at_ := fun (i : Nat) => (w.counter - 1 + i) % 65535 + 1
    (w.full = true → w' = w) ∧
    (w.full = false →
      -- `made` holds the newest ticket first
      (∀ newer k older, w.made = newer ++ k :: older → open_ k → (∀ x ∈ newer, ¬open_ x) →
        w' =
          { w with
            made := newer ++ { k with lines := k.lines ++ [l.number] } :: older
            joined := w.joined ++ [(l.number, k.number)] }) ∧
      ((∀ x ∈ w.made, ¬open_ x) →
        (96 ≤ s.router.tickets.length + w.made.length → w' = { w with full := true }) ∧
        (s.router.tickets.length + w.made.length < 96 →
          ∃ j, j < 96 ∧ ¬held (at_ j) ∧ (∀ i, i < j → held (at_ i)) ∧
            w' =
              { w with
                made := ⟨at_ j, t.number, l.prep.getD 0, l.rush, [l.number], .pending, 0, [], []⟩ :: w.made
                counter := if at_ j = 65535 then 1 else at_ j + 1
                joined := w.joined ++ [(l.number, at_ j)] })))) ∧
  -- what the walk leaves: the records at the end of the list, the counter moved on, a line not joined as it was
  (∀ (s : State) (t : Tab), findTab s t.number = some t →
    let w := sendWalk s t
    let u := applyWalk t.number w s
    u.router = { s.router with tickets := s.router.tickets ++ w.made.reverse, counter := w.counter } ∧
    ∃ t', findTab u t.number = some t' ∧ t'.lines.length = t.lines.length ∧
      ∀ l ∈ t.lines, (∀ n, (l.number, n) ∉ w.joined) → l ∈ t'.lines)

/-- How a line leaves the charge, or its money is owed back. Line void makes a line of an OPEN tab VOID and answers with the new total;
Tab void does so with every charged line in line order and closes the tab VOIDED (R14 to R16). A kitchen's void of a line is decided by
the tab's state: KVOID in OPEN and SPLITTING, where the split at work goes stale, a withdrawn split, or refunds (R17, R27, R37, R52 to
R54). A Line void that fails a test of R14, or a Tab void one of R16, changes nothing and is answered with the first refusal that
applies. That Tab void of a SPLIT tab returns the lines' sharer sets to absent is the model's choice (log entry 78). -/
def Obligations.VoidsLeaveTheCharge : Prop :=
  (∀ (tab line : Nat) (t : Tab) (l : Line) (s : State), jobReady (.lineVoid (own s) tab line) .till s = true →
    findTab s tab = some t → t.state = .open → t.line line = some l → l.state ≠ .void → l.state ≠ .kvoid → l.state ≠ .refund →
    exec (.lineVoid (own s) tab line) s =
      .next (afterCommand (.lineVoid (own s) tab line) s
        ⟨.OK, e1 line ++ e4 ((t.modLine line fun x => { x with state := .void }).recompute s.cfg.rates).total⟩
        (countLineVoided (voidLine tab line s)))) ∧
  (∀ (tab line : Nat) (t : Tab) (l : Line) (f : Frame) (rest : List Frame) (s : State),
    requestReady Kind.lineVoid .till f rest s = true → rTabByte.exact f.payload = some (tab, line) →
    findTab s tab = some t → t.state = .open → t.line line = some l → l.state ≠ .void → l.state ≠ .kvoid → l.state ≠ .refund →
    exec .lineVoidFrame s =
      .next (afterFrame s (voidLine tab line
        (sendAnswer f.source Kind.lineVoid f.tag tab 0
          ⟨.OK, e1 line ++ e4 ((t.modLine line fun x => { x with state := .void }).recompute s.cfg.rates).total⟩
          (popped rest s))))) ∧
  (∀ (tab : Nat) (t : Tab) (s : State), jobReady (.tabVoid tab) .till s = true → findTab s tab = some t →
    (t.state = .open ∨ (t.state = .split ∧ ∃ sp, t.split = some sp ∧ ∀ sh ∈ sp.shares, sh.state = .available)) →
    let charged := (t.lines.filter fun l => l.state != .void && l.state != .kvoid).map (·.number)
    let voided := charged.foldl (fun u n => countLineVoided (voidLine tab n u)) (modTab tab Tab.withdrawSplit s)
    exec (.tabVoid tab) s =
      .next (afterCommand (.tabVoid tab) s ⟨.OK, e1 charged.length⟩
        (post (.tabClosed (own voided) tab .voided)
          (countTabClosed (modTab tab (fun u => { u with state := .closed, outcome := some .voided }) voided))))) ∧
  -- a kitchen's void of a line, by the state of its tab
  (∀ (tab line : Nat) (t : Tab) (l : Line) (s : State), findTab s tab = some t → t.line line = some l →
    let final := l.state = .void ∨ l.state = .kvoid ∨ l.state = .refund
    let kvoided := modTab tab fun u => (u.modLine line fun x => { x with state := .kvoid }).recompute s.cfg.rates
    (final → tabKitchenVoid tab line s = s) ∧
    (¬final → t.state = .open → tabKitchenVoid tab line s = kvoided s) ∧
    (¬final → t.state = .splitting →
      tabKitchenVoid tab line s =
        { kvoided s with engine := s.engine.map fun j => if j.tab = tab then { j with stale := true } else j }) ∧
    (¬final → ∀ sp, t.split = some sp →
      let sharers := (shareNumbers sp.count).filter fun n =>
        match l.sharers with
        | none => true
        | some set => set.contains n
      let refunds := sharers.map fun n =>
        let paid := (sp.share n).bind (·.settlement)
        (⟨l.number, n, sp.alloc l.number n + (sp.alloc l.number n * s.cfg.rates.get l.tax + 5000) / 10000, paid.isSome,
          match paid with
          | some p => p.tender
          | none => .none,
          match paid with
          | some p => p.station
          | none => 0⟩ : Refund)
      (t.state = .closed ∨ (t.state = .split ∧ ∃ sh ∈ sp.shares, sh.state = .settled) →
        tabKitchenVoid tab line s =
          post (.refundDue (own s) tab l.number refunds.length (refunds.map (·.amount)).sum)
            (modTab tab (fun u =>
              { u with
                lines := mapIf (·.number == l.number) (fun x => { x with state := .refund }) u.lines
                refunds := u.refunds ++ refunds }) s)) ∧
      (t.state = .split → (∀ sh ∈ sp.shares, sh.state ≠ .settled) →
        let told := (sp.shares.filter (·.state == .claimed)).foldl
          (fun u sh =>
            if sh.claimant = own u then post (.claimEnded (own u) tab sh.number .cancelled) u
            else (sendFrame ⟨Kind.claimEnd, sh.claimant, 0, e2 tab ++ e1 sh.number ++ e1 1⟩ u).2) s
        let reopened := modTab tab (fun u =>
          { u with split := none, state := .open, lines := u.lines.map fun x => { x with sharers := none } }) told
        tabKitchenVoid tab line s =
          post (.splitWithdrawn (own s) tab line ((t.modLine line fun x => { x with state := .kvoid }).recompute s.cfg.rates).total)
            (kvoided reopened))) ∧
    (t.split = none → t.state = .split ∨ t.state = .closed → tabKitchenVoid tab line s = s)) ∧
  (∀ (tab line : Nat) (s : State), (∀ t, findTab s tab = some t → t.line line = none) → tabKitchenVoid tab line s = s) ∧
  -- the refusals
  (∀ tab line : Nat,
    let refused := fun (s : State) (r : Reply) =>
      (findTab s tab = none ∧ r = .bare .NO_TAB) ∨
      ∃ t, findTab s tab = some t ∧
        ((t.state = .splitting ∧ r = .bare .BUSY) ∨ (t.state = .split ∧ r = .bare .TAB_SPLIT) ∨
          (t.state = .closed ∧ r = .bare .TAB_CLOSED) ∨
          (t.state = .open ∧ (∀ l, t.line line = some l → l.state = .void ∨ l.state = .kvoid ∨ l.state = .refund) ∧
            r = .bare .BAD_LINE))
    (∀ (r : Reply) (s : State), jobReady (.lineVoid (own s) tab line) .till s = true → refused s r →
      exec (.lineVoid (own s) tab line) s = .next (afterCommand (.lineVoid (own s) tab line) s r s)) ∧
    (∀ (f : Frame) (rest : List Frame) (r : Reply) (s : State), requestReady Kind.lineVoid .till f rest s = true →
      rTabByte.exact f.payload = some (tab, line) → refused (popped rest s) r →
      exec .lineVoidFrame s = .next (afterRequest s f tab 0 r (popped rest s)))) ∧
  (∀ (tab : Nat) (r : Reply) (s : State), jobReady (.tabVoid tab) .till s = true →
    (findTab s tab = none ∧ r = .bare .NO_TAB) ∨
      (∃ t, findTab s tab = some t ∧
        ((t.state = .splitting ∧ r = .bare .BUSY) ∨ (t.state = .closed ∧ r = .bare .TAB_CLOSED) ∨
          (t.state = .split ∧ ∃ sp, t.split = some sp ∧
            (((∃ sh ∈ sp.shares, sh.state = .settled) ∧ r = .bare .SETTLED) ∨
              ((∀ sh ∈ sp.shares, sh.state ≠ .settled) ∧ (∃ sh ∈ sp.shares, sh.state = .claimed) ∧ r = .bare .CLAIMED))))) →
    exec (.tabVoid tab) s = .next (afterCommand (.tabVoid tab) s r s))

/-- How a void deals with the line's ticket, by the state the line was in just before (R15); how a void request waits, is handed over or
ends BUSY (R90), a hand-off's outcome posted after the kitchen's own effects, by the model's choice (log entry 72), as is one request for
each line a Tab void takes from a ticket at the own kitchen (log entry 76); and when a record goes (R78; log entry 15). -/
def Obligations.VoidDealsWithTheTicket : Prop :=
  -- a void request to a peer joins an unsent TILL entry, takes an entry of its own, or ends BUSY; to this station's own kitchen it is
  -- handed at once
  (∀ (e : VoidEntry) (s : State),
    let same := fun (x : VoidEntry) => x.kitchen = e.kitchen ∧ x.ticket = e.ticket ∧ x.purpose = .till
    let queue := fun (l : List VoidEntry) => ({ s with router := { s.router with voids := l } } : State)
    let kitchen := kitchenTicketVoid ownReport (own s) e.ticket e.lines s
    (e.kitchen = own s → requestVoid ownVoid e s = voidEnd e kitchen.1 kitchen.2) ∧
    (e.kitchen ≠ own s → e.purpose = .till → e.lines.Nodup → ∀ before x after, s.router.voids = before ++ x :: after → same x →
      (∀ y ∈ before ++ after, ¬same y) →
      requestVoid ownVoid e s =
        queue (before ++ { x with lines := x.lines ++ e.lines.filter fun n => !x.lines.contains n } :: after)) ∧
    (e.kitchen ≠ own s → e.purpose = .stray ∨ (∀ y ∈ s.router.voids, ¬same y) →
      (s.router.voids.length < 16 → requestVoid ownVoid e s = queue (s.router.voids ++ [e])) ∧
      (16 ≤ s.router.voids.length → requestVoid ownVoid e s = voidEnd e (.failed Result.BUSY.code) s))) ∧
  -- a record whose every listed line has ended goes, but not while an offer of it is out
  (∀ (n : Nat) (s : State),
    (findTicket s n = none → pruneTicket n s = s) ∧
    ∀ k, findTicket s n = some k →
      let waits := (∃ kitchen, k.state = .offered kitchen) ∨ ∃ m ∈ k.lines, ∃ st, lineState s k.tab m = some st ∧ st.ended = false
      (waits → pruneTicket n s = s) ∧
      (¬waits →
        pruneTicket n s = { s with router := { s.router with tickets := s.router.tickets.filter (·.number != n) } })) ∧
  ∀ (tab line : Nat) (t : Tab) (l : Line) (s : State), findTab s tab = some t → t.line line = some l → l.state.final = false →
    let voided := modTab tab (fun u => (u.modLine line fun x => { x with state := .void }).recompute s.cfg.rates) s
    (l.ticket.bind (findTicket s) = none → voidLine tab line s = voided) ∧
    (l.state = .new ∨ l.state = .handed ∨ l.state = .lost ∨ l.state = .collected ∨ l.state = .uncollected →
      voidLine tab line s = voided) ∧
    (∀ k, l.ticket.bind (findTicket s) = some k →
      (l.state = .pending → k.isOffered = true → voidLine tab line s = voided) ∧
      ((l.state = .pending ∧ k.isOffered = false) ∨ l.state = .unrouted →
        voidLine tab line s =
          pruneTicket k.number (modTicket k.number (fun r => { r with lines := r.lines.filter (· != line) }) voided)) ∧
      (∀ place ks, l.state = .queued ∨ l.state = .fired → k.state = .placed place ks →
        voidLine tab line s = pruneTicket k.number (requestVoid ownVoid ⟨place, k.number, k.tab, [line], .till⟩ voided)) ∧
      (l.state = .ready → voidLine tab line s = pruneTicket k.number voided))

/-- In every step a line that is VOID, KVOID or REFUND stays so while its tab is held (R5). -/
def Obligations.FinalLinesStay : Prop :=
  ∀ (s t : State) (tab line : Nat) (st : LineState), step s = .next t → lineState s tab line = some st → st.final = true →
    findTab t tab = none ∨ lineState t tab line = some st

/-- Every step keeps line numbers as places and each tab's class bases and total as its charged lines give them (R4, R6). -/
def Obligations.StepKeepsTabsCurrent : Prop :=
  ∀ s t : State, TabsCurrent s → KeysDistinct s → step s = .next t → TabsCurrent t

/-! ## Splitting -/

/-- Split on an OPEN tab with charged lines, an idle engine and a list that names charged lines once each with sharers among 1..N: the
tab is SPLITTING and the engine holds its lines; by command it answers STARTED, by frame nothing yet (R23 to R25). Withdraw takes a
split with every share AVAILABLE away (R34, R35). A request that fails a test of R24, or of R34, changes nothing and is answered with the
first refusal that applies, a failing entry of the list named by its place. -/
def Obligations.SplitAndWithdraw : Prop :=
  (∀ (tab count : Nat) (entries : List SplitEntry) (t : Tab),
      let fits := fun (s : State) =>
        findTab s tab = some t ∧ t.state = .open ∧ 1 ≤ count ∧ count ≤ 8 ∧ entries.length ≤ 48 ∧ s.engine = none ∧
        (∃ l ∈ t.lines, l.state.charged = true) ∧ (entries.map (·.line)).Nodup ∧
        ∀ e ∈ entries, (∃ l, t.line e.line = some l ∧ l.state.charged = true) ∧ membersOf 1 e.sharers ≠ [] ∧
          ∀ n ∈ membersOf 1 e.sharers, n ≤ count
      let input := (t.lines.filter fun l => l.state.charged).map fun l =>
        (match entries.find? (fun e => e.line == l.number) with
        | some e => ⟨l.number, l.price * l.qty, l.tax, membersOf 1 e.sharers, true⟩
        | none => ⟨l.number, l.price * l.qty, l.tax, (List.range count).map (· + 1), false⟩ : EngineLine)
      let started := fun (r : Requester) (s : State) =>
        modTab tab (fun u => { u with state := .splitting }) { s with engine := some ⟨t.number, r, false, count, input⟩ }
      (∀ s : State, jobReady (.split (own s) tab count entries) .till s = true → fits s →
        exec (.split (own s) tab count entries) s =
          .next (afterCommand (.split (own s) tab count entries) s (.bare .STARTED) (started .local s))) ∧
      (∀ (f : Frame) (rest : List Frame) (s : State), requestReady Kind.split .till f rest s = true →
        rSplit.exact f.payload = some ⟨tab, count, entries⟩ → fits s →
        exec .splitFrame s = .next (afterFrame s (started (.remote f.source f.tag) (popped rest s))))) ∧
  (∀ (tab : Nat) (t : Tab) (sp : SplitRec),
      let fits := fun (s : State) =>
        findTab s tab = some t ∧ t.state = .split ∧ t.split = some sp ∧ ∀ sh ∈ sp.shares, sh.state = .available
      let reopened := modTab tab fun u =>
        { u with split := none, state := .open, lines := u.lines.map fun l => { l with sharers := none } }
      (∀ s : State, jobReady (.withdraw (own s) tab) .till s = true → fits s →
        exec (.withdraw (own s) tab) s = .next (afterCommand (.withdraw (own s) tab) s ⟨.OK, e2 tab⟩ (reopened s))) ∧
      (∀ (f : Frame) (rest : List Frame) (s : State), requestReady Kind.withdraw .till f rest s = true →
        Reader.n2.exact f.payload = some tab → fits s →
        exec .withdrawFrame s = .next (afterRequest s f tab 0 (.bare .OK) (reopened (popped rest s))))) ∧
  (∀ (tab count : Nat) (entries : List SplitEntry),
      let badLine := fun (t : Tab) (before : List SplitEntry) (e : SplitEntry) =>
        (∀ l, t.line e.line = some l → l.state.charged = false) ∨ ∃ x ∈ before, x.line = e.line
      let badShare := fun (e : SplitEntry) => membersOf 1 e.sharers = [] ∨ ∃ n ∈ membersOf 1 e.sharers, count < n
      let sound := fun (t : Tab) (list : List SplitEntry) =>
        ∀ before e after, list = before ++ e :: after → ¬badLine t before e ∧ ¬badShare e
      let ranged := 1 ≤ count ∧ count ≤ 8 ∧ entries.length ≤ 48
      let refused := fun (s : State) (r : Reply) =>
        (findTab s tab = none ∧ r = .bare .NO_TAB) ∨
        ∃ t, findTab s tab = some t ∧
          ((t.state = .splitting ∧ r = .bare .BUSY) ∨ (t.state = .split ∧ r = .bare .TAB_SPLIT) ∨
            (t.state = .closed ∧ r = .bare .TAB_CLOSED) ∨ (t.state = .open ∧ ¬ranged ∧ r = .bare .BAD_PARAM) ∨
            (t.state = .open ∧ ranged ∧ (∀ l ∈ t.lines, l.state.charged = false) ∧ r = .bare .NO_LINES) ∨
            (t.state = .open ∧ ranged ∧ (∃ l ∈ t.lines, l.state.charged = true) ∧
              ((∃ before e after, entries = before ++ e :: after ∧ sound t before ∧
                  ((badLine t before e ∧ r = ⟨.BAD_LINE, e1 (before.length + 1)⟩) ∨
                    (¬badLine t before e ∧ badShare e ∧ r = ⟨.BAD_SHARE, e1 (before.length + 1)⟩))) ∨
                (sound t entries ∧ s.engine.isSome = true ∧ r = .bare .BUSY))))
      (∀ (r : Reply) (s : State), jobReady (.split (own s) tab count entries) .till s = true → refused s r →
        exec (.split (own s) tab count entries) s = .next (afterCommand (.split (own s) tab count entries) s r s)) ∧
      (∀ (f : Frame) (rest : List Frame) (r : Reply) (s : State), requestReady Kind.split .till f rest s = true →
        rSplit.exact f.payload = some ⟨tab, count, entries⟩ → refused (popped rest s) r →
        exec .splitFrame s = .next (afterRequest s f tab 0 r (popped rest s)))) ∧
  (∀ tab : Nat,
      let refused := fun (s : State) (r : Reply) =>
        (findTab s tab = none ∧ r = .bare .NO_TAB) ∨
        ∃ t, findTab s tab = some t ∧
          ((t.state = .open ∧ r = .bare .STATE) ∨ (t.state = .splitting ∧ r = .bare .BUSY) ∨
            (t.state = .closed ∧ r = .bare .TAB_CLOSED) ∨
            (t.state = .split ∧ ∃ sp, t.split = some sp ∧
              (((∃ sh ∈ sp.shares, sh.state = .settled) ∧ r = .bare .SETTLED) ∨
                ((∀ sh ∈ sp.shares, sh.state ≠ .settled) ∧ (∃ sh ∈ sp.shares, sh.state = .claimed) ∧ r = .bare .CLAIMED))))
      (∀ (r : Reply) (s : State), jobReady (.withdraw (own s) tab) .till s = true → refused s r →
        exec (.withdraw (own s) tab) s = .next (afterCommand (.withdraw (own s) tab) s r s)) ∧
      (∀ (f : Frame) (rest : List Frame) (r : Reply) (s : State), requestReady Kind.withdraw .till f rest s = true →
        Reader.n2.exact f.payload = some tab → refused (popped rest s) r →
        exec .withdrawFrame s = .next (afterRequest s f tab 0 r (popped rest s))))

/-- The completion: the strike, with the close of a split whose every share is zero, or REDO for a stale one; told by notice to the home
and by ANSWER to a peer (R31 to R33). That the ANSWER's shares follow N without a count byte is the model's reading (log entry 29), and that
the completion may come at any moment while the engine computes is its choice (log entry 64). In DUPLICATE it is made all the same, and
a peer's ANSWER is not sent (R25, R143). -/
def Obligations.SplitCompletionStrikes : Prop :=
  ∀ (j : EngineJob) (s : State), s.station.inReset = false → s.engine = some j →
    let sp := struckSplit (own s) s.cfg.rates j
    let struck := modTab j.tab (fun t =>
      { t with
        state := .split
        split := some sp
        lines :=
          t.lines.map fun l =>
            match j.input.find? fun e => e.line == l.number && e.named with
            | some e => { l with sharers := some e.sharers }
            | none => l }) { s with engine := none }
    let zero := ∀ sh ∈ sp.shares, sh.state = .settled
    let data : TabState → Bytes := fun st =>
      e1 sp.count ++ e4 sp.total ++ (sp.shares.map fun sh => e4 sh.amount ++ eFlag (sh.state == .settled)).flatten ++ e1 st.ctorIdx
    let shown := sp.shares.map fun sh => (sh.amount, sh.state == .settled)
    let closed := post (.tabClosed (own s) j.tab .paid)
      (countTabClosed (modTab j.tab (fun t => { t with state := .closed, outcome := some .paid }) struck))
    let reopened := modTab j.tab (fun t =>
      { t with split := none, state := .open, lines := t.lines.map fun l => { l with sharers := none } }) { s with engine := none }
    (j.stale = false → ¬zero → j.requester = .local →
      exec .splitCompletion s = .next (afterEvent s (post (.splitStruck j.tab sp.count sp.total shown .split) struck))) ∧
    (j.stale = false → zero → j.requester = .local →
      exec .splitCompletion s = .next (afterEvent s (post (.splitStruck j.tab sp.count sp.total shown .closed) closed))) ∧
    (∀ k tag, j.stale = false → ¬zero → j.requester = .remote k tag → s.station.state ≠ .duplicate →
      exec .splitCompletion s = .next (afterEvent s (sendAnswer k Kind.split tag j.tab 0 ⟨.OK, data .split⟩ struck))) ∧
    (∀ k tag, j.stale = false → zero → j.requester = .remote k tag → s.station.state ≠ .duplicate →
      exec .splitCompletion s = .next (afterEvent s (sendAnswer k Kind.split tag j.tab 0 ⟨.OK, data .closed⟩ closed))) ∧
    (j.stale = true → j.requester = .local →
      exec .splitCompletion s = .next (afterEvent s (post (.splitRedo (own s) j.tab) reopened))) ∧
    (∀ k tag, j.stale = true → j.requester = .remote k tag → s.station.state ≠ .duplicate →
      exec .splitCompletion s = .next (afterEvent s (sendAnswer k Kind.split tag j.tab 0 (.bare .REDO) reopened))) ∧
    (∀ k tag, j.requester = .remote k tag → s.station.state = .duplicate →
      (j.stale = false → ¬zero → exec .splitCompletion s = .next (afterEvent s struck)) ∧
      (j.stale = false → zero → exec .splitCompletion s = .next (afterEvent s closed)) ∧
      (j.stale = true → exec .splitCompletion s = .next (afterEvent s reopened)))

/-- The two divisions of the split engine lose nothing: a line's allocations sum to its amount, no two members differ by more than a
unit, and the larger go to the lower numbers (R28); a class tax's allocations sum to the tax, each its exact part rounded down or one
more, the units left over going to the largest remainders and of equal ones to the lower share, and are 0 where no share has a base
(R30). -/
def Obligations.DivisionsLoseNothing : Prop :=
  (∀ (amount count : Nat) (sharers : List Nat), sharers ≠ [] → sharers.Nodup → (∀ n ∈ sharers, 1 ≤ n ∧ n ≤ count) →
    ((shareNumbers count).map (allocation amount sharers)).sum = amount ∧
    (∀ n, n ∉ sharers → allocation amount sharers n = 0) ∧
    (∀ n ∈ sharers, allocation amount sharers n = amount / sharers.length ∨
      allocation amount sharers n = amount / sharers.length + 1) ∧
    (∀ m ∈ sharers, ∀ n ∈ sharers, m < n → allocation amount sharers n ≤ allocation amount sharers m)) ∧
  (∀ (x : Nat) (bases : List Nat), 0 < bases.sum →
    (taxAllocation x bases.sum bases).sum = x ∧ (taxAllocation x bases.sum bases).length = bases.length ∧
    ∀ i, i < bases.length →
      (taxAllocation x bases.sum bases).getD i 0 = x * bases.getD i 0 / bases.sum ∨
      ((taxAllocation x bases.sum bases).getD i 0 = x * bases.getD i 0 / bases.sum + 1 ∧
        0 < x * bases.getD i 0 % bases.sum)) ∧
  -- the units left over go to the largest remainders, and of equal ones to the lower share number
  (∀ (x i j : Nat) (bases : List Nat), 0 < bases.sum → i < bases.length → j < bases.length →
    let part := fun (k : Nat) => x * bases.getD k 0 / bases.sum
    let remainder := fun (k : Nat) => x * bases.getD k 0 % bases.sum
    let tax := fun (k : Nat) => (taxAllocation x bases.sum bases).getD k 0
    tax i = part i + 1 → tax j = part j → remainder j < remainder i ∨ (remainder j = remainder i ∧ i < j)) ∧
  (∀ (x : Nat) (bases : List Nat), taxAllocation x 0 bases = bases.map fun _ => 0)

/-- The share amounts of a struck split sum to its total, and its total is what the tab's lines and taxes come to; each share's bases are
its lines' allocations by class, its taxes its part of each class tax, and its amount their sum; a share of 0 is settled with tender
NONE (R28 to R32). -/
def Obligations.SharesSumToTheTotal : Prop :=
  ∀ (home : Nat) (rates : ClassVec) (j : EngineJob), j.valid →
    ((struckSplit home rates j).shares.map (·.amount)).sum = (struckSplit home rates j).total ∧
    (struckSplit home rates j).total =
      (ClassVec.ofFn fun c =>
        let base := ((j.input.filter (·.tax == c)).map (·.amount)).sum
        base + (base * rates.get c + 5000) / 10000).sum ∧
    (struckSplit home rates j).shares.map (·.number) = (List.range j.count).map (· + 1) ∧
    (struckSplit home rates j).count = j.count ∧
    (struckSplit home rates j).allocs =
      j.input.map (fun l => ⟨l.line, (List.range j.count).map fun i => allocation l.amount l.sharers (i + 1)⟩) ∧
    ∀ sh ∈ (struckSplit home rates j).shares,
      let base := fun (c n : Nat) => ((j.input.filter (·.tax == c)).map fun l => allocation l.amount l.sharers n).sum
      let tax := fun (c n : Nat) =>
        let bases := (List.range j.count).map fun i => base c (i + 1)
        (taxAllocation ((bases.sum * rates.get c + 5000) / 10000) bases.sum bases).getD (n - 1) 0
      let n := sh.number
      sh.bases = ⟨base 0 n, base 1 n, base 2 n, base 3 n⟩ ∧ sh.taxes = ⟨tax 0 n, tax 1 n, tax 2 n, tax 3 n⟩ ∧
      sh.amount = base 0 n + base 1 n + base 2 n + base 3 n + (tax 0 n + tax 1 n + tax 2 n + tax 3 n) ∧
      sh.sound ∧ (sh.amount = 0 ↔ sh.state = .settled) ∧ (sh.amount = 0 → sh.settlement = some ⟨.none, 0, home⟩)

/-- Every step keeps every split adding up, every share's fields to its state, and the engine at work on the one SPLITTING tab. -/
def Obligations.StepKeepsSplitsSound : Prop :=
  ∀ s t : State, SplitsSound s → step s = .next t → SplitsSound t

/-! ## Claims, settlement and takings -/

/-- A Claim of a share that is AVAILABLE, or CLAIMED by the same station, is granted: the share is the claimant's, its hold timer runs the
configured time, and the answer carries the amount (R39, R40); Release share by the claimant gives it back (R42). A request that fails a
test of R40, or of R42, changes nothing and is answered with the first outcome that applies, HELD_BY with the claimant's number. -/
def Obligations.ClaimAndReleaseShare : Prop :=
  (∀ (tab share : Nat) (t : Tab) (sp : SplitRec) (sh : Share),
      let fits := fun (k : Nat) (s : State) =>
        findTab s tab = some t ∧ t.state = .split ∧ t.split = some sp ∧ sp.share share = some sh ∧
        (sh.state = .available ∨ (sh.state = .claimed ∧ sh.claimant = k))
      let granted := fun (k : Nat) (s : State) =>
        modShare tab share (fun x => { x with state := .claimed, claimant := k, hold := some (s.cfg.claimHold * 1000) }) s
      (∀ s : State, jobReady (.claim (own s) tab share) .till s = true → fits (own s) s →
        exec (.claim (own s) tab share) s =
          .next (afterCommand (.claim (own s) tab share) s ⟨.GRANTED, e2 tab ++ e1 share ++ e4 sh.amount⟩ (granted (own s) s))) ∧
      (∀ (f : Frame) (rest : List Frame) (s : State), requestReady Kind.claim .till f rest s = true →
        rTabByte.exact f.payload = some (tab, share) → fits f.source s →
        exec .claimFrame s = .next (afterRequest s f tab share ⟨.GRANTED, e4 sh.amount⟩ (granted f.source (popped rest s))))) ∧
  (∀ (tab share : Nat) (t : Tab) (sp : SplitRec) (sh : Share),
      let fits := fun (k : Nat) (s : State) =>
        findTab s tab = some t ∧ t.state = .split ∧ t.split = some sp ∧ sp.share share = some sh ∧ sh.state = .claimed ∧
        sh.claimant = k
      let freed := modShare tab share fun x => { x with state := .available, claimant := 0, hold := none }
      (∀ s : State, jobReady (.releaseShare (own s) tab share) .till s = true → fits (own s) s →
        exec (.releaseShare (own s) tab share) s =
          .next (afterCommand (.releaseShare (own s) tab share) s (.bare .OK) (freed s))) ∧
      (∀ (f : Frame) (rest : List Frame) (s : State), requestReady Kind.release .till f rest s = true →
        rTabByte.exact f.payload = some (tab, share) → fits f.source s →
        exec .releaseFrame s = .next (afterRequest s f tab share (.bare .OK) (freed (popped rest s))))) ∧
  (∀ tab share : Nat,
      let refused := fun (k : Nat) (s : State) (r : Reply) =>
        (findTab s tab = none ∧ r = .bare .NO_TAB) ∨
        ∃ t, findTab s tab = some t ∧
          ((t.state = .splitting ∧ r = .bare .BUSY) ∨ (t.state = .open ∧ r = .bare .STATE) ∨
            (t.state = .closed ∧ r = .bare .TAB_CLOSED) ∨
            (t.state = .split ∧ ∃ sp, t.split = some sp ∧
              ((sp.share share = none ∧ r = .bare .BAD_SHARE) ∨
                ∃ sh, sp.share share = some sh ∧
                  ((sh.state = .settled ∧ r = .bare .SETTLED) ∨
                    (sh.state = .claimed ∧ sh.claimant ≠ k ∧ r = ⟨.HELD_BY, e1 sh.claimant⟩)))))
      (∀ (r : Reply) (s : State), jobReady (.claim (own s) tab share) .till s = true → refused (own s) s r →
        exec (.claim (own s) tab share) s = .next (afterCommand (.claim (own s) tab share) s r s)) ∧
      (∀ (f : Frame) (rest : List Frame) (r : Reply) (s : State), requestReady Kind.claim .till f rest s = true →
        rTabByte.exact f.payload = some (tab, share) → refused f.source (popped rest s) r →
        exec .claimFrame s = .next (afterRequest s f tab share r (popped rest s)))) ∧
  (∀ tab share : Nat,
      let refused := fun (k : Nat) (s : State) (r : Reply) =>
        (findTab s tab = none ∧ r = .bare .NO_TAB) ∨
        ∃ t, findTab s tab = some t ∧
          ((t.state = .splitting ∧ r = .bare .BUSY) ∨
            (t.state = .open ∨ (t.state = .closed ∧ t.split = none)) ∧ r = .bare .CLAIM_LOST ∨
            ((t.state = .split ∨ t.state = .closed) ∧ ∃ sp, t.split = some sp ∧
              ((sp.share share = none ∧ r = .bare .BAD_SHARE) ∨
                ∃ sh, sp.share share = some sh ∧
                  ((sh.state = .available ∧ r = .bare .CLAIM_LOST) ∨
                    (sh.state = .claimed ∧ sh.claimant ≠ k ∧ r = .bare .NOT_CLAIMANT) ∨
                    (sh.state = .settled ∧ r = .bare .SETTLED)))))
      (∀ (r : Reply) (s : State), jobReady (.releaseShare (own s) tab share) .till s = true → refused (own s) s r →
        exec (.releaseShare (own s) tab share) s = .next (afterCommand (.releaseShare (own s) tab share) s r s)) ∧
      (∀ (f : Frame) (rest : List Frame) (r : Reply) (s : State), requestReady Kind.release .till f rest s = true →
        rTabByte.exact f.payload = some (tab, share) → refused f.source (popped rest s) r →
        exec .releaseFrame s = .next (afterRequest s f tab share r (popped rest s))))

/-- Cash is rounded to the increment, an exact half upwards, with a difference within half of it; card and voucher are exact (R36). -/
def Obligations.CashRoundsToTheIncrement : Prop :=
  ∀ g amount : Nat, g = 1 ∨ g = 5 ∨ g = 10 ∨ g = 50 →
    let d : Int := (tenderedAmount g .cash amount : Int) - (amount : Int)
    tenderedAmount g .cash amount % g = 0 ∧ -(((g - 1) / 2 : Nat) : Int) ≤ d ∧ d ≤ ((g / 2 : Nat) : Int) ∧
    (2 * (amount % g) ≥ g → tenderedAmount g .cash amount = amount - amount % g + g) ∧
    (2 * (amount % g) < g → tenderedAmount g .cash amount = amount - amount % g) ∧ (g = 1 → d = 0) ∧
    tenderedAmount g .card amount = amount ∧ tenderedAmount g .voucher amount = amount

/-- A Settle by the claimant with CASH, CARD or VOUCHER settles the share for its whole amount; the home counts it when it is itself the
settling station, and closes the tab PAID with its last share (R41, R43, R55). A request that fails a test of R41 changes nothing and is
answered with the first refusal that applies; a Settle repeated by the station that settled the share is answered OK with the values
recorded at the first, and changes nothing. What the takings unit counts: the settlement, its amount and its rounding difference under
the tender, a voided line and a closed tab, each accumulator stopping at the end of its range with its SATURATED flag set (R55); that a
rounding sum so stopped holds against a difference of the other sign is the model's reading (log entry 16). -/
def Obligations.SettleTakesTheMoney : Prop :=
  (∀ (tab share code : Nat) (tender : Tender) (t : Tab) (sp : SplitRec) (sh : Share), Tender.ofCode code = some tender →
    let fits := fun (k : Nat) (s : State) =>
      findTab s tab = some t ∧ t.state = .split ∧ t.split = some sp ∧ sp.share share = some sh ∧ sh.state = .claimed ∧
      sh.claimant = k
    let taken := fun (s : State) => tenderedAmount s.cfg.rounding tender sh.amount
    let diff := fun (s : State) => (taken s : Int) - (sh.amount : Int)
    let settled := fun (k : Nat) (s : State) =>
      modShare tab share (fun x =>
        { x with state := .settled, claimant := 0, hold := none, settlement := some ⟨tender, taken s, k⟩ }) s
    let last := ∀ x ∈ sp.shares, x.number = share ∨ x.state = .settled
    let closed := fun (u : State) =>
      post (.tabClosed (own u) tab .paid)
        (countTabClosed (modTab tab (fun v => { v with state := .closed, outcome := some .paid }) u))
    let data := fun (s : State) => e4 sh.amount ++ e1 code ++ e4 (taken s) ++ es4 (diff s)
    (∀ s : State, jobReady (.settle (own s) tab share code) .till s = true → fits (own s) s →
      let u := countSettlement tender (taken s) (diff s) (settled (own s) s)
      let reply : Reply := ⟨.OK, e2 tab ++ e1 share ++ data s⟩
      (¬last → exec (.settle (own s) tab share code) s = .next (afterCommand (.settle (own s) tab share code) s reply u)) ∧
      (last → exec (.settle (own s) tab share code) s =
        .next (afterCommand (.settle (own s) tab share code) s reply (closed u)))) ∧
    (∀ (f : Frame) (rest : List Frame) (s : State), requestReady Kind.settle .till f rest s = true →
      rTabShareByte.exact f.payload = some (tab, share, code) → f.source ≠ own s → fits f.source s →
      let u := sendAnswer f.source Kind.settle f.tag tab share ⟨.OK, data s⟩ (settled f.source (popped rest s))
      (¬last → exec .settleFrame s = .next (afterFrame s u)) ∧ (last → exec .settleFrame s = .next (afterFrame s (closed u))))) ∧
  (∀ tab share code : Nat,
      let refused := fun (k : Nat) (s : State) (r : Reply) =>
        (findTab s tab = none ∧ r = .bare .NO_TAB) ∨
        ∃ t, findTab s tab = some t ∧
          ((t.state = .splitting ∧ r = .bare .BUSY) ∨
            (t.state = .open ∨ (t.state = .closed ∧ t.split = none)) ∧ r = .bare .CLAIM_LOST ∨
            ((t.state = .split ∨ t.state = .closed) ∧ ∃ sp, t.split = some sp ∧
              ((sp.share share = none ∧ r = .bare .BAD_SHARE) ∨
                ∃ sh, sp.share share = some sh ∧
                  ((3 ≤ code ∧ r = .bare .BAD_PARAM) ∨
                    (code < 3 ∧ sh.state = .available ∧ r = .bare .CLAIM_LOST) ∨
                    (code < 3 ∧ sh.state = .claimed ∧ sh.claimant ≠ k ∧ r = .bare .NOT_CLAIMANT) ∨
                    (code < 3 ∧ sh.state = .settled ∧ (∀ p, sh.settlement = some p → p.station ≠ k) ∧ r = .bare .SETTLED)))))
      -- the share is SETTLED by the requester, as `p` records
      let repeated := fun (k : Nat) (sh : Share) (p : Settlement) (s : State) =>
        code < 3 ∧ ∃ t, findTab s tab = some t ∧ (t.state = .split ∨ t.state = .closed) ∧
          ∃ sp, t.split = some sp ∧ sp.share share = some sh ∧ sh.state = .settled ∧ sh.settlement = some p ∧ p.station = k
      let recorded := fun (sh : Share) (p : Settlement) =>
        e4 sh.amount ++ e1 p.tender.ctorIdx ++ e4 p.tendered ++ es4 ((p.tendered : Int) - (sh.amount : Int))
      (∀ (r : Reply) (s : State), jobReady (.settle (own s) tab share code) .till s = true → refused (own s) s r →
        exec (.settle (own s) tab share code) s = .next (afterCommand (.settle (own s) tab share code) s r s)) ∧
      (∀ (f : Frame) (rest : List Frame) (r : Reply) (s : State), requestReady Kind.settle .till f rest s = true →
        rTabShareByte.exact f.payload = some (tab, share, code) → refused f.source (popped rest s) r →
        exec .settleFrame s = .next (afterRequest s f tab share r (popped rest s))) ∧
      (∀ (sh : Share) (p : Settlement) (s : State), jobReady (.settle (own s) tab share code) .till s = true →
        repeated (own s) sh p s →
        exec (.settle (own s) tab share code) s =
          .next (afterCommand (.settle (own s) tab share code) s ⟨.OK, e2 tab ++ e1 share ++ recorded sh p⟩ s)) ∧
      (∀ (f : Frame) (rest : List Frame) (sh : Share) (p : Settlement) (s : State), requestReady Kind.settle .till f rest s = true →
        rTabShareByte.exact f.payload = some (tab, share, code) → repeated f.source sh p (popped rest s) →
        exec .settleFrame s = .next (afterRequest s f tab share ⟨.OK, recorded sh p⟩ (popped rest s)))) ∧
  -- the figures of the accumulators
  (
    let gain := fun (d : Nat) (a : Acc) =>
      if a.saturated then a
      else if a.value + d < 4294967295 then (⟨a.value + d, false⟩ : Acc) else ⟨4294967295, true⟩
    let gainSigned := fun (d : Int) (a : SignedAcc) =>
      if a.saturated then a
      else if 2147483647 ≤ a.value + d then (⟨2147483647, true⟩ : SignedAcc)
      else if a.value + d ≤ -2147483647 then ⟨-2147483647, true⟩
      else ⟨a.value + d, false⟩
    ∀ (tendered : Nat) (diff : Int) (s : State),
      let a := s.takings.accums
      let counted := fun (b : Accums) => ({ s with takings := { s.takings with accums := b } } : State)
      countSettlement .cash tendered diff s =
        counted { a with
          cashCount := gain 1 a.cashCount, cashAmount := gain tendered a.cashAmount, rounding := gainSigned diff a.rounding } ∧
      countSettlement .card tendered diff s =
        counted { a with
          cardCount := gain 1 a.cardCount, cardAmount := gain tendered a.cardAmount, rounding := gainSigned diff a.rounding } ∧
      countSettlement .voucher tendered diff s =
        counted { a with
          voucherCount := gain 1 a.voucherCount, voucherAmount := gain tendered a.voucherAmount
          rounding := gainSigned diff a.rounding } ∧
      countLineVoided s = counted { a with linesVoided := gain 1 a.linesVoided } ∧
      countTabClosed s = counted { a with tabsClosed := gain 1 a.tabsClosed })

/-- How a claim ends without its holder asking: the home's hold timer, CLAIM-END at the claimant by the state of its entry, and the
claimant's local expiry likewise (R39, R49, R50). A CLAIM-END with an undefined reason is discarded (R179). -/
def Obligations.ClaimsEnd : Prop :=
  (∀ (tab share : Nat) (sh : Share) (s : State), s.station.inReset = false → s.station.state ≠ .duplicate →
    findShare s tab share = some sh → sh.state = .claimed → sh.hold.isSome = true →
    let freed := modShare tab share (fun x => { x with state := .available, claimant := 0, hold := none }) s
    (sh.claimant = own s →
      exec (.holdTimerExpiry tab share) s = .next (afterEvent s (post (.claimEnded (own s) tab share .expired) freed))) ∧
    (sh.claimant ≠ own s →
      exec (.holdTimerExpiry tab share) s =
        .next (afterEvent s (sendFrame ⟨Kind.claimEnd, sh.claimant, 0, e2 tab ++ e1 share ++ e1 0⟩ freed).2))) ∧
  (∀ (f : Frame) (rest : List Frame) (tab share code : Nat) (reason : EndReason) (s : State),
    requestReady Kind.claimEnd .till f rest s = true → rTabShareByte.exact f.payload = some (tab, share, code) →
    (code = 0 ∧ reason = .expired) ∨ (code = 1 ∧ reason = .cancelled) →
    let u := popped rest s
    (findClaim s f.source tab share = none → exec .claimEndFrame s = .next (afterFrame s u)) ∧
    (∀ e, findClaim s f.source tab share = some e →
      (e.state = .held ∨ e.state = .releasing →
        exec .claimEndFrame s =
          .next (afterFrame s (post (.claimEnded f.source tab share reason)
            { u with claims := u.claims.filter fun x => !(x.home == f.source && x.tab == tab && x.share == share) }))) ∧
      (e.state = .settling →
        exec .claimEndFrame s =
          .next (afterFrame s (modClaim f.source tab share (fun x => { x with state := .ended, reason := some reason }) u))) ∧
      (e.state = .ended → exec .claimEndFrame s = .next (afterFrame s u)))) ∧
  (∀ (f : Frame) (rest : List Frame) (tab share code : Nat) (s : State), frameReady Kind.claimEnd f rest s = true →
    rTabShareByte.exact f.payload = some (tab, share, code) → 1 < code →
    exec .claimEndFrame s = .next (afterFrame s (popped rest s))) ∧
  (∀ (home tab share : Nat) (e : ClaimEntry) (s : State), s.station.inReset = false → s.station.state ≠ .duplicate →
    findClaim s home tab share = some e → e.expiry.isSome = true →
    (e.state = .held ∨ e.state = .releasing →
      exec (.localExpiry home tab share) s =
        .next (afterEvent s (post (.claimLost home tab share)
          { s with claims := s.claims.filter fun x => !(x.home == home && x.tab == tab && x.share == share) }))) ∧
    (e.state = .settling →
      exec (.localExpiry home tab share) s =
        .next (afterEvent s
          (modClaim home tab share (fun x => { x with state := .ended, reason := some .expired, expiry := none }) s))) ∧
    (e.state = .ended →
      exec (.localExpiry home tab share) s =
        .next (afterEvent s (modClaim home tab share (fun x => { x with expiry := none }) s))))

/-- A local advance, by Mark period or the PERIOD pin: the number rises by one and stays at 99, PERIOD is broadcast, and the accumulators go
to the first FREE slot and start again from zero, or the capture is deferred; the pin then locks out for 2000 ms; Release capture frees a
slot, and is refused NO_ENTRY for a FREE one and BAD_PARAM for another number (R56, R58 to R60). That the answer gives the slot as a field
that may be absent is the model's reading (log entry 32). -/
def Obligations.PeriodsAdvanceAndCapture : Prop :=
  let advanced := fun (s : State) =>
    let next := min (s.takings.period + 1) 99
    let sent := (sendFrame ⟨Kind.period, 127, 0, e1 next⟩ { s with takings := { s.takings with period := next } }).2
    let record : Capture := ⟨s.takings.spanStart, s.takings.period, s.takings.deferral, s.takings.accums⟩
    let fresh : Takings := { sent.takings with accums := Accums.zero, spanStart := next, deferral := false }
    ((if s.takings.slot1 = none then
        (some 1, post (.periodCapture 1 record.first record.last record.deferred)
          { sent with takings := { fresh with slot1 := some record } })
      else if s.takings.slot2 = none then
        (some 2, post (.periodCapture 2 record.first record.last record.deferred)
          { sent with takings := { fresh with slot2 := some record } })
      else (none, post (.captureDeferred s.takings.period) { sent with takings := { sent.takings with deferral := true } })) :
      Option Nat × State)
  (∀ s : State, commandTaken .markPeriod s = true → inService s = true →
    exec .markPeriod s =
      .next (afterCommand .markPeriod s ⟨.OK, e1 (min (s.takings.period + 1) 99) ++ eOpt e1 (advanced s).1⟩ (advanced s).2)) ∧
  (∀ s : State, s.station.inReset = false → inService s = true → s.takings.lockout = none →
    let u := (advanced s).2
    exec .periodPinEdge s = .next (afterEvent s { u with takings := { u.takings with lockout := some 2000 } })) ∧
  (∀ s : State, s.station.inReset = false → inService s = false ∨ s.takings.lockout.isSome = true →
    exec .periodPinEdge s = .next (afterEvent s s)) ∧
  (∀ s : State, s.station.inReset = false → s.station.state ≠ .duplicate →
    exec .periodLockoutExpiry s = .next (afterEvent s { s with takings := { s.takings with lockout := none } })) ∧
  (∀ (slot : Nat) (s : State), readReady (.releaseCapture slot) none s = true →
    (slot = 1 → s.takings.slot1.isSome = true →
      exec (.releaseCapture slot) s =
        .next (afterCommand (.releaseCapture slot) s (.bare .OK) { s with takings := { s.takings with slot1 := none } })) ∧
    (slot = 2 → s.takings.slot2.isSome = true →
      exec (.releaseCapture slot) s =
        .next (afterCommand (.releaseCapture slot) s (.bare .OK) { s with takings := { s.takings with slot2 := none } })) ∧
    ((slot = 1 ∧ s.takings.slot1 = none) ∨ (slot = 2 ∧ s.takings.slot2 = none) →
      exec (.releaseCapture slot) s = .next (afterCommand (.releaseCapture slot) s (.bare .NO_ENTRY) s)) ∧
    (slot ≠ 1 → slot ≠ 2 → exec (.releaseCapture slot) s = .next (afterCommand (.releaseCapture slot) s (.bare .BAD_PARAM) s)))

/-! ## Requests, exchanges and frames -/

/-- A command for a tab homed at a PRESENT or unknown peer, a Refresh of a ticket placed there, and Test: ONLINE, with an entry free and
room in the transmit queue, each opens its exchange and answers STARTED. Test asks any other station number, LOST or not, and in LOOPBACK
any number, its own among them. The tag is the first from the counter's on that no entry holds, and a request of class 1 or 2 without room
takes the place of a class-3 frame. In ISOLATED such a command is refused LINK_DOWN, with the home LOST HOME_LOST and the kitchen of a
Refresh LOST KITCHEN_LOST, by the claims list BUSY, NOT_CLAIMANT or BAD_PARAM, with the exchange table full BUSY, and by the transmit queue
LINK_BUSY; Test is refused BAD_PARAM for a long payload, for no station's number and, but in LOOPBACK, for its own. Nothing changes but the
tag that LINK_BUSY uses up (R11, R35, R45, R92, R166, R170). That a home which is no station number is BAD_PARAM, ahead of the others, is
the model's reading (log entry 11). An Add or Split is sent as laid out whatever its length, past 200 bytes too: the model's reading (log
entry 47). -/
def Obligations.RemoteRequestsStart : Prop :=
  -- the tag drawn: the counter's, or the first after it that no entry holds
  let drawn := fun (s : State) (c : Nat) =>
    let tag := fun (i : Nat) => if i = 0 then s.exch.counter else (s.exch.counter + i) % 256
    ∃ i, i < 8 ∧ c = tag i ∧ (∀ e ∈ s.exch.entries, e.tag ≠ c) ∧ ∀ j, j < i → ∃ e ∈ s.exch.entries, e.tag = tag j
  let free := fun (s : State) (c : Nat) => s.exch.entries.length < 8 ∧ drawn s c
  -- room for a frame of class 1 to 3, or, for one of class 1 or 2, a class-3 frame to evict
  let room := fun (s : State) => s.tx.slots.length < 24 ∧ lowCount s.tx.slots < 20
  let evicts := fun (s : State) => ∃ x ∈ s.tx.slots, kindClass x.frame.kind = 3 ∧ x.onWire = false
  let started := fun (kind dest subject share : Nat) (owner : Owner) (payload : Bytes) (c : Nat) (s : State) =>
    let f : OutFrame := ⟨kind, dest, c, payload⟩
    let next : State := { s with exch := { s.exch with counter := (c + 1) % 256 } }
    let sent : State :=
      if s.tx.slots.length < 24 ∧ lowCount s.tx.slots < 20 then
        { next with tx := { s.tx with slots := s.tx.slots ++ [⟨f, 0, 0, false, false⟩] } }
      else (sendFrame f next).2
    ({ sent with
      exch := { sent.exch with entries := s.exch.entries ++ [⟨c, kind, dest, subject, share, owner, some 300⟩] } } : State)
  let elsewhere := fun (home : Nat) (s : State) =>
    isStation home = true ∧ home ≠ own s ∧ s.station.state = .online ∧ isLost s home = false
  -- a transmit queue that refuses the frame: full for classes 1 to 3, and for classes 1 and 2 with no class-3 frame to evict
  let crowded := fun (s : State) => 24 ≤ s.tx.slots.length ∨ 20 ≤ lowCount s.tx.slots
  let noneToEvict := fun (s : State) => ∀ x ∈ s.tx.slots, ¬(kindClass x.frame.kind = 3 ∧ x.onWire = false)
  let tagUsed := fun (c : Nat) (s : State) => ({ s with exch := { s.exch with counter := (c + 1) % 256 } } : State)
  (∀ (dest : Nat) (payload : Bytes) (c : Nat) (s : State), free s c → room s →
    commandTaken (.test dest payload) s = true → payload.length ≤ 32 →
    isStation dest = true → s.station.state = .loopback ∨ (s.station.state = .online ∧ dest ≠ own s) →
    exec (.test dest payload) s =
      .next (afterCommand (.test dest payload) s (.bare .STARTED) (started Kind.test dest 0 0 .command payload c s))) ∧
  (∀ (home tab c : Nat) (s : State), free s c → room s ∨ evicts s → elsewhere home s →
    (∀ lines send, jobReady (.add home tab lines send) .till s = true →
      exec (.add home tab lines send) s =
        .next (afterCommand (.add home tab lines send) s (.bare .STARTED)
          (started Kind.add home tab 0 .command (eAddPayload tab send lines) c s))) ∧
    (∀ line, jobReady (.lineVoid home tab line) .till s = true →
      exec (.lineVoid home tab line) s =
        .next (afterCommand (.lineVoid home tab line) s (.bare .STARTED)
          (started Kind.lineVoid home tab 0 .command (e2 tab ++ e1 line) c s))) ∧
    (jobReady (.query home tab) .till s = true →
      exec (.query home tab) s =
        .next (afterCommand (.query home tab) s (.bare .STARTED) (started Kind.tabQuery home tab 0 .command (e2 tab) c s))) ∧
    (∀ count entries, jobReady (.split home tab count entries) .till s = true →
      exec (.split home tab count entries) s =
        .next (afterCommand (.split home tab count entries) s (.bare .STARTED)
          (started Kind.split home tab 0 .command (eSplitPayload tab count entries) c s))) ∧
    (jobReady (.withdraw home tab) .till s = true →
      exec (.withdraw home tab) s =
        .next (afterCommand (.withdraw home tab) s (.bare .STARTED) (started Kind.withdraw home tab 0 .command (e2 tab) c s))) ∧
    (∀ share, jobReady (.claim home tab share) .till s = true → claimTests home tab share s = none →
      exec (.claim home tab share) s =
        .next (afterCommand (.claim home tab share) s (.bare .STARTED)
          (started Kind.claim home tab share .claims (e2 tab ++ e1 share) c s))) ∧
    (∀ share tender e, jobReady (.settle home tab share tender) .till s = true → findClaim s home tab share = some e →
      e.state = .held → tender < 3 →
      exec (.settle home tab share tender) s =
        .next (afterCommand (.settle home tab share tender) s (.bare .STARTED)
          (modClaim home tab share (fun x => { x with state := .settling })
            (started Kind.settle home tab share .claims (e2 tab ++ e1 share ++ e1 tender) c s)))) ∧
    (∀ share e, jobReady (.releaseShare home tab share) .till s = true → findClaim s home tab share = some e → e.state = .held →
      exec (.releaseShare home tab share) s =
        .next (afterCommand (.releaseShare home tab share) s (.bare .STARTED)
          (modClaim home tab share (fun x => { x with state := .releasing })
            (started Kind.release home tab share .claims (e2 tab ++ e1 share) c s)))) ∧
    (∀ ticket r ks, jobReady (.refresh ticket) .till s = true → findTicket s ticket = some r → r.state = .placed home ks →
      exec (.refresh ticket) s =
        .next (afterCommand (.refresh ticket) s (.bare .STARTED) (started Kind.ticketQuery home ticket 0 .command (e2 ticket) c s)))) ∧
  -- the tests on the way: a home that is no station, ISOLATED, a LOST home, the claims list, a full exchange table, the scheduler
  (∀ (c : Instr) (home tab : Nat) (s : State), jobReady c .till s = true → home ≠ own s →
    (∃ lines send, c = .add home tab lines send) ∨ (∃ line, c = .lineVoid home tab line) ∨ c = .query home tab ∨
      (∃ count entries, c = .split home tab count entries) ∨ c = .withdraw home tab ∨ (∃ share, c = .claim home tab share) ∨
      (∃ share tender, c = .settle home tab share tender) ∨ (∃ share, c = .releaseShare home tab share) →
    (isStation home = false → exec c s = .next (afterCommand c s (.bare .BAD_PARAM) s)) ∧
    (isStation home = true → s.station.state = .isolated → exec c s = .next (afterCommand c s (.bare .LINK_DOWN) s)) ∧
    (isStation home = true → s.station.state = .online → isLost s home = true →
      exec c s = .next (afterCommand c s (.bare .HOME_LOST) s)) ∧
    (elsewhere home s →
      (∀ share, c = .claim home tab share → claimTests home tab share s = none) →
      (∀ share tender, c = .settle home tab share tender → tender < 3 ∧ ∃ e, findClaim s home tab share = some e ∧ e.state = .held) →
      (∀ share, c = .releaseShare home tab share → ∃ e, findClaim s home tab share = some e ∧ e.state = .held) →
      (8 ≤ s.exch.entries.length → exec c s = .next (afterCommand c s (.bare .BUSY) s)) ∧
      (∀ tag, free s tag → crowded s → noneToEvict s → exec c s = .next (afterCommand c s (.bare .LINK_BUSY) (tagUsed tag s))))) ∧
  -- Test, and Refresh of a ticket at a peer
  (∀ (dest : Nat) (payload : Bytes) (s : State), commandTaken (.test dest payload) s = true →
    s.station.state = .loopback ∨ inService s = true →
    let refused := fun (r : Result) (u : State) => exec (.test dest payload) s = .next (afterCommand (.test dest payload) s (.bare r) u)
    let other := dest ≠ own s ∨ s.station.state = .loopback
    (32 < payload.length ∨ isStation dest = false → refused .BAD_PARAM s) ∧
    (payload.length ≤ 32 → isStation dest = true →
      (¬other → refused .BAD_PARAM s) ∧
      (other → s.station.state = .isolated → refused .LINK_DOWN s) ∧
      (other → s.station.state ≠ .isolated → 8 ≤ s.exch.entries.length → refused .BUSY s) ∧
      (∀ tag, other → s.station.state ≠ .isolated → free s tag → crowded s → refused .LINK_BUSY (tagUsed tag s)))) ∧
  (∀ (ticket kitchen : Nat) (t : Ticket) (ks : KState) (s : State), jobReady (.refresh ticket) .till s = true →
    findTicket s ticket = some t → t.state = .placed kitchen ks → kitchen ≠ own s →
    let refused := fun (r : Result) (u : State) => exec (.refresh ticket) s = .next (afterCommand (.refresh ticket) s (.bare r) u)
    (s.station.state = .isolated → refused .LINK_DOWN s) ∧
    (s.station.state = .online → isLost s kitchen = true → refused .KITCHEN_LOST s) ∧
    (s.station.state = .online → isLost s kitchen = false →
      (8 ≤ s.exch.entries.length → refused .BUSY s) ∧
      (∀ tag, free s tag → crowded s → noneToEvict s → refused .LINK_BUSY (tagUsed tag s)))) ∧
  (∀ (home tab share : Nat) (s : State), elsewhere home s →
    let asked := (s.exch.entries.filter fun x => x.kind == Kind.claim && (findClaim s x.dest x.subject x.share).isNone).length
    let claim : Instr := .claim home tab share
    let release : Instr := .releaseShare home tab share
    (jobReady claim .till s = true →
      (findClaim s home tab share = none → 8 ≤ s.claims.length + asked →
        exec claim s = .next (afterCommand claim s (.bare .BUSY) s)) ∧
      (∀ e, findClaim s home tab share = some e → e.state ≠ .held → exec claim s = .next (afterCommand claim s (.bare .BUSY) s))) ∧
    (jobReady release .till s = true →
      (findClaim s home tab share = none → exec release s = .next (afterCommand release s (.bare .NOT_CLAIMANT) s)) ∧
      (∀ e, findClaim s home tab share = some e → e.state ≠ .held →
        exec release s = .next (afterCommand release s (.bare .BUSY) s))) ∧
    (∀ tender : Nat, jobReady (.settle home tab share tender) .till s = true →
      let settle : Instr := .settle home tab share tender
      (findClaim s home tab share = none → exec settle s = .next (afterCommand settle s (.bare .NOT_CLAIMANT) s)) ∧
      (∀ e, findClaim s home tab share = some e →
        (e.state ≠ .held → exec settle s = .next (afterCommand settle s (.bare .BUSY) s)) ∧
        (e.state = .held → 3 ≤ tender → exec settle s = .next (afterCommand settle s (.bare .BAD_PARAM) s)))))

/-- The exchange machinery's rows: a TEST frame is echoed; an ANSWER that matches a live entry frees it and hands its outcome to the
owner, and one that matches none is late; a timeout frees the entry and hands NO_ANSWER (R167 to R170). What each owner does with its
outcome: a local command's notice, an offer's placement or failure (R83 to R86), a void request's end (R91); and what a late answer does
(R86, R169). The depth recorded above 48 (log entry 56), the cause for a line an OK leaves out (log entry 58), the free result of a
mixed stray void (log entry 31), an OK data that is no list of results (log entry 33), the late answers of a station without the TILL
role (log entry 45), the state codes beyond READY and VOID in a Refresh's answer, which change no state and make no line VOID (log entry
59), and a line's result beyond those of R91 (log entry 65) are the model's. A TEST of more than 32 bytes is answered BAD_PARAM with no
echo (R179). A request at a station without the role its kind needs is answered NOT_SERVED with its subject alone, and a TICKET-STATE,
STOCK or CLAIM-END without the TILL role is discarded (R163); out of service every request is. An ANSWER that echoes no request's kind is
discarded (log entry 36). -/
def Obligations.ExchangesEnd : Prop :=
  (∀ (f : Frame) (rest : List Frame) (s : State), frameReady Kind.test f rest s = true → testable s = true → f.payload.length ≤ 32 →
    exec .testFrame s = .next (afterFrame s (sendAnswer f.source Kind.test f.tag 0 0 ⟨.OK, f.payload⟩ (popped rest s)))) ∧
  (∀ (f : Frame) (rest : List Frame) (s : State), frameReady Kind.test f rest s = true → testable s = true → 32 < f.payload.length →
    exec .testFrame s = .next (afterFrame s (sendAnswer f.source Kind.test f.tag 0 0 (.bare .BAD_PARAM) (popped rest s)))) ∧
  -- the kinds whose role is absent, or that nothing takes
  (∀ row ∈ [(Kind.add, Instr.addFrame, Role.till, false), (Kind.lineVoid, .lineVoidFrame, .till, false),
      (Kind.tabQuery, .tabQueryFrame, .till, false), (Kind.split, .splitFrame, .till, false), (Kind.withdraw, .withdrawFrame, .till, false),
      (Kind.claim, .claimFrame, .till, true), (Kind.settle, .settleFrame, .till, true), (Kind.release, .releaseFrame, .till, true),
      (Kind.ticket, .ticketFrame, .kitchen, false), (Kind.ticketVoid, .ticketVoidFrame, .kitchen, false),
      (Kind.ticketQuery, .ticketQueryFrame, .kitchen, false)],
    ∀ (f : Frame) (rest : List Frame) (a b : Byte) (tail : Bytes) (s : State), frameReady row.1 f rest s = true →
      f.payload = a :: b :: tail →
      let share := if row.2.2.2 then (tail.headD 0#8).toNat else 0
      (inService s = true → hasRole s row.2.2.1 = false →
        exec row.2.1 s = .next (afterRequest s f (a.toNat * 256 + b.toNat) share (.bare .NOT_SERVED) (popped rest s))) ∧
      (inService s = false → exec row.2.1 s = .next (afterFrame s (popped rest s)))) ∧
  (∀ row ∈ [(Kind.ticketState, Instr.ticketStateFrame), (Kind.stock, .stockFrame), (Kind.claimEnd, .claimEndFrame)],
    ∀ (f : Frame) (rest : List Frame) (s : State), frameReady row.1 f rest s = true → hasRole s .till = false →
      exec row.2 s = .next (afterFrame s (popped rest s))) ∧
  (∀ (f : Frame) (rest : List Frame) (s : State), testable s = false →
    (frameReady Kind.test f rest s = true → exec .testFrame s = .next (afterFrame s (popped rest s))) ∧
    (frameReady Kind.answer f rest s = true → exec .answerFrame s = .next (afterFrame s (popped rest s)))) ∧
  (∀ (f : Frame) (rest : List Frame) (a : AnswerRec) (s : State), frameReady Kind.answer f rest s = true →
    parseAnswer f.source f.payload = some a → isRequest a.kind = false →
    (∀ e ∈ s.exch.entries,
      ¬(e.dest = a.source ∧ e.tag = a.tag ∧ e.kind = a.kind ∧ e.subject = a.subject ∧ e.share = a.share)) →
    exec .answerFrame s = .next (afterFrame s (popped rest s))) ∧
  (∀ (f : Frame) (rest : List Frame) (a : AnswerRec) (e : ExchEntry) (before after : List ExchEntry) (s : State),
    frameReady Kind.answer f rest s = true → testable s = true → parseAnswer f.source f.payload = some a →
    s.exch.entries = before ++ e :: after →
    (e.dest = a.source ∧ e.tag = a.tag ∧ e.kind = a.kind ∧ e.subject = a.subject ∧ e.share = a.share) →
    (∀ x ∈ before ++ after, x.tag ≠ e.tag) →
    exec .answerFrame s =
      .next (afterFrame s (handOutcome e a
        { popped rest s with exch := { s.exch with entries := before ++ after } }))) ∧
  (∀ (f : Frame) (rest : List Frame) (a : AnswerRec) (s : State),
    frameReady Kind.answer f rest s = true → testable s = true → parseAnswer f.source f.payload = some a →
    isRequest a.kind = true →
    (∀ e ∈ s.exch.entries,
      ¬(e.dest = a.source ∧ e.tag = a.tag ∧ e.kind = a.kind ∧ e.subject = a.subject ∧ e.share = a.share)) →
    (a.kind ≠ Kind.ticket →
      exec .answerFrame s = .next (afterFrame s (post (.lateAnswer a) (lateEffect a (popped rest s))))) ∧
    (a.kind = Kind.ticket → exec .answerFrame s = .next (afterFrame s (lateEffect a (popped rest s))))) ∧
  (∀ (e : ExchEntry) (before after : List ExchEntry) (s : State), s.station.inReset = false → s.station.state ≠ .duplicate →
    s.exch.entries = before ++ e :: after → (∀ x ∈ before ++ after, x.tag ≠ e.tag) → e.timer.isSome = true →
    exec (.exchangeTimeout e.tag) s =
      .next (afterEvent s (handOutcome e ⟨e.dest, e.kind, e.tag, e.subject, e.share, Result.NO_ANSWER.code, []⟩
        { s with exch := { s.exch with entries := before ++ after } }))) ∧
  -- the owner is a local command: its notice, with a Line void counted and a Refresh applied
  (∀ (e : ExchEntry) (a : AnswerRec) (s : State), e.owner = .command →
    (a.kind = Kind.add → handOutcome e a s = post (.addResult a) s) ∧
    (a.kind = Kind.lineVoid →
      handOutcome e a s = post (.lineVoidResult a) (if a.result = Result.OK.code then countLineVoided s else s)) ∧
    (a.kind = Kind.tabQuery → handOutcome e a s = post (.queryResult a) s) ∧
    (a.kind = Kind.split → handOutcome e a s = post (.splitResult a) s) ∧
    (a.kind = Kind.withdraw → handOutcome e a s = post (.withdrawResult a) s) ∧
    (a.kind = Kind.test → handOutcome e a s = post (.testResult a) s) ∧
    (a.kind = Kind.ticketQuery →
      (∀ place position depth lines, a.result = Result.OK.code → rQueryAnswer.exact a.data = some (place, position, depth, lines) →
        handOutcome e a s =
          post (.refreshResult a)
            (applyView a.subject a.source place ((lines.filter fun l => l.2 == 1).map (·.1)) s)) ∧
      (∀ t ks, a.result = Result.UNKNOWN.code → findTicket s a.subject = some t → t.state = .placed a.source ks →
        handOutcome e a s = post (.refreshResult a) (endTicket t .lost s)) ∧
      (a.result = Result.UNKNOWN.code → (∀ t ks, findTicket s a.subject = some t → t.state ≠ .placed a.source ks) →
        handOutcome e a s = post (.refreshResult a) s) ∧
      (a.result ≠ Result.OK.code → a.result ≠ Result.UNKNOWN.code → handOutcome e a s = post (.refreshResult a) s))) ∧
  -- the owner is the router's offer: an ACCEPT, by the record, or a failure
  (∀ (e : ExchEntry) (a : AnswerRec) (s : State), e.owner = .offer →
    (∀ position depth, a.result = Result.ACCEPT.code → rAccept.exact a.data = some (position, depth) →
      handOutcome e a s = takeAccept ownVoid a.subject a.source depth s) ∧
    (a.result ≠ Result.ACCEPT.code → handOutcome e a s = failOffer a.subject a.source s)) ∧
  (∀ (n k depth : Nat) (s : State),
    let heard := recordDepth k depth s
    (findTicket s n = none →
      takeAccept ownVoid n k depth s = requestVoid ownVoid ⟨k, n, 0, [], .stray⟩ s ∧
      takeLateAccept ownVoid n k depth s = requestVoid ownVoid ⟨k, n, 0, [], .stray⟩ s) ∧
    ∀ t, findTicket s n = some t →
      (t.state = .offered k → takeAccept ownVoid n k depth s = placeTicket ownVoid t k (some depth) false s) ∧
      (∀ ks, t.state = .placed k ks → takeAccept ownVoid n k depth s = heard ∧ takeLateAccept ownVoid n k depth s = heard) ∧
      (t.state ≠ .offered k → (∀ ks, t.state ≠ .placed k ks) → takeAccept ownVoid n k depth s = strayVoid ownVoid t k s) ∧
      (∀ k' ks, t.state = .placed k' ks → k' ≠ k → takeLateAccept ownVoid n k depth s = strayVoid ownVoid t k s) ∧
      ((∀ k' ks, t.state ≠ .placed k' ks) →
        takeLateAccept ownVoid n k depth s = placeTicket ownVoid t k (some depth) true s)) ∧
  -- a placement: the record, its lines, the load figures, and the VOID lines asked for: those listed, or all that bear the number
  (∀ (t : Ticket) (k : Nat) (depth : Option Nat) (late : Bool) (s : State),
    let figures := fun (l : KitchenLoad) =>
      { l with
        depth := match depth with
          | some d => min d 48
          | none => l.depth
        placed := min (l.placed + 1) 255 }
    let placed := modPeer k (fun p => { p with load := p.load.map figures })
      (modTab t.tab (fun u =>
        { u with
          lines :=
            mapIf (fun l => t.lines.contains l.number && (l.state == .pending || l.state == .unrouted))
              (fun l => { l with state := .queued }) u.lines })
        (modTicket t.number (fun r => { r with state := .placed k .queued }) s))
    let asked :=
      match findTab s t.tab with
      | none => []
      | some u =>
        (u.lines.filter fun l => l.state == .void && (if late then l.ticket == some t.number else t.lines.contains l.number)).map
          (·.number)
    (asked = [] → placeTicket ownVoid t k depth late s = pruneTicket t.number placed) ∧
    (asked ≠ [] →
      placeTicket ownVoid t k depth late s =
        pruneTicket t.number (requestVoid ownVoid ⟨k, t.number, t.tab, asked, .till⟩ placed))) ∧
  -- a failed offer
  (∀ (n k : Nat) (s : State),
    ((∀ t, findTicket s n = some t → t.state ≠ .offered k) → failOffer n k s = s) ∧
    ∀ t, findTicket s n = some t → t.state = .offered k →
      let left := t.lines.filter fun l =>
        match lineState s t.tab l with
        | some st => !st.ended
        | none => false
      let t' : Ticket := { t with state := .pending, tried := if k ∈ t.tried then t.tried else t.tried ++ [k], lines := left }
      let back := modTicket n (fun _ => t') s
      (left = [] →
        failOffer n k s = { s with router := { s.router with tickets := s.router.tickets.filter (·.number != n) } }) ∧
      (left ≠ [] → t.attempts < 3 → failOffer n k s = back) ∧
      (left ≠ [] → 3 ≤ t.attempts → failOffer n k s = unroute t' .attempts back)) ∧
  -- the owner is a void request
  (∀ (e : ExchEntry) (a : AnswerRec) (purpose : VoidPurpose) (tab : Nat) (lines : List Nat) (s : State),
    e.owner = .void purpose tab lines →
    let answer : VoidAnswer :=
      if a.result = Result.OK.code then
        match rVoidResults.exact a.data with
        | some results => .lines results
        | none => .failed a.result
      else if a.result = Result.UNKNOWN.code then .unknown
      else .failed a.result
    handOutcome e a s = voidEnd ⟨e.dest, e.subject, tab, lines, purpose⟩ answer s) ∧
  (∀ (kitchen ticket tab : Nat) (lines : List Nat) (s : State),
    let till : VoidEntry := ⟨kitchen, ticket, tab, lines, .till⟩
    let stray : VoidEntry := ⟨kitchen, ticket, tab, lines, .stray⟩
    let unknown := Result.UNKNOWN.code
    let tell := fun (rs : List (Nat × Nat)) (u : State) => if rs.isEmpty then u else post (.voidResult ticket kitchen rs) u
    let warn := fun (ls : List Nat) (cause : Nat) (u : State) =>
      if ls.isEmpty then u else post (.voidUnconfirmed ticket kitchen ls cause) u
    (∀ rs : List (Nat × Nat),
      let confirmed := rs.filter fun r => r.2 == Result.RETURNED.code || r.2 == Result.WASTED.code
      voidEnd till (.lines rs) s =
        warn (lines.filter fun n => !confirmed.any (·.1 == n)) unknown (tell confirmed s)) ∧
    voidEnd till .unknown s = warn lines unknown s ∧
    (∀ cause, voidEnd till (.failed cause) s = warn lines cause s) ∧
    (∀ (rs : List (Nat × Nat)) (c : Nat), rs ≠ [] → (∀ r ∈ rs, r.2 = c) →
      voidEnd stray (.lines rs) s = post (.strayVoided ticket kitchen (byteOf c)) s) ∧
    (∀ (rs : List (Nat × Nat)), rs = [] ∨ (∃ r ∈ rs, ∃ r' ∈ rs, r.2 ≠ r'.2) →
      voidEnd stray (.lines rs) s = post (.strayVoided ticket kitchen (Config.strayMixedResult (rs.map (·.2)))) s) ∧
    voidEnd stray .unknown s = post (.strayVoided ticket kitchen (byteOf unknown)) s ∧
    (∀ cause, voidEnd stray (.failed cause) s = post (.strayVoided ticket kitchen (byteOf cause)) s)) ∧
  -- what a late answer does; at the claims list see `ClaimAnswersDecideEntries`
  (∀ (a : AnswerRec) (s : State),
    (inService s = false → lateEffect a s = s) ∧
    (inService s = true → a.kind = Kind.lineVoid →
      lateEffect a s = if a.result = Result.OK.code then countLineVoided s else s) ∧
    (inService s = true → a.kind ≠ Kind.lineVoid → hasRole s .till = false → lateEffect a s = s) ∧
    (inService s = true → hasRole s .till = true → a.kind = Kind.ticket →
      (∀ position depth, a.result = Result.ACCEPT.code → rAccept.exact a.data = some (position, depth) →
        lateEffect a s = takeLateAccept ownVoid a.subject a.source depth s) ∧
      (a.result ≠ Result.ACCEPT.code → lateEffect a s = s)))

/-- What the claims list and the accumulators do with an answer, in time or late: a grant makes one HELD entry or renews it, an OK
settlement is counted once and its entry goes, NO_ANSWER leaves a settling entry HELD again and ends an ENDED one with its reason, and a
release's answer removes the entry (R46 to R48, R55, R169). That a timely OK is counted whatever state the entry is in (log entry 35),
that a grant makes an entry whenever the list has room (log entry 44), in range or not (log entry 54), and that a release's answer removes
an entry in any state (log entry 45) are the model's reading; so is the tender beyond VOUCHER that counts nothing (log entry 53). -/
def Obligations.ClaimAnswersDecideEntries : Prop :=
  ∀ (a : AnswerRec) (s : State),
    let entry := findClaim s a.source a.subject a.share
    let without := { s with claims := s.claims.filter fun x => !(x.home == a.source && x.tab == a.subject && x.share == a.share) }
    let renewed := modClaim a.source a.subject a.share (fun x => { x with expiry := some (s.cfg.claimHold * 1000) }) s
    let made := fun (amount : Nat) =>
      ({ s with
        claims := s.claims ++ [⟨a.source, a.subject, a.share, amount, some (s.cfg.claimHold * 1000), .held, none⟩] } : State)
    -- in time
    (∀ e : ExchEntry, e.owner = .claims →
      (a.kind = Kind.claim → a.result = Result.GRANTED.code →
        (∀ amount, Reader.n4.exact a.data = some amount → entry = none → s.claims.length < 8 →
          handOutcome e a s = post (.claimResult a) (made amount)) ∧
        (entry = none → 8 ≤ s.claims.length → handOutcome e a s = post (.claimResult a) s) ∧
        (∀ c, entry = some c →
          (c.state = .held → handOutcome e a s = post (.claimResult a) renewed) ∧
          (c.state ≠ .held → handOutcome e a s = post (.claimResult a) s))) ∧
      (a.kind = Kind.claim → a.result ≠ Result.GRANTED.code →
        (∀ c, a.result ≠ Result.NO_ANSWER.code → entry = some c → c.state = .held →
          handOutcome e a s = post (.claimResult a) without) ∧
        (a.result = Result.NO_ANSWER.code ∨ entry = none ∨ (∃ c, entry = some c ∧ c.state ≠ .held) →
          handOutcome e a s = post (.claimResult a) s)) ∧
      (∀ amount code tendered diff c, a.kind = Kind.settle → a.result = Result.OK.code →
        rSettled.exact a.data = some (amount, code, tendered, diff) → entry = some c →
        (∀ tender, Tender.ofCode code = some tender →
          handOutcome e a s = post (.settleResult a) (countSettlement tender tendered diff without)) ∧
        (Tender.ofCode code = none → handOutcome e a s = post (.settleResult a) without)) ∧
      (a.kind = Kind.settle → entry = none → handOutcome e a s = post (.settleResult a) s) ∧
      (∀ c, a.kind = Kind.settle → a.result ≠ Result.OK.code → entry = some c →
        (c.state = .held ∨ c.state = .releasing → handOutcome e a s = post (.settleResult a) s) ∧
        (c.state = .settling ∨ c.state = .ended → a.result = Result.CLAIM_LOST.code →
          handOutcome e a s = post (.claimLost a.source a.subject a.share) without) ∧
        (c.state = .settling → a.result = Result.NO_ANSWER.code →
          handOutcome e a s =
            post (.settleResult a) (modClaim a.source a.subject a.share (fun x => { x with state := .held }) s)) ∧
        (∀ reason, c.state = .ended → c.reason = some reason → a.result = Result.NO_ANSWER.code →
          handOutcome e a s = post (.claimEnded a.source a.subject a.share reason) without) ∧
        (c.state = .settling ∨ c.state = .ended → a.result ≠ Result.CLAIM_LOST.code → a.result ≠ Result.NO_ANSWER.code →
          handOutcome e a s = post (.settleResult a) without)) ∧
      (a.kind = Kind.release → handOutcome e a s = post (.releaseResult a) without)) ∧
    -- late
    (inService s = true → hasRole s .till = true →
      (a.kind = Kind.claim → a.result = Result.GRANTED.code →
        (∀ amount, Reader.n4.exact a.data = some amount → entry = none → s.claims.length < 8 → lateEffect a s = made amount) ∧
        (entry = none → 8 ≤ s.claims.length → lateEffect a s = s) ∧
        (∀ c, entry = some c →
          (c.state = .held → lateEffect a s = renewed) ∧ (c.state ≠ .held → lateEffect a s = s))) ∧
      (a.kind = Kind.settle → a.result = Result.OK.code →
        (entry = none → lateEffect a s = s) ∧
        (∀ amount code tendered diff c, rSettled.exact a.data = some (amount, code, tendered, diff) → entry = some c →
          (∀ tender, Tender.ofCode code = some tender → lateEffect a s = countSettlement tender tendered diff without) ∧
          (Tender.ofCode code = none → lateEffect a s = without))) ∧
      (a.kind ≠ Kind.ticket → a.kind ≠ Kind.lineVoid → ¬(a.kind = Kind.claim ∧ a.result = Result.GRANTED.code) →
        ¬(a.kind = Kind.settle ∧ a.result = Result.OK.code) → lateEffect a s = s))

/-- The scheduler's decision by a frame's class and the queue as it stands (R154): taken with room, evicting the newest class-3 frame not
on the wire for a class 1 or 2 frame, refused otherwise; the count of drops stops at 65535, a refused request is not counted, and a slot
freed ends the router's pause (R79). A STOCK frame refused or evicted marks its item's portion entry for sending again (R121). -/
def Obligations.SchedulerDecidesByClass : Prop :=
  (∀ (f : OutFrame) (s : State),
    let slot : Slot := ⟨f, 0, 0, false, false⟩
    let c := kindClass f.kind
    let full := 24 ≤ s.tx.slots.length ∨ (c ≠ 0 ∧ 20 ≤ lowCount s.tx.slots)
    let evictable := fun (x : Slot) => kindClass x.frame.kind = 3 ∧ x.onWire = false
    let dropping := fun (l : List Slot) => ({ s with tx := { s.tx with slots := l, dropped := min (s.tx.dropped + 1) 65535 } } : State)
    let marking := fun (g : OutFrame) (u : State) =>
      match stockItem g with
      | none => u
      | some item => { u with portions := u.portions.map fun p => if p.item == item then { p with resend := true } else p }
    (¬full → sendFrame f s = (true, { s with tx := { s.tx with slots := s.tx.slots ++ [slot] } })) ∧
    (full → (c = 1 ∨ c = 2) → ∀ before x after, s.tx.slots = before ++ x :: after → evictable x → (∀ y ∈ after, ¬evictable y) →
      sendFrame f s =
        (true, marking x.frame { dropping (before ++ after ++ [slot]) with router := { s.router with pause := false } })) ∧
    (full → (c = 0 ∨ c = 3 ∨ ∀ x ∈ s.tx.slots, ¬evictable x) →
      sendFrame f s = (false, if isRequest f.kind then s else marking f (dropping s.tx.slots)))) ∧
  -- the item a STOCK frame is for
  (∀ f : OutFrame, f.kind ≠ Kind.stock → stockItem f = none) ∧
  (∀ (dest tag item remaining : Nat) (st : StockState), item < 65536 → remaining < 65536 →
    stockItem ⟨Kind.stock, dest, tag, e2 item ++ e1 st.ctorIdx ++ e2 remaining⟩ = some item)

/-- Every frame a station can send is read back, on either lane, as the frame it was (R145, R146, chapter Formats). -/
def Obligations.FramesReadBack : Prop :=
  ∀ (lane : Lane) (source age : Nat) (f : OutFrame), source < 128 → age < 8 → f.kind < 256 → f.dest < 256 → f.tag < 256 →
    f.payload.length ≤ 200 →
    receive (wireBits lane source age f) =
      some ⟨lane, ⟨kindClass f.kind, age, source, f.kind, f.dest, f.tag, f.payload⟩, crc16 (bodyBits f)⟩

/-! ## Peers -/

/-- A beacon is recorded whole in its source's entry, each value out of range at the nearest the entry holds, and restarts its silence
timer, with the rejoin reports first where its join age shows one; an entry LOST returns by it; its period goes to the takings unit, whether
or not there is an entry, unless it is above 99. A PERIOD frame is recorded, and discarded above 99; a heard number above this station's own
is a jump with a capture attempt, or adopted in JOINING (R57, R63, R66 to R68, R179). A frame's source is refreshed: its timer restarts, it
returns from LOST, or it takes an entry, in the room of the entry LOST the longest where there is none, or is left out with PEERS_FULL once
(R63, R64). A rejoin is told to every block that holds records of the peer (R44, R51, R67, R94, R115, R131); that TICKETS_ORPHANED counts
the records this rejoin flags, those flagged before left out, is the model's reading (log entry 20), and that an evicted station's rejoin is
reported before the newcomer's is its choice (log entry 70). -/
def Obligations.PeerFramesAreRecorded : Prop :=
  (∀ (k : Nat) (quiet : Bool) (s : State),
    let entered := fun (u : State) =>
      reportRejoin k
        { u with
          dir :=
            { u.dir with
              entries :=
                u.dir.entries.takeWhile (fun p => p.station ≤ k) ++
                  ⟨k, false, false, [], none, none, none, .present, some 8000, none, true⟩ ::
                    u.dir.entries.dropWhile (fun p => p.station ≤ k) } }
    let timer := fun (p : Peer) =>
      (match p.interval with
      | some i => some (4 * i)
      | none => some 8000 : Timer)
    (∀ p, findPeer s k = some p →
      (p.presence = .present → refreshPeer k quiet s = modPeer k (fun q => { q with silence := timer q }) s) ∧
      (p.presence = .lost →
        let back := modPeer k (fun q => { q with presence := .present, silence := timer q, changed := true })
          { s with dir := { s.dir with lostOrder := s.dir.lostOrder.filter (· != k) } }
        refreshPeer k quiet s = if quiet then back else post (.peerReturned k) back)) ∧
    (findPeer s k = none →
      (s.dir.entries.length < 64 → refreshPeer k quiet s = entered s) ∧
      (64 ≤ s.dir.entries.length →
        (∀ oldest rest, s.dir.lostOrder = oldest :: rest →
          refreshPeer k quiet s =
            entered (post (.peerEvicted oldest)
              (reportRejoin oldest
                { s with
                  dir := { s.dir with entries := s.dir.entries.filter (·.station != oldest), lostOrder := rest } }))) ∧
        (s.dir.lostOrder = [] →
          (s.dir.full = true → refreshPeer k quiet s = s) ∧
          (s.dir.full = false →
            refreshPeer k quiet s = post (.peersFull k) { s with dir := { s.dir with full := true } }))))) ∧
  (∀ (k : Nat) (s : State),
    let freed : State :=
      { s with
        tabs :=
          s.tabs.map fun t =>
            { t with
              split :=
                t.split.map fun sp =>
                  { sp with
                    shares :=
                      mapIf (fun sh => sh.state == .claimed && sh.claimant == k)
                        (fun sh => { sh with state := .available, claimant := 0, hold := none }) sp.shares } } }
    let told := postAll ((s.claims.filter (·.home == k)).map fun e => .claimLost e.home e.tab e.share)
      { freed with claims := s.claims.filter (·.home != k) }
    let routed := told.router.tickets.foldl
      (fun u t =>
        match t.state with
        | .placed k' ks =>
          if k' = k then
            match ks with
            | .queued =>
              pruneTicket t.number (modTab t.tab (fun v =>
                { v with
                  lines :=
                    mapIf (fun l => t.lines.contains l.number && l.state == .queued) (fun l => { l with state := .pending }) v.lines })
                (modTicket t.number (fun r =>
                  { r with
                    state := .pending, tried := [], attempts := 0, lines := r.lines.filter fun l => !lineEnded u r.tab l }) u))
            | _ => post (.ticketLost t.number t.tab k) (endTicket t .lost u)
          else u
        | _ => u) told
    let forgotten : State :=
      { routed with
        router :=
          { routed.router with
            tickets :=
              routed.router.tickets.map fun t =>
                match t.state with
                | .placed _ _ => t
                | _ => { t with tried := t.tried.filter (· != k), stray := t.stray.filter (· != k) } } }
    let flagged : State :=
      { forgotten with kitchen := forgotten.kitchen.mapAll fun t => if t.home = k then { t with orphan := true } else t }
    let count := (forgotten.kitchen.all.filter fun t => t.home == k && !t.orphan).length
    let orphaned := if count = 0 then flagged else post (.ticketsOrphaned k count) flagged
    reportRejoin k s = { orphaned with stock := orphaned.stock.filter (·.kitchen != k) }) ∧
  (∀ (f : Frame) (rest : List Frame) (b : BeaconFields) (p : Peer) (s : State), frameReady Kind.beacon f rest s = true →
    rBeacon.exact f.payload = some b → listening s = true → findPeer s f.source = some p →
    let u := popped rest s
    let till := b.roles.getLsbD 0
    let kitchen := b.roles.getLsbD 1
    let interval := if b.interval < 250 then 250 else if 2000 < b.interval then 2000 else b.interval - b.interval % 250
    let hold := decide (b.hold ≠ 0)
    let heard := fun (q : Peer) =>
      { q with
        till := till
        kitchen := kitchen
        prep := membersOf 0 b.prep
        interval := some interval
        joinAge := some b.joinAge
        period := some (min b.period 99)
        silence := some (4 * interval)
        load := if kitchen then some ⟨min b.depth 48, hold, min b.late 48, 0⟩ else none }
    let differs := fun (q : Peer) =>
      till != q.till || kitchen != q.kitchen || (kitchen && match q.load with | some l => l.hold != hold | none => false)
    let found := fun (w : State) => ({ w with dir := { w.dir with lostOrder := w.dir.lostOrder.filter (· != f.source) } } : State)
    let toTakings := fun (w : State) => if b.period ≤ 99 then heardPeriod b.period w else w
    let rejoin := ∃ old, p.joinAge = some old ∧ b.joinAge ≤ old ∧ ¬(b.joinAge = 4294967295 ∧ old = 4294967295) ∧
      ¬(b.joinAge = 0 ∧ old = 0)
    (¬rejoin →
      (p.presence = .present →
        exec .beaconFrame s =
          .next (afterFrame s (toTakings (modPeer f.source (fun q => { heard q with changed := q.changed || differs q }) u)))) ∧
      (p.presence = .lost →
        exec .beaconFrame s =
          .next (afterFrame s (toTakings
            (post (.peerReturned f.source)
              (modPeer f.source (fun q => { heard q with presence := .present, changed := true }) (found u))))))) ∧
    (rejoin →
      let reported := reportRejoin f.source u
      let noted := fun (w : State) => post (.peerRejoined f.source till kitchen b.joinAge) w
      (p.presence = .present →
        exec .beaconFrame s =
          .next (afterFrame s (toTakings (noted (modPeer f.source (fun q => { heard q with changed := true }) reported))))) ∧
      (p.presence = .lost →
        exec .beaconFrame s =
          .next (afterFrame s (toTakings (noted
            (modPeer f.source (fun q => { heard q with presence := .present, changed := true }) (found reported)))))))) ∧
  (∀ (f : Frame) (rest : List Frame) (b : BeaconFields) (s : State), frameReady Kind.beacon f rest s = true →
    rBeacon.exact f.payload = some b →
    (listening s = true → findPeer s f.source = none →
      exec .beaconFrame s =
        .next (afterFrame s (if b.period ≤ 99 then heardPeriod b.period (popped rest s) else popped rest s))) ∧
    (listening s = false → exec .beaconFrame s = .next (afterFrame s (popped rest s)))) ∧
  (∀ (f : Frame) (rest : List Frame) (n : Nat) (s : State), frameReady Kind.period f rest s = true →
    Reader.n1.exact f.payload = some n → 99 < n ∨ listening s = false →
    exec .periodFrame s = .next (afterFrame s (popped rest s))) ∧
  (∀ (f : Frame) (rest : List Frame) (n : Nat) (s : State), frameReady Kind.period f rest s = true →
    Reader.n1.exact f.payload = some n → n ≤ 99 → listening s = true →
    exec .periodFrame s =
      .next (afterFrame s (heardPeriod n (modPeer f.source (fun q => { q with period := some n }) (popped rest s))))) ∧
  (∀ (n : Nat) (s : State),
    (n ≤ s.takings.period → heardPeriod n s = s) ∧
    (s.takings.period < n → s.station.state = .joining →
      heardPeriod n s = { s with takings := { s.takings with period := n, spanStart := n } }) ∧
    (s.takings.period < n → inService s = true → s.takings.slot1 = none →
      heardPeriod n s =
        post (.periodCapture 1 s.takings.spanStart s.takings.period s.takings.deferral)
          { s with
            takings :=
              { s.takings with
                period := n
                spanStart := n
                deferral := false
                accums := Accums.zero
                slot1 := some ⟨s.takings.spanStart, s.takings.period, s.takings.deferral, s.takings.accums⟩ } }) ∧
    (s.takings.period < n → inService s = true → s.takings.slot1.isSome = true → s.takings.slot2 = none →
      heardPeriod n s =
        post (.periodCapture 2 s.takings.spanStart s.takings.period s.takings.deferral)
          { s with
            takings :=
              { s.takings with
                period := n
                spanStart := n
                deferral := false
                accums := Accums.zero
                slot2 := some ⟨s.takings.spanStart, s.takings.period, s.takings.deferral, s.takings.accums⟩ } }) ∧
    (s.takings.period < n → inService s = true → s.takings.slot1.isSome = true → s.takings.slot2.isSome = true →
      heardPeriod n s =
        post (.captureDeferred s.takings.period) { s with takings := { s.takings with period := n, deferral := true } }) ∧
    (inService s = false → s.station.state ≠ .joining → heardPeriod n s = s))

/-- The directory's and the beacon's timers: a PRESENT entry goes LOST with its reports, and a beacon is generated at each interval and at
the end of a hold-off that marked one due; a beacon generated with none waiting and room is queued with the contents of R73, and one
generated while one waits takes its place (R65, R73 to R75). A generation has the marked portion entry of lowest item code reported
again, its mark cleared (R121). That a hold-off ending with none due sends none, and that a generation leaves the due mark, is the
model's reading (log entry 42); that the STOCK frame follows the beacon is its choice (log entry 60). -/
def Obligations.PeerTimersExpire : Prop :=
  (∀ (k : Nat) (p : Peer) (s : State), s.station.inReset = false → s.station.state ≠ .duplicate → findPeer s k = some p →
    p.presence = .present → p.silence.isSome = true →
    let lost := modPeer k (fun q => { q with presence := .lost, silence := none, changed := true })
      { s with dir := { s.dir with lostOrder := s.dir.lostOrder ++ [k], full := false } }
    let freed := releaseClaimant k (post (.peerLost k p.till p.kitchen) lost)
    let placed := (s.router.tickets.filter fun t =>
      match t.state with
      | .placed k' _ => k' == k
      | _ => false).length
    let told := if placed = 0 then freed else post (.kitchenLost k placed) freed
    exec (.silenceTimerExpiry k) s = .next (afterEvent s { told with stock := s.stock.filter (·.kitchen != k) })) ∧
  (∀ s : State, s.station.inReset = false → inService s = true → s.beacon.interval.isSome = true →
    exec .intervalTimerExpiry s = .next (afterEvent s (genBeacon s))) ∧
  (∀ s : State, s.station.inReset = false → inService s = true → s.beacon.holdOff.isSome = true →
    let lapsed : State := { s with beacon := { s.beacon with holdOff := none, due := false } }
    (s.beacon.due = true → exec .holdOffExpiry s = .next (afterEvent s (genBeacon lapsed))) ∧
    (s.beacon.due = false → exec .holdOffExpiry s = .next (afterEvent s lapsed))) ∧
  (∀ s : State, (∀ x ∈ s.tx.slots, x.frame.kind ≠ Kind.beacon) → s.tx.slots.length < 24 → lowCount s.tx.slots < 20 →
    (∀ p ∈ s.portions, p.resend = false) →
    let load := s.kitchen.queued ++ s.kitchen.fired
    let payload : Bytes :=
      [eRoles s.cfg.till s.cfg.kitchen] ++ [eSet 0 s.cfg.prep] ++ e2 s.cfg.interval ++
      e4 (if s.beacon.sent then min (s.station.online / 100) 4294967295 else 0) ++ e1 s.takings.period ++
      (if s.cfg.kitchen then e1 load.length ++ eFlag s.kitchen.hold ++ e1 (load.filter (·.late)).length else [0#8, 0#8, 0#8])
    genBeacon s =
      { s with
        beacon := { s.beacon with interval := some s.cfg.interval, holdOff := some 100 }
        tx := { s.tx with slots := s.tx.slots ++ [⟨⟨Kind.beacon, 127, 0, payload⟩, 0, 0, false, false⟩] } }) ∧
  -- a generation with any queue: the beacon `u`, then one STOCK frame for the marked entry of lowest item code
  (∀ s u : State,
    let timed : State := { s with beacon := { s.beacon with interval := some s.cfg.interval, holdOff := some 100 } }
    let waits := fun (x : Slot) => x.frame.kind == Kind.beacon && !x.begun
    let refreshed : State :=
      { timed with
        tx :=
          { s.tx with
            slots := s.tx.slots.map fun x => if waits x then { x with frame := { x.frame with payload := beaconPayload s } } else x } }
    ((∃ x ∈ s.tx.slots, waits x = true) ∧ u = refreshed) ∨
      ((∀ x ∈ s.tx.slots, waits x = false) ∧ u = (sendFrame ⟨Kind.beacon, 127, 0, beaconPayload s⟩ timed).2) →
    ((∀ p ∈ u.portions, p.resend = false) → genBeacon s = u) ∧
    (∀ p ∈ u.portions, (u.portions.map (·.item)).Pairwise (· < ·) → p.resend = true →
      (∀ q ∈ u.portions, q.resend = true → p.item ≤ q.item) →
      genBeacon s =
        queueStock p.item (if p.remaining = 0 then .out else if p.remaining ≤ p.low then .low else .available) p.remaining
          { u with portions := u.portions.map fun q => if q.item == p.item then { q with resend := false } else q }))

/-- Every step keeps the directory in order (R61 to R65). -/
def Obligations.StepKeepsDirectorySound : Prop :=
  ∀ s t : State, DirectorySound s → step s = .next t → DirectorySound t

/-! ## Ticket routing -/

/-- Retry sends an UNROUTED record round again; Refresh of a ticket at this station's own kitchen applies its view, or ends a ticket it
does not know; Abandon ends a record UNROUTED or placed at a peer not PRESENT; each is refused NO_ENTRY without the record and STATE for a
record in any other state, with nothing changed (R84, R92, R95). A ticket state beyond READY is taken as no change (log entry 59). -/
def Obligations.RoutingCommandsComplete : Prop :=
  let ended := fun (t : Ticket) (s : State) =>
    modTab t.tab (fun u =>
      { u with
        lines :=
          mapIf (fun l => t.lines.contains l.number && !l.state.ended) (fun l => { l with state := .lost }) u.lines })
      { s with router := { s.router with tickets := s.router.tickets.filter (·.number != t.number) } }
  (∀ (ticket : Nat) (t : Ticket) (s : State), jobReady (.retry ticket) .till s = true → findTicket s ticket = some t →
    t.state = .unrouted →
    exec (.retry ticket) s =
      .next (afterCommand (.retry ticket) s (.bare .OK)
        (modTab t.tab (fun u =>
          { u with
            lines :=
              mapIf (fun l => t.lines.contains l.number && l.state == .unrouted) (fun l => { l with state := .pending }) u.lines })
          (modTicket ticket (fun r => { r with state := .pending, tried := [], attempts := 0 }) s)))) ∧
  -- a kitchen's view of a ticket: its state, then each line it shows VOID that has not ended as VOID, KVOID or REFUND at the home
  (∀ (ticket kitchen place : Nat) (voids : List Nat) (s : State),
    ((∀ t ks, findTicket s ticket = some t → t.state ≠ .placed kitchen ks) → applyView ticket kitchen place voids s = s) ∧
    ∀ t ks, findTicket s ticket = some t → t.state = .placed kitchen ks →
      let moved :=
        if place = 1 then applyPlaced t kitchen ks (.state .fired) s
        else if place = 2 then applyPlaced t kitchen ks (.state .ready) s
        else s
      applyView ticket kitchen place voids s =
        pruneTicket ticket ((voids.filter fun n => t.lines.contains n).foldl (fun u n => tabKitchenVoid t.tab n u) moved)) ∧
  (∀ (ticket : Nat) (t : Ticket) (ks : KState) (p : Place) (k : KTicket) (s : State), jobReady (.refresh ticket) .till s = true →
    findTicket s ticket = some t → t.state = .placed (own s) ks → s.kitchen.byKey (own s) ticket = some (p, k) →
    let voids := (k.lines.filter fun l => l.void.isSome).map (·.line)
    exec (.refresh ticket) s =
      .next (afterCommand (.refresh ticket) s
        ⟨.OK, e1 p.code ++ e1 (s.kitchen.position k.ref) ++ e1 s.kitchen.depth ++
          eList (fun l : KLine => e1 l.line ++ eFlag l.void.isSome) k.lines⟩
        (applyView ticket (own s) p.code voids s))) ∧
  (∀ (ticket : Nat) (t : Ticket) (ks : KState) (s : State), jobReady (.refresh ticket) .till s = true →
    findTicket s ticket = some t → t.state = .placed (own s) ks → s.kitchen.byKey (own s) ticket = none →
    exec (.refresh ticket) s = .next (afterCommand (.refresh ticket) s (.bare .UNKNOWN) (ended t s))) ∧
  (∀ (ticket : Nat) (t : Ticket) (s : State), jobReady (.abandon ticket) .till s = true → findTicket s ticket = some t →
    t.state = .unrouted ∨ (∃ k ks, t.state = .placed k ks ∧ k ≠ own s ∧ isPresent s k = false) →
    exec (.abandon ticket) s =
      .next (afterCommand (.abandon ticket) s ⟨.OK, e1 (t.lines.filter fun l => !lineEnded s t.tab l).length⟩ (ended t s))) ∧
  -- the refusals: nothing changes
  (∀ (ticket : Nat) (c : Instr) (s : State), c = .retry ticket ∨ c = .refresh ticket ∨ c = .abandon ticket → jobReady c .till s = true →
    (findTicket s ticket = none → exec c s = .next (afterCommand c s (.bare .NO_ENTRY) s)) ∧
    (∀ t, findTicket s ticket = some t →
      (c = .retry ticket ∧ t.state ≠ .unrouted) ∨ (c = .refresh ticket ∧ ∀ k ks, t.state ≠ .placed k ks) ∨
        (c = .abandon ticket ∧ t.state ≠ .unrouted ∧ ∀ k ks, t.state = .placed k ks → k = own s ∨ isPresent s k = true) →
      exec c s = .next (afterCommand c s (.bare .STATE) s)))

/-- What a TICKET-STATE does at its home, and an own kitchen's report handed over (R87 to R89). One for another home or with the orphan
flag set changes nothing, nor does one on a ticket no record holds. From the placement, the mirrored state and the lines move forward, or
the record ends with its lines; a repeated state and voids made on request change nothing. From a kitchen the record was offered to, it
places the ticket first; from any other it is stray, and FIRED or READY draws one void of the whole ticket. That an orphan flag byte
beyond 1 counts as set is the model's (log entry 57), and so is that a record the placement removes, its every line having ended, is
gone before the report is applied (log entry 66). A frame with an undefined state or reason, a home of 0 or 127, or no lines where lines
are due is discarded (R179). That a kitchen which Retry has taken out of the tried set counts as never offered the ticket is the model's
choice (log entry 75). -/
def Obligations.PlacementReportsMoveTheTicket : Prop :=
  -- the frame
  (∀ (f : Frame) (rest : List Frame) (x : TicketStateFields) (r : Report) (s : State),
    requestReady Kind.ticketState .till f rest s = true → rTicketState.exact f.payload = some x →
    (x.home ≠ own s ∨ x.orphan ≠ 0 → exec .ticketStateFrame s = .next (afterFrame s (popped rest s))) ∧
    (x.home = own s → isStation (own s) = true → x.orphan = 0 →
      (x.form = 0 ∧ ((x.code = 0 ∧ r = .state .fired) ∨ (x.code = 1 ∧ r = .state .ready) ∨ (x.code = 2 ∧ r = .state .collected) ∨
        (x.code = 3 ∧ r = .state .uncollected) ∨ (x.code = 4 ∧ r = .state .voided))) ∨
      (x.form = 1 ∧ x.lines ≠ [] ∧ ((x.code = 0 ∧ r = .voids true x.lines) ∨ (x.code = 1 ∧ r = .voids false x.lines))) →
      exec .ticketStateFrame s = .next (afterFrame s (applyReport ownVoid f.source x.ticket r (popped rest s))))) ∧
  (∀ (f : Frame) (rest : List Frame) (x : TicketStateFields) (s : State), frameReady Kind.ticketState f rest s = true →
    rTicketState.exact f.payload = some x →
    x.home = 0 ∨ x.home = 127 ∨ (x.form = 0 ∧ 4 < x.code) ∨ (x.form = 1 ∧ (x.lines = [] ∨ 1 < x.code)) →
    exec .ticketStateFrame s = .next (afterFrame s (popped rest s))) ∧
  -- the report, by the record, whatever carries voids to this station's own kitchen
  (∀ (hand : OwnVoid) (k n : Nat) (r : Report) (s : State),
    (findTicket s n = none → applyReport hand k n r s = s) ∧
    ∀ t, findTicket s n = some t →
      (∀ ks, t.state = .placed k ks → applyReport hand k n r s = applyPlaced t k ks r s) ∧
      ((∀ k' ks, t.state ≠ .placed k' ks) → t.state = .offered k ∨ k ∈ t.tried →
        let placed := placeTicket hand t k none true s
        (findTicket placed n = none → applyReport hand k n r s = placed) ∧
        ∀ t', findTicket placed n = some t' → applyReport hand k n r s = applyPlaced t' k .queued r placed) ∧
      ((∃ k' ks, t.state = .placed k' ks ∧ k' ≠ k) ∨
        ((∀ k' ks, t.state ≠ .placed k' ks) ∧ t.state ≠ .offered k ∧ k ∉ t.tried) →
        (r = .state .fired ∨ r = .state .ready → applyReport hand k n r s = strayVoid hand t k s) ∧
        (r ≠ .state .fired → r ≠ .state .ready → applyReport hand k n r s = s))) ∧
  -- a kitchen is told once
  (∀ (hand : OwnVoid) (t : Ticket) (k : Nat) (s : State),
    (k ∈ t.stray → strayVoid hand t k s = s) ∧
    (k ∉ t.stray →
      strayVoid hand t k s =
        requestVoid hand ⟨k, t.number, t.tab, [], .stray⟩ (modTicket t.number (fun r => { r with stray := r.stray ++ [k] }) s))) ∧
  -- the report from the placement
  (∀ (t : Ticket) (k : Nat) (ks : KState) (s : State),
    let moved := fun (p : LineState → Bool) (dst : LineState) (u : State) =>
      modTab t.tab (fun v =>
        { v with lines := mapIf (fun l => t.lines.contains l.number && p l.state) (fun l => { l with state := dst }) v.lines }) u
    let ended := fun (dst : LineState) =>
      let u := moved (fun st => !st.ended) dst s
      ({ u with router := { u.router with tickets := u.router.tickets.filter (·.number != t.number) } } : State)
    (∀ dst, endTicket t dst s = ended dst) ∧
    (ks = .queued →
      applyPlaced t k ks (.state .fired) s =
        moved (· == .queued) .fired (modTicket t.number (fun r => { r with state := .placed k .fired }) s)) ∧
    (ks ≠ .queued → applyPlaced t k ks (.state .fired) s = s) ∧
    (ks ≠ .ready →
      applyPlaced t k ks (.state .ready) s =
        post (.ticketReady t.number t.tab)
          (moved (fun st => st == .queued || st == .fired) .ready
            (modTicket t.number (fun r => { r with state := .placed k .ready }) s))) ∧
    (ks = .ready → applyPlaced t k ks (.state .ready) s = s) ∧
    applyPlaced t k ks (.state .collected) s = ended .collected ∧
    applyPlaced t k ks (.state .uncollected) s = ended .uncollected ∧
    applyPlaced t k ks (.state .voided) s = ended .lost ∧
    (∀ lines, applyPlaced t k ks (.voids false lines) s = s) ∧
    (∀ lines,
      applyPlaced t k ks (.voids true lines) s =
        pruneTicket t.number ((lines.filter fun n => t.lines.contains n).foldl (fun u n => tabKitchenVoid t.tab n u) s)))

/-- The kitchen a record is offered to: none exactly where there is no untried serving kitchen; otherwise one that the stock and hold
filters leave, of least projected load, then nearest, then lowest number. A serving kitchen is a PRESENT peer with the role and the prep
class, or this station; a peer is OUT by the stock view and this station by its portion table; the projected load is a peer's recorded
depth with the tickets placed since its beacon, and this station's own QUEUED and FIRED tickets (R80, R81). -/
def Obligations.RouterChoosesTheBestKitchen : Prop :=
  ∀ (s : State) (t : Ticket),
    let cand := fun (k : Nat) =>
      k ∉ t.tried ∧
      ((∃ p ∈ s.dir.entries, p.station = k ∧ p.presence = .present ∧ p.kitchen = true ∧ t.prep ∈ p.prep) ∨
        (k = own s ∧ s.cfg.kitchen = true ∧ t.prep ∈ s.cfg.prep))
    let listed := fun (item : Nat) => ∃ u, findTab s t.tab = some u ∧ ∃ l ∈ u.lines, l.number ∈ t.lines ∧ l.item = item
    let out := fun (k : Nat) =>
      ∃ item, listed item ∧
        ((k = own s ∧ ∃ p, findPortion s item = some p ∧ p.remaining = 0) ∨
          (k ≠ own s ∧ ∃ e ∈ s.stock, e.item = item ∧ e.kitchen = k ∧ e.state = .out))
    let held := fun (k : Nat) =>
      (k = own s ∧ s.kitchen.hold = true) ∨ (k ≠ own s ∧ ∃ p l, findPeer s k = some p ∧ p.load = some l ∧ l.hold = true)
    let load := fun (k : Nat) =>
      if k = own s then s.kitchen.queued.length + s.kitchen.fired.length
      else
        match findPeer s k with
        | none => 0
        | some p =>
          match p.load with
          | none => 0
          | some l => l.depth + l.placed
    let stocked := fun (k : Nat) => cand k ∧ (¬out k ∨ ∀ x, cand x → out x)
    let open_ := fun (k : Nat) => stocked k ∧ (¬held k ∨ ∀ x, stocked x → held x)
    let away := fun (k : Nat) => (k - own s) + (own s - k)
    (chooseKitchen s t = none ↔ ∀ k, ¬cand k) ∧
    (∀ k, k ∈ candidates s t ↔ cand k) ∧
    ∀ k, chooseKitchen s t = some k →
      open_ k ∧ ∀ x, open_ x → load k < load x ∨ (load k = load x ∧ (away k < away x ∨ (away k = away x ∧ k ≤ x)))

/-! ## The kitchen queue -/

/-- Fire, Ready and Collect move a ticket along with its transfers, count and report, and its warn, late and collect timers expire (R104,
R106 to R108). A report is broadcast for another home's ticket, handed to this station's own router for its own, and not made on an orphan
of its own (R110); that hand-overs nest to a depth of 120 is the model's bound (log entry 21). A command that fails a test changes nothing
and is answered with the first refusal that applies. The kitchen's counts rise by one, or by the portions wasted, and stop at the end of
their range (R55); the transfers take, fire, return and waste move their quantity between the figures of the item's portion entry, for the
portion-taken lines alone, a return stopping at 9999 with loaded falling by the excess (R103, R122). -/
def Obligations.KitchenMovesTickets : Prop :=
  ((∀ (ref : Nat) (t : KTicket) (s : State), jobReady (.fire ref) .kitchen s = true → s.kitchen.byRef ref = some (.queued, t) →
      s.kitchen.fired.length < s.cfg.fireLimit →
      let k := s.kitchen.drop t.ref
      let u := makeReport ownReport t (.state .fired)
        (transferAll Portion.fire (t.lines.filter fun l => l.void.isNone) { s with kitchen := { k with fired := k.fired ++ [t] } })
      exec (.fire ref) s = .next (afterCommand (.fire ref) s ⟨.OK, e1 u.kitchen.fired.length⟩ u)) ∧
    (∀ (ref : Nat) (t : KTicket) (p : Place) (s : State), jobReady (.ready ref) .kitchen s = true → s.kitchen.byRef ref = some (p, t) →
      p ≠ .ready →
      let k := s.kitchen.drop t.ref
      let t' : KTicket := { t with warnTimer := none, lateTimer := none, collectTimer := some (s.cfg.collectTimeout * 1000) }
      let moved : State := { s with kitchen := { k with ready := k.ready ++ [t'] } }
      let paid := if p = .queued then transferAll Portion.fire (t.lines.filter fun l => l.void.isNone) moved else moved
      let u := holdTest (countReadied (makeReport ownReport t' (.state .ready) paid))
      exec (.ready ref) s =
        .next (afterCommand (.ready ref) s (.bare .OK) (if p = .fired then autoFire ownReport u else u))) ∧
    (∀ (ref : Nat) (t : KTicket) (s : State), jobReady (.collect ref) .kitchen s = true → s.kitchen.byRef ref = some (.ready, t) →
      exec (.collect ref) s =
        .next (afterCommand (.collect ref) s (.bare .OK)
          (makeReport ownReport t (.state .collected) { s with kitchen := s.kitchen.drop t.ref }))) ∧
    (∀ (t : KTicket) (r : Report) (s : State),
      (t.home ≠ own s →
        makeReport ownReport t r s = (sendFrame ⟨Kind.ticketState, 127, 0, eReportPayload t.home t.number t.orphan r⟩ s).2) ∧
      (t.home = own s → t.orphan = true → makeReport ownReport t r s = s) ∧
      -- handed to this station's own router, which decides by its record
      (t.home = own s → t.orphan = false →
        makeReport ownReport t r s =
          applyReport (fun n lines u => kitchenTicketVoid (handReport 119) (own u) n lines u) (own s) t.number r s ∧
        (findTicket s t.number = none → makeReport ownReport t r s = s) ∧
        (∀ x ks, findTicket s t.number = some x → x.state = .placed (own s) ks →
          makeReport ownReport t r s = applyPlaced x (own s) ks r s)))) ∧
  (∀ (ref : Nat) (t : KTicket) (p : Place) (s : State), s.station.inReset = false → s.station.state ≠ .duplicate →
      s.kitchen.byRef ref = some (p, t) →
      (t.warnTimer.isSome = true →
        exec (.warnTimerExpiry ref) s =
          .next (afterEvent s (post (.ticketWarn ref t.home t.number s.cfg.warnTime)
            (modKTicket ref (fun u => { u with warn := true, warnTimer := none }) s)))) ∧
      (t.lateTimer.isSome = true →
        exec (.lateTimerExpiry ref) s =
          .next (afterEvent s (countLate (post (.ticketLate ref t.home t.number)
            (modKTicket ref (fun u => { u with late := true, lateTimer := none }) s))))) ∧
      (p = .ready → t.collectTimer.isSome = true →
        exec (.collectTimerExpiry ref) s =
          .next (afterEvent s (post (.ticketUncollected ref t.home t.number)
            (makeReport ownReport t (.state .uncollected) { s with kitchen := s.kitchen.drop t.ref }))))) ∧
  -- the refusals: nothing changes
  (∀ (ref : Nat) (r : Reply) (s : State), jobReady (.fire ref) .kitchen s = true →
      (s.kitchen.byRef ref = none ∧ r = .bare .NO_ENTRY) ∨
        (∃ p t, s.kitchen.byRef ref = some (p, t) ∧
          ((p ≠ .queued ∧ r = .bare .STATE) ∨
            (p = .queued ∧ s.cfg.fireLimit ≤ s.kitchen.fired.length ∧ r = .bare .FIRE_LIMIT))) →
      exec (.fire ref) s = .next (afterCommand (.fire ref) s r s)) ∧
  (∀ (ref : Nat) (r : Reply) (s : State), jobReady (.ready ref) .kitchen s = true →
      (s.kitchen.byRef ref = none ∧ r = .bare .NO_ENTRY) ∨ (∃ t, s.kitchen.byRef ref = some (.ready, t) ∧ r = .bare .STATE) →
      exec (.ready ref) s = .next (afterCommand (.ready ref) s r s)) ∧
  (∀ (ref : Nat) (r : Reply) (s : State), jobReady (.collect ref) .kitchen s = true →
      (s.kitchen.byRef ref = none ∧ r = .bare .NO_ENTRY) ∨
        (∃ p t, s.kitchen.byRef ref = some (p, t) ∧ p ≠ .ready ∧ r = .bare .STATE) →
      exec (.collect ref) s = .next (afterCommand (.collect ref) s r s)) ∧
  -- the figures of the kitchen's counts
  (
    let gain := fun (d : Nat) (a : Acc) =>
      if a.saturated then a
      else if a.value + d < 4294967295 then (⟨a.value + d, false⟩ : Acc) else ⟨4294967295, true⟩
    ∀ (n : Nat) (s : State),
      let a := s.takings.accums
      let counted := fun (b : Accums) => ({ s with takings := { s.takings with accums := b } } : State)
      countAccepted s = counted { a with ticketsAccepted := gain 1 a.ticketsAccepted } ∧
      countReadied s = counted { a with ticketsReadied := gain 1 a.ticketsReadied } ∧
      countVoided s = counted { a with ticketsVoided := gain 1 a.ticketsVoided } ∧
      countLate s = counted { a with lateTickets := gain 1 a.lateTickets } ∧
      countWaste n s = counted { a with wastePortions := gain n a.wastePortions }) ∧
  -- the figures of the transfers, asked for line by line by the item of each portion-taken line
  (∀ (q : Nat) (p : Portion),
      p.take q = { p with remaining := p.remaining - q, held := p.held + q } ∧
      p.fire q = { p with held := p.held - q, used := p.used + q } ∧
      p.giveBack q =
        { p with
          remaining := min 9999 (p.remaining + q), held := p.held - q, loaded := p.loaded - (p.remaining + q - 9999) } ∧
      p.addWaste q = { p with waste := p.waste + q }) ∧
  (∀ f ∈ [Portion.take, Portion.fire, Portion.giveBack, Portion.addWaste], ∀ (lines : List KLine) (s : State),
      transferAll f lines s =
        { s with
          portions :=
            s.portions.map fun p =>
              ((lines.filter fun l => l.taken && l.item == p.item).map (·.qty)).foldl (fun u q => f q u) p })

/-- Kitchen void and TICKET-VOID make named ACTIVE lines VOID, with the returns or the waste, one report, and the removal of a ticket left
with none; a TICKET-VOID, by frame or handed over by this station's own router, is answered line by line; the reports go to every station,
or to this station's own router, whose record passes each line the kitchen voided to the tab (R88, R110 to R113). A Kitchen void that fails
a test of R113 changes nothing and is answered with the first refusal that applies; a TICKET-VOID for no record is answered UNKNOWN. The
model's reading: a TICKET-VOID's ANSWER goes ahead of its reports (log entry 48), what a line named twice is answered (log entry 40), more
than eight lines are BAD_PARAM (log entries 38 and 39), and a report names the lines in the order the void named them (log entry 67). -/
def Obligations.KitchenVoidsLines : Prop :=
  let outcome := fun (p : Place) (t : KTicket) (n : Nat) =>
    (match t.lines.find? (·.line == n) with
    | none => .UNKNOWN
    | some l =>
      match l.void with
      | some .returned => .RETURNED
      | some .wasted => .WASTED
      | none => if p = Place.queued then .RETURNED else .WASTED : Result)
  (∀ (ref : Nat) (lines : List Nat) (t : KTicket) (p : Place) (s : State), jobReady (.kitchenVoid ref lines) .kitchen s = true →
    s.kitchen.byRef ref = some (p, t) → p ≠ .ready → lines.length ≤ 8 → lines.Nodup →
    (∀ n ∈ lines, ∃ l ∈ t.lines, l.line = n ∧ l.void = none) →
    let names := if lines.isEmpty then (t.lines.filter fun l => l.void.isNone).map (·.line) else lines
    exec (.kitchenVoid ref lines) s =
      .next (afterCommand (.kitchenVoid ref lines) s ⟨.OK, e1 names.length⟩ (voidKLines ownReport p t names true s))) ∧
  (∀ (f : Frame) (rest : List Frame) (number : Nat) (lines : List Nat) (t : KTicket) (p : Place) (s : State),
    requestReady Kind.ticketVoid .kitchen f rest s = true → rTicketVoid.exact f.payload = some (number, lines) → lines.length ≤ 8 →
    s.kitchen.byKey f.source number = some (p, t) →
    let names := if lines.isEmpty then t.lines.map (·.line) else lines
    let answered := sendAnswer f.source Kind.ticketVoid f.tag number 0
      ⟨.OK, eList (fun n => e1 n ++ e1 (outcome p t n).code) names⟩ (popped rest s)
    exec .ticketVoidFrame s = .next (afterFrame s (voidKLines ownReport p t names false answered))) ∧
  -- the refusals: nothing changes
  (∀ (ref : Nat) (lines : List Nat) (r : Reply) (s : State), jobReady (.kitchenVoid ref lines) .kitchen s = true →
    (s.kitchen.byRef ref = none ∧ r = .bare .NO_ENTRY) ∨
      (∃ p t, s.kitchen.byRef ref = some (p, t) ∧
        let active := fun (n : Nat) => ∃ l ∈ t.lines, l.line = n ∧ l.void = none
        ((p = .ready ∧ r = .bare .STATE) ∨ (p ≠ .ready ∧ 8 < lines.length ∧ r = .bare .BAD_PARAM) ∨
          (p ≠ .ready ∧ lines.length ≤ 8 ∧
            ∃ before n after, lines = before ++ n :: after ∧ (∀ m ∈ before, active m) ∧ ¬active n ∧ r = ⟨.BAD_LINE, e1 n⟩))) →
    exec (.kitchenVoid ref lines) s = .next (afterCommand (.kitchenVoid ref lines) s r s)) ∧
  (∀ (f : Frame) (rest : List Frame) (number : Nat) (lines : List Nat) (s : State),
    requestReady Kind.ticketVoid .kitchen f rest s = true → rTicketVoid.exact f.payload = some (number, lines) →
    (8 < lines.length → exec .ticketVoidFrame s = .next (afterRequest s f number 0 (.bare .BAD_PARAM) (popped rest s))) ∧
    (lines.length ≤ 8 → s.kitchen.byKey f.source number = none →
      exec .ticketVoidFrame s = .next (afterRequest s f number 0 (.bare .UNKNOWN) (popped rest s)))) ∧
  -- a void handed over by this station's own router
  (∀ (rep : HandOver) (home number : Nat) (lines : List Nat) (s : State),
    (s.kitchen.byKey home number = none → kitchenTicketVoid rep home number lines s = (.unknown, s)) ∧
    (∀ p t, s.kitchen.byKey home number = some (p, t) →
      let names := if lines.isEmpty then t.lines.map (·.line) else lines
      kitchenTicketVoid rep home number lines s =
        (.lines (names.map fun n => (n, (outcome p t n).code)), voidKLines rep p t names false s))) ∧
  -- the effects, on a ticket of any home
  (∀ (t : KTicket) (p : Place) (names : List Nat) (byKitchen : Bool) (s : State), names.Nodup →
    let hit := t.lines.filter fun l => l.void.isNone && names.contains l.line
    let t' : KTicket :=
      { t with
        lines :=
          t.lines.map fun l =>
            if l.void.isNone && names.contains l.line then { l with void := some (if p = .queued then .returned else .wasted) } else l }
    let moved : State := { s with kitchen := s.kitchen.modRef t.ref fun _ => t' }
    let paid := if p = .queued then transferAll Portion.giveBack hit moved
      else countWaste (hit.map (·.qty)).sum (transferAll Portion.addWaste hit moved)
    let named := names.filter fun n => hit.any (·.line == n)
    let told := makeReport ownReport t' (.voids byKitchen named) paid
    let dropped : State := { told with kitchen := told.kitchen.drop t.ref }
    let gone := countVoided (makeReport ownReport t' (.state .voided) dropped)
    (hit = [] → voidKLines ownReport p t names byKitchen s = s) ∧
    (hit ≠ [] → (∃ l ∈ t'.lines, l.void = none) → voidKLines ownReport p t names byKitchen s = told) ∧
    (hit ≠ [] → (∀ l ∈ t'.lines, l.void ≠ none) →
      voidKLines ownReport p t names byKitchen s =
        match p with
        | .queued => holdTest gone
        | .fired => autoFire ownReport (holdTest gone)
        | .ready => gone) ∧
    -- the two reports: broadcast for another home
    (t.home ≠ own s →
      let report := fun r => sendFrame ⟨Kind.ticketState, 127, 0, eReportPayload t.home t.number t.orphan r⟩
      told = (report (.voids byKitchen named) paid).2 ∧ gone = countVoided (report (.state .voided) dropped).2) ∧
    -- not made for an orphan of this home; else decided by this home's record, where it is placed here
    (t.home = own s → t.orphan = true → told = paid ∧ gone = countVoided dropped) ∧
    (t.home = own s → t.orphan = false → ∀ x ks, findTicket s t.number = some x → x.state = .placed (own s) ks →
      (byKitchen = false → told = paid) ∧
      (byKitchen = true →
        told = pruneTicket x.number
          ((named.filter fun n => x.lines.contains n).foldl (fun u n => tabKitchenVoid x.tab n u) paid))))

/-- A ticket offer, by frame or hand-off, that passes the tests of R100 is accepted in the order of R102: portions taken, the place in the
queue, the answer, NEW_TICKET, the count, the hold test and auto-fire. An offer of a ticket already held is answered ACCEPT again, and one
that fails a test is refused, by frame and hand-off alike and with nothing changed; SOLD_OUT names the first line's item that its running
sum finds short (R100, R101). A TICKET-QUERY is answered from the record, or UNKNOWN, and changes nothing (R114). The hold test turns the
flag at the hold and release marks, brings a beacon due and posts KITCHEN_HOLD (R109); auto-fire fires the head of the queued list again and
again until the fired list is full or none is QUEUED (R105). -/
def Obligations.KitchenTakesTickets : Prop :=
  -- an acceptance, of a frame that has left the receive queue and of a hand-off
  (∀ (home : Nat) (o : Offer) (ref : Nat) (s : State), s.kitchen.byKey home o.ticket = none → o.prep ∈ s.cfg.prep → o.inRange = true →
    s.kitchen.all.length < 48 →
    (∀ p ∈ s.portions, ((o.lines.filter (·.item == p.item)).map (·.qty)).sum ≤ p.remaining) →
    1 ≤ ref → ref ≤ 48 → (∀ t ∈ s.kitchen.all, t.ref ≠ ref) → (∀ m, 1 ≤ m → m < ref → ∃ t ∈ s.kitchen.all, t.ref = m) →
    let t : KTicket :=
      { ref := ref, home := home, number := o.ticket, orphan := false, tab := o.tab, prep := o.prep, rush := o.rush == 1
        lines := o.lines.map fun l => ⟨l.line, l.item, l.qty, l.mods, none, s.portions.any (·.item == l.item)⟩
        accepted := stationTime s, seq := s.kitchen.accepts, warn := false, late := false, unread := true
        warnTimer := some (s.cfg.warnTime * 1000), lateTimer := some (s.cfg.lateTime * 1000), collectTimer := none }
    let taken := transferAll Portion.take t.lines s
    let queued := if t.rush then s.kitchen.queued.takeWhile (·.rush) ++ [t] ++ s.kitchen.queued.dropWhile (·.rush)
      else s.kitchen.queued ++ [t]
    let entered : State := { taken with kitchen := { s.kitchen with queued := queued, accepts := s.kitchen.accepts + 1 } }
    let position := if t.rush then (s.kitchen.queued.takeWhile (·.rush)).length + 1 else s.kitchen.queued.length + 1
    let depth := s.kitchen.queued.length + s.kitchen.fired.length + 1
    let reply : Reply := ⟨.ACCEPT, e1 position ++ e1 depth⟩
    let worked := fun (answered : State) =>
      autoFire ownReport (holdTest (countAccepted (post (.newTicket ref home o.ticket t.rush position) answered)))
    takeOffer ownReport noAnswer home o s = (reply, worked entered) ∧
    ∀ (f : Frame) (rest : List Frame) (u : State), requestReady Kind.ticket .kitchen f rest u = true →
      rOffer.exact f.payload = some o → f.source = home → s = popped rest u →
      exec .ticketFrame u = .next (afterFrame u (worked (sendAnswer home Kind.ticket f.tag o.ticket 0 reply entered)))) ∧
  (∀ (f : Frame) (rest : List Frame) (number : Nat) (t : KTicket) (p : Place) (s : State),
    requestReady Kind.ticketQuery .kitchen f rest s = true → Reader.n2.exact f.payload = some number →
    s.kitchen.byKey f.source number = some (p, t) →
    exec .ticketQueryFrame s =
      .next (afterRequest s f number 0
        ⟨.OK, e1 p.code ++ e1 (s.kitchen.position t.ref) ++ e1 s.kitchen.depth ++
          eList (fun l : KLine => e1 l.line ++ eFlag l.void.isSome) t.lines⟩ (popped rest s))) ∧
  (∀ (f : Frame) (rest : List Frame) (number : Nat) (s : State), requestReady Kind.ticketQuery .kitchen f rest s = true →
    Reader.n2.exact f.payload = some number → s.kitchen.byKey f.source number = none →
    exec .ticketQueryFrame s = .next (afterRequest s f number 0 (.bare .UNKNOWN) (popped rest s))) ∧
  -- the answers that change nothing, to a frame and to a hand-off alike
  (∀ o : Offer,
    let ranged := 1 ≤ o.lines.length ∧ o.lines.length ≤ 8 ∧ (o.lines.map (·.line)).Nodup ∧ 1 ≤ o.ticket ∧ o.ticket ≤ 65535 ∧
      1 ≤ o.tab ∧ o.tab ≤ 999 ∧ o.rush ≤ 1 ∧
      ∀ l ∈ o.lines, 1 ≤ l.line ∧ l.line ≤ 48 ∧ l.item ≤ 4095 ∧ 1 ≤ l.qty ∧ l.qty ≤ 20 ∧ l.mods.length ≤ 3 ∧ ∀ m ∈ l.mods, m ≤ 4095
    let short := fun (s : State) (before : List OfferLine) (l : OfferLine) =>
      ∃ p, findPortion s l.item = some p ∧ p.remaining < (((before ++ [l]).filter (·.item == l.item)).map (·.qty)).sum
    let answer := fun (home : Nat) (s : State) (r : Reply) =>
      (∃ p t, s.kitchen.byKey home o.ticket = some (p, t) ∧
        r = ⟨.ACCEPT, e1 (s.kitchen.position t.ref) ++ e1 (s.kitchen.queued.length + s.kitchen.fired.length)⟩) ∨
      (s.kitchen.byKey home o.ticket = none ∧
        ((o.prep ∉ s.cfg.prep ∧ r = .bare .NOT_SERVED) ∨
          (o.prep ∈ s.cfg.prep ∧ ¬ranged ∧ r = .bare .BAD_PARAM) ∨
          (o.prep ∈ s.cfg.prep ∧ ranged ∧ 48 ≤ s.kitchen.all.length ∧ r = .bare .FULL) ∨
          (o.prep ∈ s.cfg.prep ∧ ranged ∧ s.kitchen.all.length < 48 ∧
            ∃ before l after, o.lines = before ++ l :: after ∧ short s before l ∧
              (∀ a x b, before = a ++ x :: b → ¬short s a x) ∧ r = ⟨.SOLD_OUT, e2 l.item⟩)))
    (∀ (f : Frame) (rest : List Frame) (r : Reply) (s : State), requestReady Kind.ticket .kitchen f rest s = true →
      rOffer.exact f.payload = some o → answer f.source (popped rest s) r →
      exec .ticketFrame s = .next (afterRequest s f o.ticket 0 r (popped rest s))) ∧
    (∀ (r : Reply) (s : State), answer (own s) s r → takeOffer ownReport noAnswer (own s) o s = (r, s))) ∧
  -- a position is the place in the queued list from 1, and 0 for a ticket that is not QUEUED
  (∀ (k : Kitchen) (ref : Nat),
    ((∀ t ∈ k.queued, t.ref ≠ ref) → k.position ref = 0) ∧
    (∀ before t after, k.queued = before ++ t :: after → t.ref = ref → (∀ x ∈ before, x.ref ≠ ref) →
      k.position ref = before.length + 1)) ∧
  -- the hold test
  (∀ s : State,
    let k := s.kitchen
    let depth := k.queued.length + k.fired.length
    let turned := fun (flag : Bool) =>
      let u : State := { s with kitchen := { k with hold := flag } }
      post (.kitchenHold flag depth)
        (if s.beacon.holdOff.isSome then { u with beacon := { u.beacon with due := true } } else genBeacon u)
    (k.hold = false → depth < s.cfg.holdMark → holdTest s = s) ∧
    (k.hold = false → s.cfg.holdMark ≤ depth → holdTest s = turned true) ∧
    (k.hold = true → s.cfg.releaseMark < depth → holdTest s = s) ∧
    (k.hold = true → depth ≤ s.cfg.releaseMark → holdTest s = turned false)) ∧
  -- auto-fire: the head is fired, as Fire does it, and the test made again
  (∀ s : State,
    let fired := fun (t : KTicket) =>
      let k := s.kitchen.drop t.ref
      makeReport ownReport t (.state .fired)
        (transferAll Portion.fire (t.lines.filter fun l => l.void.isNone) { s with kitchen := { k with fired := k.fired ++ [t] } })
    (s.cfg.autoFire = false ∨ s.kitchen.queued = [] ∨ s.cfg.fireLimit ≤ s.kitchen.fired.length → autoFire ownReport s = s) ∧
    (∀ t rest, s.cfg.autoFire = true → s.kitchen.queued = t :: rest → s.kitchen.fired.length < s.cfg.fireLimit →
      autoFire ownReport s = autoFire ownReport (fired t)))

/-- Every step keeps the kitchen queue in order, within its 48 places and its fire limit (R97, R99, R105). -/
def Obligations.StepKeepsKitchenSound : Prop :=
  ∀ s t : State, KitchenSound s → step s = .next t → KitchenSound t

/-! ## Portions and stock -/

/-- Refill, Reload to preset and Recount (R125 to R127): what each does to remaining, loaded and adjust, what stays, and what its answer
carries; and their refusals BAD_PARAM, NO_ENTRY and, for loaded beyond its range, FULL, with nothing changed (R123). -/
def Obligations.RefillReloadRecount : Prop :=
  (∀ (item n : Nat) (p : Portion) (s : State), item ≤ 4095 → findPortion s item = some p → p.remaining ≤ 9999 → n ≤ 9999 →
    let changed := fun (p' : Portion) (t : State) =>
      findPortion t item = some p' ∧ (∀ i, i ≠ item → findPortion t i = findPortion s i) ∧ t = { s with portions := t.portions }
    let taken := min n (9999 - p.remaining)
    (jobReady (.refill item n) .kitchen s = true → p.loaded + taken ≤ 4294967295 →
      ∃ t, exec (.refill item n) s =
          .next (afterCommand (.refill item n) s ⟨.OK, e2 taken ++ e2 (p.remaining + taken)⟩ t) ∧
        changed { p with remaining := p.remaining + taken, loaded := p.loaded + taken } t) ∧
    (jobReady (.reloadToPreset item) .kitchen s = true → p.remaining ≤ p.loaded →
      p.loaded - p.remaining + p.preset ≤ 4294967295 →
      ∃ t, exec (.reloadToPreset item) s =
          .next (afterCommand (.reloadToPreset item) s ⟨.OK, e2 p.preset ++ es4 ((p.preset : Int) - (p.remaining : Int))⟩ t) ∧
        changed { p with remaining := p.preset, loaded := p.loaded - p.remaining + p.preset } t) ∧
    (jobReady (.recount item n) .kitchen s = true → p.remaining ≤ p.loaded → p.loaded - p.remaining + n ≤ 4294967295 →
      ∃ t, exec (.recount item n) s =
          .next (afterCommand (.recount item n) s ⟨.OK, es4 ((n : Int) - (p.remaining : Int)) ++ e2 n⟩ t) ∧
        changed
          { p with
            remaining := n
            loaded := p.loaded - p.remaining + n
            adjust := max (-2147483647) (min 2147483647 (p.adjust + ((n : Int) - (p.remaining : Int)))) } t)) ∧
  -- the refusals, in the order of R123: nothing changes
  (∀ (item n : Nat) (c : Instr) (s : State), c = .refill item n ∨ c = .reloadToPreset item ∨ c = .recount item n →
    jobReady c .kitchen s = true →
    let ranged := item ≤ 4095 ∧ (c = .reloadToPreset item ∨ n ≤ 9999)
    (¬ranged → exec c s = .next (afterCommand c s (.bare .BAD_PARAM) s)) ∧
    (ranged → findPortion s item = none → exec c s = .next (afterCommand c s (.bare .NO_ENTRY) s)) ∧
    (∀ p, ranged → findPortion s item = some p →
      (c = .refill item n ∧ 4294967295 < p.loaded + min n (9999 - p.remaining)) ∨
        (c = .reloadToPreset item ∧ (4294967295 : Int) < p.loaded + ((p.preset : Int) - p.remaining)) ∨
        (c = .recount item n ∧ (4294967295 : Int) < p.loaded + ((n : Int) - p.remaining)) →
      exec c s = .next (afterCommand c s (.bare .FULL) s)))

/-- Load makes an entry, or resets an existing one's preset and low mark alone; Remove deletes an entry with nothing held and clears its
lines' portion-taken flags; Read portions tells one entry; they are refused BAD_PARAM out of range, Load FULL with 64 entries, the others
NO_ENTRY without the entry, and Remove HELD while portions are held (R123). A STOCK frame in range replaces, adds or drops the stock view's
entry for its item and source, and one with a state code, item or count out of range is discarded (R124, R128, R130, R179). -/
def Obligations.PortionAndStockRecords : Prop :=
  (∀ (item n low : Nat) (s : State), jobReady (.load item n low) .kitchen s = true → item ≤ 4095 → n ≤ 9999 → low ≤ 999 →
    let state := fun (remaining : Nat) => if remaining = 0 then StockState.out else if remaining ≤ low then .low else .available
    let data := fun (remaining : Nat) => e2 remaining ++ e2 n ++ e2 low ++ e1 (state remaining).ctorIdx
    (findPortion s item = none → s.portions.length < 64 →
      exec (.load item n low) s =
        .next (afterCommand (.load item n low) s ⟨.OK, data n⟩
          { s with portions := insertBy (·.item) ⟨item, n, 0, 0, n, n, low, 0, 0, false⟩ s.portions })) ∧
    (∀ p, findPortion s item = some p →
      ∃ t, exec (.load item n low) s = .next (afterCommand (.load item n low) s ⟨.OK, data p.remaining⟩ t) ∧
        findPortion t item = some { p with preset := n, low := low } ∧
        (∀ i, i ≠ item → findPortion t i = findPortion s i) ∧ t = { s with portions := t.portions })) ∧
  -- the refusals, in the order of R123: nothing changes
  (∀ (item n low : Nat) (s : State), jobReady (.load item n low) .kitchen s = true →
    (4095 < item ∨ 9999 < n ∨ 999 < low →
      exec (.load item n low) s = .next (afterCommand (.load item n low) s (.bare .BAD_PARAM) s)) ∧
    (item ≤ 4095 → n ≤ 9999 → low ≤ 999 → findPortion s item = none → 64 ≤ s.portions.length →
      exec (.load item n low) s = .next (afterCommand (.load item n low) s (.bare .FULL) s))) ∧
  (∀ (item : Nat) (c : Instr) (s : State), (c = .remove item ∧ jobReady c .kitchen s = true) ∨
      (c = .readPortions (some item) ∧ readReady c (some .kitchen) s = true) →
    (4095 < item → exec c s = .next (afterCommand c s (.bare .BAD_PARAM) s)) ∧
    (item ≤ 4095 → findPortion s item = none → exec c s = .next (afterCommand c s (.bare .NO_ENTRY) s)) ∧
    (∀ p, item ≤ 4095 → findPortion s item = some p → c = .remove item → 0 < p.held →
      exec c s = .next (afterCommand c s (.bare .HELD) s))) ∧
  (∀ (item : Nat) (p : Portion) (s : State), jobReady (.remove item) .kitchen s = true → item ≤ 4095 → findPortion s item = some p →
    p.held = 0 →
    let cleared := fun (t : KTicket) =>
      { t with lines := t.lines.map fun l => if l.item == item then { l with taken := false } else l }
    exec (.remove item) s =
      .next (afterCommand (.remove item) s ⟨.OK, e2 p.remaining ++ e4 p.used ++ e4 p.loaded ++ e4 p.waste ++ es4 p.adjust⟩
        { s with
          portions := s.portions.filter (·.item != item)
          kitchen :=
            { s.kitchen with
              queued := s.kitchen.queued.map cleared
              fired := s.kitchen.fired.map cleared
              ready := s.kitchen.ready.map cleared } })) ∧
  (∀ (item : Nat) (p : Portion) (s : State), readReady (.readPortions (some item)) (some .kitchen) s = true → item ≤ 4095 →
    findPortion s item = some p →
    let state := if p.remaining = 0 then StockState.out else if p.remaining ≤ p.low then .low else .available
    exec (.readPortions (some item)) s =
      .next (afterCommand (.readPortions (some item)) s
        ⟨.OK, e2 p.item ++ e2 p.remaining ++ e2 p.held ++ e4 p.used ++ e4 p.loaded ++ e2 p.preset ++ e2 p.low ++ e4 p.waste ++
          es4 p.adjust ++ e1 state.ctorIdx ++ eFlag p.resend⟩ s)) ∧
  (∀ (f : Frame) (rest : List Frame) (b : StockFields) (s : State), frameReady Kind.stock f rest s = true →
    rStock.exact f.payload = some b → listening s = true → hasRole s .till = true → b.item ≤ 4095 → b.remaining ≤ 9999 →
    let others := s.stock.filter fun e => !(e.item == b.item && e.kitchen == f.source)
    let heard := fun (st : StockState) =>
      (⟨b.item, f.source, st, b.remaining, min (s.station.clock / 1000) 4294967295⟩ : StockEntry)
    let view := fun (l : List StockEntry) => ({ popped rest s with stock := l } : State)
    (b.state = 0 → exec .stockFrame s = .next (afterFrame s (view others))) ∧
    (∀ st, (b.state = 1 ∧ st = .low) ∨ (b.state = 2 ∧ st = .out) →
      (others.length < 32 → exec .stockFrame s = .next (afterFrame s (view (others ++ [heard st])))) ∧
      (∀ oldest newer, others = oldest :: newer → 32 ≤ others.length →
        exec .stockFrame s = .next (afterFrame s (view (newer ++ [heard st])))))) ∧
  (∀ (f : Frame) (rest : List Frame) (b : StockFields) (s : State), frameReady Kind.stock f rest s = true →
    rStock.exact f.payload = some b → 2 < b.state ∨ 4095 < b.item ∨ 9999 < b.remaining ∨ listening s = false →
    exec .stockFrame s = .next (afterFrame s (popped rest s)))

/-- Every step keeps the portion table's figures within their ranges and in agreement with each other and with the kitchen queue (R103,
R119). -/
def Obligations.StepKeepsPortionsBalanced : Prop :=
  ∀ s t : State, PortionsBalance s → step s = .next t → PortionsBalance t

/-! ## Lanes and the transmitter -/

/-- The lane rows but for a frame's end: activity, a frame start, silence, a stuck lane, its release, Lane restart and the twin window; and
how a receiver's move shows in ONLINE and ISOLATED (R140, R144, R146 to R150). While this station drives, and in LOOPBACK, neither activity
nor a frame start is heard (R137, R146); a row that does not fit the receiver's state changes nothing. Lane numbers 0 for A and 1 for B (log
entry 18), LANE_STUCK while this station drives (log entry 22) and what the silence timer does through a move (log entry 24) are the model's
reading. -/
def Obligations.LaneRowsMoveReceivers : Prop :=
  (∀ s : State, hearsPeers s = true ↔ s.station.state ≠ .loopback ∧ ∀ x ∈ s.tx.slots, x.onWire = false) ∧
  (∀ (lane : Lane) (s : State), s.station.inReset = false → hearsPeers s = false →
    exec (.laneActivity lane) s = .next (afterEvent s s) ∧ exec (.laneFrameStart lane) s = .next (afterEvent s s)) ∧
  (∀ (lane : Lane) (s : State), s.station.inReset = false → hearsPeers s = true →
    ((s.link.rx lane).state = .down →
      exec (.laneFrameStart lane) s = .next (afterEvent s (modRx lane (fun r => { r with carrying := true }) s))) ∧
    ((s.link.rx lane).state = .stuck → exec (.laneFrameStart lane) s = .next (afterEvent s s)) ∧
    ((s.link.rx lane).state = .down → exec (.laneActivity lane) s = .next (afterEvent s (moveLane lane .hunt s))) ∧
    ((s.link.rx lane).state ≠ .down → exec (.laneActivity lane) s = .next (afterEvent s s)) ∧
    ((s.link.rx lane).state = .hunt ∨ (s.link.rx lane).state = .locked →
      exec (.laneFrameStart lane) s =
        .next (afterEvent s (modRx lane (fun r => { r with carrying := true, silence := some 5000 }) s)))) ∧
  (∀ (lane : Lane) (s : State), s.station.inReset = false → s.station.state ≠ .loopback →
    ((s.link.rx lane).state = .hunt ∨ (s.link.rx lane).state = .locked → (s.link.rx lane).silence.isSome = true →
      exec (.laneSilenceExpiry lane) s = .next (afterEvent s (moveLane lane .down s))) ∧
    exec (.laneStuck lane) s =
      .next (afterEvent s (moveLane lane .stuck (modRx lane (fun r => { r with carrying := false }) s))) ∧
    ((s.link.rx lane).state = .stuck → exec (.laneRecessive lane) s = .next (afterEvent s (moveLane lane .hunt s)))) ∧
  (∀ (lane : Lane) (s : State), s.station.inReset = false →
    ((s.link.rx lane).state = .down ∨ (s.link.rx lane).state = .stuck ∨ s.station.state = .loopback →
      exec (.laneSilenceExpiry lane) s = .next (afterEvent s s)) ∧
    (s.station.state = .loopback → exec (.laneStuck lane) s = .next (afterEvent s s)) ∧
    ((s.link.rx lane).state ≠ .stuck ∨ s.station.state = .loopback → exec (.laneRecessive lane) s = .next (afterEvent s s))) ∧
  (∀ (lane : Lane) (s : State), moveLane lane (s.link.rx lane).state s = s) ∧
  (∀ (lane : Lane) (s : State), s.station.inReset = false →
    exec (.twinWindowExpiry lane) s = .next (afterEvent s (modRx lane (fun r => { r with window := none }) s))) ∧
  (∀ (lane : Lane) (n : Nat) (s : State), (lane = .A ∧ n = 0) ∨ (lane = .B ∧ n = 1) → commandTaken (.laneRestart n) s = true →
    s.station.state ≠ .loopback → s.station.state ≠ .duplicate →
    ∃ t, exec (.laneRestart n) s = .next (afterCommand (.laneRestart n) s (.bare .OK) t) ∧
      (t.link.rx lane).state = .hunt ∧ (t.link.rx lane).errors = 0 ∧ (t.link.rx lane).badRun = 0 ∧
      (t.link.rx lane).changed = true ∧ (t.link.rx lane).tagSeen = none ∧ t.link.tagStatus = .clear ∧
      t.link.rx lane.other = s.link.rx lane.other ∧ t.link.disagree = s.link.disagree ∧ t.link.overrun = s.link.overrun ∧
      t.tx = s.tx ∧ t.rx = s.rx ∧ t.exch = s.exch ∧ t.tabs = s.tabs ∧ t.kitchen = s.kitchen ∧ t.dir = s.dir ∧
      t.takings = s.takings) ∧
  (∀ (n : Nat) (s : State), 1 < n → commandTaken (.laneRestart n) s = true → s.station.state ≠ .loopback →
    s.station.state ≠ .duplicate → exec (.laneRestart n) s = .next (afterCommand (.laneRestart n) s (.bare .BAD_PARAM) s)) ∧
  (∀ (lane : Lane) (st : RxState) (s : State), (s.link.rx lane).state ≠ st →
    let r := s.link.rx lane
    let r' : Receiver :=
      { r with
        state := st
        goodRun := 0
        badRun := 0
        changed := true
        silence :=
          match st with
          | .down => none
          | .hunt => some (r.silence.getD 5000)
          | .locked => r.silence
          | .stuck => r.silence }
    let told := post (.laneState lane r.state st) { s with link := s.link.setRx r' lane }
    let other := (s.link.rx lane.other).state
    (s.station.state ≠ .online → s.station.state ≠ .isolated → moveLane lane st s = told) ∧
    (s.station.state = .online → st = .locked ∨ other = .locked →
      moveLane lane st s = { told with station := { s.station with isolation := none } }) ∧
    (s.station.state = .online → st ≠ .locked → other ≠ .locked →
      moveLane lane st s = { told with station := { s.station with isolation := some (s.station.isolation.getD 1000) } }) ∧
    (s.station.state = .isolated → st ≠ .locked → other ≠ .locked → moveLane lane st s = told) ∧
    (s.station.state = .isolated → st = .locked →
      moveLane lane st s =
        post (.stationState .online none) { told with station := { s.station with state := .online, isolation := none } }))

/-- What a frame's end does by the receiver's state and the frame: nothing more in DOWN and STUCK, nor where peers are not heard, than that
no frame is under way; the error count and the fourth malformed frame's fall to HUNT, the lock at the lock count, and in LOCKED the merge,
where the first copy of a frame refreshes its source and, for this station, joins the receive queue, its twin is discarded and a frame of
this station's own number brings DUPLICATE (R63, R142, R146, R147, R149 to R152). That the frame which makes a lane LOCKED is not
delivered (log entry 23), that the filter reads the low 7 bits of the destination byte (log entry 61), that an end not heard is an end
all the same (log entry 63), that PEER_RETURNED is held back only for a restart's beacon that is addressed here, can be delivered and
finds room in the queue (log entry 51), and that a frame that cannot be delivered leaves the queue as soon as it is at its head (log
entry 13) are the model's reading. A frame can be delivered if its source is a station, it is no request or ANSWER to all stations, its kind
is one of the eighteen and its class the kind's, its destination's top bit is clear, and its payload has its kind's layout, an ANSWER the
header's tag (R162, R179); that an ANSWER's data is tested by its request's kind and result is the model's reading (log entry 33). The
notices of a lock come ahead of TAG_STATUS, by the model's choice (log entry 77). -/
def Obligations.FrameEndsAtTheReceiver : Prop :=
  -- which frames may be delivered: the group test of R162 and the tests of R179
  (∀ f : Frame,
    let k := f.kind
    let request := k ∈ [Kind.add, Kind.lineVoid, Kind.tabQuery, Kind.split, Kind.withdraw, Kind.claim, Kind.settle, Kind.release,
      Kind.ticket, Kind.ticketVoid, Kind.ticketQuery, Kind.test]
    let cls :=
      if k = Kind.answer then 0
      else if k ∈ [Kind.claim, Kind.settle, Kind.release, Kind.split, Kind.withdraw, Kind.claimEnd] then 1
      else if k ∈ [Kind.beacon, Kind.stock, Kind.period, Kind.test] then 3
      else 2
    deliverable f = true ↔
      (1 ≤ f.source ∧ f.source ≤ 126) ∧ ¬((request ∨ k = Kind.answer) ∧ f.dest = 127) ∧ (1 ≤ k ∧ k ≤ 18) ∧ f.cls = cls ∧
      f.dest < 128 ∧ layoutOk k f.tag f.payload = true) ∧
  (∀ (tag : Nat) (p : Bytes),
    let fits := fun (k : Nat) => layoutOk k tag p = true
    (∀ row ∈ [(Kind.beacon, 12), (Kind.period, 1), (Kind.stock, 5), (Kind.lineVoid, 3), (Kind.tabQuery, 2), (Kind.withdraw, 2),
        (Kind.claim, 3), (Kind.settle, 4), (Kind.release, 3), (Kind.claimEnd, 4), (Kind.ticketQuery, 2)],
      fits row.1 ↔ p.length = row.2) ∧
    fits Kind.test ∧
    (fits Kind.add ↔ ∃ (tab send : Nat) (lines : List LineReq), lines.length < 256 ∧ (∀ l ∈ lines, l.mods.length < 256) ∧
      p = e2 tab ++ e1 send ++ eList (fun l : LineReq =>
        e2 l.item ++ e2 l.price ++ e1 l.qty ++ e1 l.tax ++ e1 l.prep ++ e1 l.rush ++ eList e2 l.mods) lines) ∧
    (fits Kind.split ↔ ∃ (tab count : Nat) (entries : List SplitEntry), entries.length < 256 ∧
      p = e2 tab ++ e1 count ++ eList (fun e : SplitEntry => e1 e.line ++ [e.sharers]) entries) ∧
    (fits Kind.ticket ↔ ∃ (ticket tab prep rush : Nat) (lines : List OfferLine), lines.length < 256 ∧
      (∀ l ∈ lines, l.mods.length < 256) ∧
      p = e2 ticket ++ e2 tab ++ e1 prep ++ e1 rush ++
        eList (fun l : OfferLine => e1 l.line ++ e2 l.item ++ e1 l.qty ++ eList e2 l.mods) lines) ∧
    (fits Kind.ticketVoid ↔ ∃ (ticket : Nat) (lines : List Nat), lines.length < 256 ∧ p = e2 ticket ++ eList e1 lines) ∧
    (fits Kind.ticketState ↔ ∃ home ticket orphan code : Nat,
      p = e1 home ++ e2 ticket ++ e1 orphan ++ e1 0 ++ e1 code ∨
      ∃ lines : List Nat, lines.length < 256 ∧ p = e1 home ++ e2 ticket ++ e1 orphan ++ e1 1 ++ e1 code ++ eList e1 lines) ∧
    (fits Kind.answer ↔ ∃ (kind subject share result : Nat) (data : Bytes),
      kind < 256 ∧ tag < 256 ∧ subject < 65536 ∧ share < 256 ∧ result < 256 ∧
      p = e1 kind ++ e1 tag ++ e2 subject ++ e1 share ++ e1 result ++ data ∧
      answerDataOk ⟨0, kind, tag, subject, share, result, data⟩ = true)) ∧
  -- the data an ANSWER carries, by its request's kind and its result (R164)
  (∀ (a : AnswerRec) (r : Result), a.result = r.code →
    let ok := answerDataOk a = true
    let shown := [(Kind.add, Result.OK, 8), (Kind.add, .SOLD_OUT, 1), (Kind.lineVoid, .OK, 5), (Kind.split, .BAD_LINE, 1),
      (Kind.split, .BAD_SHARE, 1), (Kind.settle, .OK, 13), (Kind.claim, .GRANTED, 4), (Kind.claim, .HELD_BY, 1),
      (Kind.ticket, .ACCEPT, 2), (Kind.ticket, .SOLD_OUT, 2)]
    (∀ row ∈ shown, a.kind = row.1 → r = row.2.1 → (ok ↔ a.data.length = row.2.2)) ∧
    (r = .OK →
      (a.kind = Kind.test → ok) ∧
      (a.kind = Kind.tabQuery →
        (ok ↔ ∃ (state lines total count : Nat) (outcome : Option Nat) (label shares : Bytes), count < 256 ∧ label.length < 256 ∧
          shares.length = count * 6 ∧
          a.data = e1 state ++ eOpt e1 outcome ++ eList (fun b => [b]) label ++ e1 lines ++ e4 total ++ e1 count ++ shares)) ∧
      (a.kind = Kind.split →
        (ok ↔ ∃ (count total state : Nat) (shares : Bytes), count < 256 ∧ shares.length = count * 5 ∧
          a.data = e1 count ++ e4 total ++ shares ++ e1 state)) ∧
      (a.kind = Kind.ticketVoid →
        (ok ↔ ∃ l : List (Nat × Nat), l.length < 256 ∧ a.data = eList (fun x => e1 x.1 ++ e1 x.2) l)) ∧
      (a.kind = Kind.ticketQuery →
        (ok ↔ ∃ (state position depth : Nat) (l : List (Nat × Nat)), l.length < 256 ∧
          a.data = e1 state ++ e1 position ++ e1 depth ++ eList (fun x => e1 x.1 ++ e1 x.2) l))) ∧
    (isRequest a.kind = true → (∀ row ∈ shown, ¬(a.kind = row.1 ∧ r = row.2.1)) →
      ¬(r = .OK ∧ a.kind ∈ [Kind.test, Kind.tabQuery, Kind.split, Kind.ticketVoid, Kind.ticketQuery]) → (ok ↔ a.data = []))) ∧
  (∀ a : AnswerRec,
    (isRequest a.kind = false → answerDataOk a = true) ∧
    (isRequest a.kind = true → (∀ r : Result, a.result ≠ r.code) → (answerDataOk a = true ↔ a.data = []))) ∧
  (∀ (lane : Lane) (bits : List Bool) (s : State), s.station.inReset = false → hearsPeers s = false →
    exec (.laneFrameEnd lane bits) s = .next (afterEvent s (modRx lane (fun x => { x with carrying := false }) s))) ∧
  (∀ (lane : Lane) (tag : Lane) (s : State),
    let seen := modRx lane (fun x => { x with tagSeen := some tag }) s
    (seen.link.tagStatus = s.link.tagStatus → seeTag lane (some tag) s = seen) ∧
    (seen.link.tagStatus ≠ s.link.tagStatus → seeTag lane (some tag) s = post (.tagStatus seen.link.tagStatus) seen)) ∧
  ∀ (lane : Lane) (bits : List Bool) (s : State), s.station.inReset = false → hearsPeers s = true →
    let r := s.link.rx lane
    let heard := modRx lane (fun x => { x with carrying := false }) s
    let good := fun (x : Receiver) => { x with carrying := false, goodRun := x.goodRun + 1, badRun := 0 }
    let bad := fun (x : Receiver) =>
      { x with
        carrying := false
        goodRun := 0
        badRun := x.badRun + 1
        errors := if x.state = .locked then min (x.errors + 1) 255 else x.errors }
    let row := exec (.laneFrameEnd lane bits) s
    (r.state = .down ∨ r.state = .stuck → row = .next (afterEvent s heard)) ∧
    (receive bits = none → r.state = .hunt ∨ (r.state = .locked ∧ r.badRun < 3) → row = .next (afterEvent s (modRx lane bad s))) ∧
    (receive bits = none → r.state = .locked → 3 ≤ r.badRun →
      row = .next (afterEvent s (moveLane lane .hunt (modRx lane bad s)))) ∧
    ∀ rc, receive bits = some rc →
      let counted := seeTag lane (some rc.tag) (modRx lane good s)
      (r.state = .hunt → r.goodRun + 1 < s.cfg.lockCount → row = .next (afterEvent s counted)) ∧
      (r.state = .hunt → s.cfg.lockCount ≤ r.goodRun + 1 →
        row = .next (afterEvent s (seeTag lane (some rc.tag) (moveLane lane .locked (modRx lane good s))))) ∧
      (r.state = .locked → counted.link.miswired lane = true → row = .next (afterEvent s counted)) ∧
      (r.state = .locked → counted.link.miswired lane = false →
        let opened := modRx lane (fun x => { x with window := some rc.check }) counted
        (∀ check, (s.link.rx lane.other).window = some check →
          let closed := modRx lane.other (fun x => { x with window := none }) counted
          (check = rc.check → row = .next (afterEvent s closed)) ∧
          (check ≠ rc.check →
            row = .next (afterEvent s
              { closed with link := { closed.link with disagree := min (s.link.disagree + 1) 255 } }))) ∧
        ((s.link.rx lane.other).window = none →
          (s.station.state = .offline ∨ s.station.state = .configured ∨ s.station.state = .duplicate →
            row = .next (afterEvent s opened)) ∧
          (s.station.state = .joining ∨ inService s = true → rc.frame.source = own s →
            row = .next (afterEvent s
              (post (.stationState .duplicate (some (own s)))
                { opened with
                  tx := { s.tx with slots := [], watched := [] }
                  router := { s.router with pause := false }
                  rx := []
                  station := { s.station with state := .duplicate, joinWindow := none, isolation := none }
                  beacon := { s.beacon with interval := none } }))) ∧
          (s.station.state = .joining ∨ inService s = true → rc.frame.source ≠ own s →
            let f := rc.frame
            let here := f.dest % 128 = own s ∨ f.dest % 128 = 127
            let kept := s.station.state = .joining → f.kind = Kind.beacon ∨ f.kind = Kind.stock ∨ f.kind = Kind.period
            let restart := f.kind = Kind.beacon ∧ here ∧ deliverable f = true ∧ s.rx.length < 16 ∧
              ∃ b p old, rBeacon.exact f.payload = some b ∧ findPeer s f.source = some p ∧ p.joinAge = some old ∧ b.joinAge ≤ old ∧
                ¬(b.joinAge = 4294967295 ∧ old = 4294967295) ∧ ¬(b.joinAge = 0 ∧ old = 0)
            ∀ (quiet : Bool) (refreshed : State), (quiet = true ↔ restart) →
              (isStation f.source = true ∧ refreshed = refreshPeer f.source quiet opened) ∨
                (isStation f.source = false ∧ refreshed = opened) →
              (¬(here ∧ kept) → row = .next (afterEvent s refreshed)) ∧
              (here → kept → 16 ≤ s.rx.length →
                row = .next (afterEvent s { refreshed with link := { refreshed.link with overrun := true } })) ∧
              (here → kept → s.rx.length < 16 →
                row = .next (afterEvent s
                  { refreshed with rx := (s.rx ++ [f]).dropWhile fun x => !deliverable x })))))

/-- The transmitter's rows. It watches the LOCKED lanes, or with none LOCKED those DOWN or HUNT, and both in LOOPBACK; nothing begins in a
state that sends nothing, with no frame waiting, with one on the wire, with no lane to watch, or while a watched lane carries a peer's frame
(R134, R155). The lowest class's earliest frame begins, keeps its slot with its age raised on a loss, waits again after a
fault and is discarded at the fourth, and leaves the queue when sent (R153, R155, R157 to R159). In LOOPBACK there is nobody to lose to,
and each frame sent is received at both receivers as if from a peer: the merge keeps one copy, the filter and the receive queue act as
ever, and a frame of this station's own number changes no state; a frame broken off counts as malformed at both, which stay LOCKED; and
no block but the exchange machinery takes a looped frame (R137). That a loss leaves the lanes alone (log entry 26), that the watched
lanes are then emptied (log entry 50), that a looped frame is received within the event that ends or breaks it (log entry 25) and that
the other rows discard it (log entry 34) are the model's choices. -/
def Obligations.TransmitterWorksTheQueue : Prop :=
  -- the watched lanes, and when nothing begins
  (∀ s : State,
    let a := s.link.a.state
    let b := s.link.b.state
    let waking := fun (st : RxState) => st = .down ∨ st = .hunt
    let taken := fun (onA onB : Bool) => (if onA then [Lane.A] else []) ++ (if onB then [Lane.B] else [])
    (s.station.state = .loopback → watchedLanes s = [.A, .B]) ∧
    (s.station.state ≠ .loopback → a = .locked ∨ b = .locked → watchedLanes s = taken (decide (a = .locked)) (decide (b = .locked))) ∧
    (s.station.state ≠ .loopback → a ≠ .locked → b ≠ .locked →
      watchedLanes s = taken (decide (waking a)) (decide (waking b)))) ∧
  (∀ s : State, s.station.inReset = false →
    (s.station.state ≠ .online ∧ s.station.state ≠ .loopback) ∨ s.tx.slots = [] ∨ (∃ x ∈ s.tx.slots, x.onWire = true) ∨
      watchedLanes s = [] ∨ (s.station.state = .online ∧ ∃ l ∈ watchedLanes s, (s.link.rx l).carrying = true) →
    exec .transmitStart s = .next (afterEvent s s)) ∧
  (∀ (before : List Slot) (x : Slot) (after : List Slot) (s : State), s.station.inReset = false → s.tx.slots = before ++ x :: after →
    (∀ y ∈ before ++ after, y.onWire = false) →
    let slots := fun (l : List Slot) (watched : List Lane) => ({ s with tx := { s.tx with slots := l, watched := watched } } : State)
    let first := (∀ y ∈ before, kindClass x.frame.kind < kindClass y.frame.kind) ∧
      ∀ y ∈ after, kindClass x.frame.kind ≤ kindClass y.frame.kind
    let begins := before ++ { x with begun := true, onWire := true } :: after
    let faulted := slots (before ++ { x with faults := x.faults + 1, onWire := false } :: after) []
    let discarded := post (.txFaultDiscard x.frame.kind x.frame.dest)
      { slots (before ++ after) [] with router := { s.router with pause := false } }
    let sent : State :=
      { slots (before ++ after) [] with
        router := { s.router with pause := false }
        beacon := { s.beacon with sent := s.beacon.sent || x.frame.kind == Kind.beacon } }
    (x.onWire = false → s.station.state = .online → first → watchedLanes s ≠ [] →
      (∀ l ∈ watchedLanes s, (s.link.rx l).carrying = false) →
      exec .transmitStart s = .next (afterEvent s (slots begins (watchedLanes s)))) ∧
    (x.onWire = true → s.station.state ≠ .loopback →
      exec .arbitrationLost s =
        .next (afterEvent s (slots (before ++ { x with age := min (x.age + 1) 7, onWire := false } :: after) [])) ∧
      (x.faults < 3 → exec .transmitFault s = .next (afterEvent s faulted)) ∧
      (3 ≤ x.faults → exec .transmitFault s = .next (afterEvent s discarded)) ∧
      exec .transmitComplete s = .next (afterEvent s sent)) ∧
    -- in LOOPBACK
    (s.station.state = .loopback →
      (x.onWire = false → first → exec .transmitStart s = .next (afterEvent s (slots begins [.A, .B]))) ∧
      exec .arbitrationLost s = .next (afterEvent s s) ∧
      (x.onWire = true →
        let broken := fun (r : Receiver) =>
          { r with goodRun := 0, badRun := r.badRun + 1, errors := if r.state = .locked then min (r.errors + 1) 255 else r.errors }
        let looped := fun (u : State) => ({ u with link := { u.link with a := broken u.link.a, b := broken u.link.b } } : State)
        (x.faults < 3 → exec .transmitFault s = .next (afterEvent s (looped faulted))) ∧
        (3 ≤ x.faults → exec .transmitFault s = .next (afterEvent s (looped discarded)))) ∧
      (x.onWire = true → own s < 128 → x.age < 8 → x.frame.kind < 256 → x.frame.dest < 256 → x.frame.tag < 256 →
        x.frame.payload.length ≤ 200 → s.link.a.state = .locked → s.link.b.state = .locked → s.link.a.window = none →
        s.link.b.window = none → s.link.a.tagSeen = none ∨ s.link.a.tagSeen = some .A →
        s.link.b.tagSeen = none ∨ s.link.b.tagSeen = some .B →
        let heard := fun (lane : Lane) (r : Receiver) => { r with goodRun := r.goodRun + 1, badRun := 0, tagSeen := some lane }
        let received : State := { sent with link := { s.link with a := heard .A s.link.a, b := heard .B s.link.b } }
        let f : Frame := ⟨kindClass x.frame.kind, x.age, own s, x.frame.kind, x.frame.dest, x.frame.tag, x.frame.payload⟩
        let here := f.dest % 128 = own s ∨ f.dest % 128 = 127
        (¬here → exec .transmitComplete s = .next (afterEvent s received)) ∧
        (here → s.rx.length < 16 →
          exec .transmitComplete s =
            .next (afterEvent s { received with rx := (s.rx ++ [f]).dropWhile fun y => !deliverable y })) ∧
        (here → 16 ≤ s.rx.length →
          exec .transmitComplete s =
            .next (afterEvent s { received with link := { received.link with overrun := true } }))))) ∧
  (∀ row ∈ [(Kind.beacon, Instr.beaconFrame), (Kind.period, .periodFrame), (Kind.stock, .stockFrame), (Kind.add, .addFrame),
      (Kind.lineVoid, .lineVoidFrame), (Kind.tabQuery, .tabQueryFrame), (Kind.split, .splitFrame), (Kind.withdraw, .withdrawFrame),
      (Kind.claim, .claimFrame), (Kind.settle, .settleFrame), (Kind.release, .releaseFrame), (Kind.claimEnd, .claimEndFrame),
      (Kind.ticket, .ticketFrame), (Kind.ticketVoid, .ticketVoidFrame), (Kind.ticketQuery, .ticketQueryFrame),
      (Kind.ticketState, .ticketStateFrame)],
    ∀ (f : Frame) (rest : List Frame) (s : State), s.station.state = .loopback → frameReady row.1 f rest s = true →
      exec row.2 s = .next (afterFrame s (popped rest s)))

/-! ## Invariants of the whole block -/

/-- Every step keeps the queues, lists and tables that `CapacitiesHold` names within their capacities and the counts it names within their
ranges. -/
def Obligations.StepKeepsCapacities : Prop :=
  ∀ s t : State, CapacitiesHold s → step s = .next t → CapacitiesHold t

/-- Every step keeps the numbers that name records distinct and in range: tabs, tickets, claims, portion entries, stock entries and live
exchange tags (R2, R13, R46, R119, R129, R165). -/
def Obligations.StepKeepsKeysDistinct : Prop :=
  ∀ s t : State, KeysDistinct s → step s = .next t → KeysDistinct t

/-- The block right after reset meets every invariant. -/
def Obligations.ResetMeetsTheInvariants : Prop :=
  CapacitiesHold State.reset ∧ KeysDistinct State.reset ∧ TabsCurrent State.reset ∧ SplitsSound State.reset ∧
  DirectorySound State.reset ∧ KitchenSound State.reset ∧ PortionsBalance State.reset
end

