-- ==== Sys2Proof/Laws/State.lean ====
section
/-! SUPPORT. The fields that each plain update of the state leaves as they were: one lemma per field and update. -/

namespace Sys2Proof.Machine

variable (s : State)

/-! ### post -/

@[simp] theorem post_station (n : Notice) : (post n s).station = s.station := rfl
@[simp] theorem post_cfg (n : Notice) : (post n s).cfg = s.cfg := rfl
@[simp] theorem post_tabs (n : Notice) : (post n s).tabs = s.tabs := rfl
@[simp] theorem post_engine (n : Notice) : (post n s).engine = s.engine := rfl
@[simp] theorem post_claims (n : Notice) : (post n s).claims = s.claims := rfl
@[simp] theorem post_takings (n : Notice) : (post n s).takings = s.takings := rfl
@[simp] theorem post_dir (n : Notice) : (post n s).dir = s.dir := rfl
@[simp] theorem post_beacon (n : Notice) : (post n s).beacon = s.beacon := rfl
@[simp] theorem post_router (n : Notice) : (post n s).router = s.router := rfl
@[simp] theorem post_kitchen (n : Notice) : (post n s).kitchen = s.kitchen := rfl
@[simp] theorem post_portions (n : Notice) : (post n s).portions = s.portions := rfl
@[simp] theorem post_stock (n : Notice) : (post n s).stock = s.stock := rfl
@[simp] theorem post_link (n : Notice) : (post n s).link = s.link := rfl
@[simp] theorem post_tx (n : Notice) : (post n s).tx = s.tx := rfl
@[simp] theorem post_rx (n : Notice) : (post n s).rx = s.rx := rfl
@[simp] theorem post_exch (n : Notice) : (post n s).exch = s.exch := rfl
@[simp] theorem post_pending (n : Notice) : (post n s).pending = s.pending := rfl

/-! ### modPort -/

@[simp] theorem modPort_station (f : Port → Port) : (modPort f s).station = s.station := rfl
@[simp] theorem modPort_cfg (f : Port → Port) : (modPort f s).cfg = s.cfg := rfl
@[simp] theorem modPort_tabs (f : Port → Port) : (modPort f s).tabs = s.tabs := rfl
@[simp] theorem modPort_engine (f : Port → Port) : (modPort f s).engine = s.engine := rfl
@[simp] theorem modPort_claims (f : Port → Port) : (modPort f s).claims = s.claims := rfl
@[simp] theorem modPort_takings (f : Port → Port) : (modPort f s).takings = s.takings := rfl
@[simp] theorem modPort_dir (f : Port → Port) : (modPort f s).dir = s.dir := rfl
@[simp] theorem modPort_beacon (f : Port → Port) : (modPort f s).beacon = s.beacon := rfl
@[simp] theorem modPort_router (f : Port → Port) : (modPort f s).router = s.router := rfl
@[simp] theorem modPort_kitchen (f : Port → Port) : (modPort f s).kitchen = s.kitchen := rfl
@[simp] theorem modPort_portions (f : Port → Port) : (modPort f s).portions = s.portions := rfl
@[simp] theorem modPort_stock (f : Port → Port) : (modPort f s).stock = s.stock := rfl
@[simp] theorem modPort_link (f : Port → Port) : (modPort f s).link = s.link := rfl
@[simp] theorem modPort_tx (f : Port → Port) : (modPort f s).tx = s.tx := rfl
@[simp] theorem modPort_rx (f : Port → Port) : (modPort f s).rx = s.rx := rfl
@[simp] theorem modPort_exch (f : Port → Port) : (modPort f s).exch = s.exch := rfl
@[simp] theorem modPort_pending (f : Port → Port) : (modPort f s).pending = s.pending := rfl

/-! ### setAnswer -/

@[simp] theorem setAnswer_station (c : Instr) (r : Reply) : (setAnswer c r s).station = s.station := rfl
@[simp] theorem setAnswer_cfg (c : Instr) (r : Reply) : (setAnswer c r s).cfg = s.cfg := rfl
@[simp] theorem setAnswer_tabs (c : Instr) (r : Reply) : (setAnswer c r s).tabs = s.tabs := rfl
@[simp] theorem setAnswer_engine (c : Instr) (r : Reply) : (setAnswer c r s).engine = s.engine := rfl
@[simp] theorem setAnswer_claims (c : Instr) (r : Reply) : (setAnswer c r s).claims = s.claims := rfl
@[simp] theorem setAnswer_takings (c : Instr) (r : Reply) : (setAnswer c r s).takings = s.takings := rfl
@[simp] theorem setAnswer_dir (c : Instr) (r : Reply) : (setAnswer c r s).dir = s.dir := rfl
@[simp] theorem setAnswer_beacon (c : Instr) (r : Reply) : (setAnswer c r s).beacon = s.beacon := rfl
@[simp] theorem setAnswer_router (c : Instr) (r : Reply) : (setAnswer c r s).router = s.router := rfl
@[simp] theorem setAnswer_kitchen (c : Instr) (r : Reply) : (setAnswer c r s).kitchen = s.kitchen := rfl
@[simp] theorem setAnswer_portions (c : Instr) (r : Reply) : (setAnswer c r s).portions = s.portions := rfl
@[simp] theorem setAnswer_stock (c : Instr) (r : Reply) : (setAnswer c r s).stock = s.stock := rfl
@[simp] theorem setAnswer_link (c : Instr) (r : Reply) : (setAnswer c r s).link = s.link := rfl
@[simp] theorem setAnswer_tx (c : Instr) (r : Reply) : (setAnswer c r s).tx = s.tx := rfl
@[simp] theorem setAnswer_rx (c : Instr) (r : Reply) : (setAnswer c r s).rx = s.rx := rfl
@[simp] theorem setAnswer_exch (c : Instr) (r : Reply) : (setAnswer c r s).exch = s.exch := rfl
@[simp] theorem setAnswer_pending (c : Instr) (r : Reply) : (setAnswer c r s).pending = s.pending := rfl

/-! ### modTab -/

@[simp] theorem modTab_station (n : Nat) (f : Tab → Tab) : (modTab n f s).station = s.station := rfl
@[simp] theorem modTab_cfg (n : Nat) (f : Tab → Tab) : (modTab n f s).cfg = s.cfg := rfl
@[simp] theorem modTab_engine (n : Nat) (f : Tab → Tab) : (modTab n f s).engine = s.engine := rfl
@[simp] theorem modTab_claims (n : Nat) (f : Tab → Tab) : (modTab n f s).claims = s.claims := rfl
@[simp] theorem modTab_takings (n : Nat) (f : Tab → Tab) : (modTab n f s).takings = s.takings := rfl
@[simp] theorem modTab_dir (n : Nat) (f : Tab → Tab) : (modTab n f s).dir = s.dir := rfl
@[simp] theorem modTab_beacon (n : Nat) (f : Tab → Tab) : (modTab n f s).beacon = s.beacon := rfl
@[simp] theorem modTab_router (n : Nat) (f : Tab → Tab) : (modTab n f s).router = s.router := rfl
@[simp] theorem modTab_kitchen (n : Nat) (f : Tab → Tab) : (modTab n f s).kitchen = s.kitchen := rfl
@[simp] theorem modTab_portions (n : Nat) (f : Tab → Tab) : (modTab n f s).portions = s.portions := rfl
@[simp] theorem modTab_stock (n : Nat) (f : Tab → Tab) : (modTab n f s).stock = s.stock := rfl
@[simp] theorem modTab_link (n : Nat) (f : Tab → Tab) : (modTab n f s).link = s.link := rfl
@[simp] theorem modTab_tx (n : Nat) (f : Tab → Tab) : (modTab n f s).tx = s.tx := rfl
@[simp] theorem modTab_rx (n : Nat) (f : Tab → Tab) : (modTab n f s).rx = s.rx := rfl
@[simp] theorem modTab_exch (n : Nat) (f : Tab → Tab) : (modTab n f s).exch = s.exch := rfl
@[simp] theorem modTab_port (n : Nat) (f : Tab → Tab) : (modTab n f s).port = s.port := rfl
@[simp] theorem modTab_pending (n : Nat) (f : Tab → Tab) : (modTab n f s).pending = s.pending := rfl

/-! ### modShare -/

@[simp] theorem modShare_station (tab share : Nat) (f : Share → Share) : (modShare tab share f s).station = s.station := rfl
@[simp] theorem modShare_cfg (tab share : Nat) (f : Share → Share) : (modShare tab share f s).cfg = s.cfg := rfl
@[simp] theorem modShare_engine (tab share : Nat) (f : Share → Share) : (modShare tab share f s).engine = s.engine := rfl
@[simp] theorem modShare_claims (tab share : Nat) (f : Share → Share) : (modShare tab share f s).claims = s.claims := rfl
@[simp] theorem modShare_takings (tab share : Nat) (f : Share → Share) : (modShare tab share f s).takings = s.takings := rfl
@[simp] theorem modShare_dir (tab share : Nat) (f : Share → Share) : (modShare tab share f s).dir = s.dir := rfl
@[simp] theorem modShare_beacon (tab share : Nat) (f : Share → Share) : (modShare tab share f s).beacon = s.beacon := rfl
@[simp] theorem modShare_router (tab share : Nat) (f : Share → Share) : (modShare tab share f s).router = s.router := rfl
@[simp] theorem modShare_kitchen (tab share : Nat) (f : Share → Share) : (modShare tab share f s).kitchen = s.kitchen := rfl
@[simp] theorem modShare_portions (tab share : Nat) (f : Share → Share) : (modShare tab share f s).portions = s.portions := rfl
@[simp] theorem modShare_stock (tab share : Nat) (f : Share → Share) : (modShare tab share f s).stock = s.stock := rfl
@[simp] theorem modShare_link (tab share : Nat) (f : Share → Share) : (modShare tab share f s).link = s.link := rfl
@[simp] theorem modShare_tx (tab share : Nat) (f : Share → Share) : (modShare tab share f s).tx = s.tx := rfl
@[simp] theorem modShare_rx (tab share : Nat) (f : Share → Share) : (modShare tab share f s).rx = s.rx := rfl
@[simp] theorem modShare_exch (tab share : Nat) (f : Share → Share) : (modShare tab share f s).exch = s.exch := rfl
@[simp] theorem modShare_port (tab share : Nat) (f : Share → Share) : (modShare tab share f s).port = s.port := rfl
@[simp] theorem modShare_pending (tab share : Nat) (f : Share → Share) : (modShare tab share f s).pending = s.pending := rfl

/-! ### setLineState -/

@[simp] theorem setLineState_station (tab line : Nat) (st : LineState) : (setLineState tab line st s).station = s.station := rfl
@[simp] theorem setLineState_cfg (tab line : Nat) (st : LineState) : (setLineState tab line st s).cfg = s.cfg := rfl
@[simp] theorem setLineState_engine (tab line : Nat) (st : LineState) : (setLineState tab line st s).engine = s.engine := rfl
@[simp] theorem setLineState_claims (tab line : Nat) (st : LineState) : (setLineState tab line st s).claims = s.claims := rfl
@[simp] theorem setLineState_takings (tab line : Nat) (st : LineState) : (setLineState tab line st s).takings = s.takings := rfl
@[simp] theorem setLineState_dir (tab line : Nat) (st : LineState) : (setLineState tab line st s).dir = s.dir := rfl
@[simp] theorem setLineState_beacon (tab line : Nat) (st : LineState) : (setLineState tab line st s).beacon = s.beacon := rfl
@[simp] theorem setLineState_router (tab line : Nat) (st : LineState) : (setLineState tab line st s).router = s.router := rfl
@[simp] theorem setLineState_kitchen (tab line : Nat) (st : LineState) : (setLineState tab line st s).kitchen = s.kitchen := rfl
@[simp] theorem setLineState_portions (tab line : Nat) (st : LineState) : (setLineState tab line st s).portions = s.portions := rfl
@[simp] theorem setLineState_stock (tab line : Nat) (st : LineState) : (setLineState tab line st s).stock = s.stock := rfl
@[simp] theorem setLineState_link (tab line : Nat) (st : LineState) : (setLineState tab line st s).link = s.link := rfl
@[simp] theorem setLineState_tx (tab line : Nat) (st : LineState) : (setLineState tab line st s).tx = s.tx := rfl
@[simp] theorem setLineState_rx (tab line : Nat) (st : LineState) : (setLineState tab line st s).rx = s.rx := rfl
@[simp] theorem setLineState_exch (tab line : Nat) (st : LineState) : (setLineState tab line st s).exch = s.exch := rfl
@[simp] theorem setLineState_port (tab line : Nat) (st : LineState) : (setLineState tab line st s).port = s.port := rfl
@[simp] theorem setLineState_pending (tab line : Nat) (st : LineState) : (setLineState tab line st s).pending = s.pending := rfl

/-! ### moveLines -/

@[simp] theorem moveLines_station (tab : Nat) (ls : List Nat) (p : LineState → Bool) (st : LineState) : (moveLines tab ls p st s).station = s.station := rfl
@[simp] theorem moveLines_cfg (tab : Nat) (ls : List Nat) (p : LineState → Bool) (st : LineState) : (moveLines tab ls p st s).cfg = s.cfg := rfl
@[simp] theorem moveLines_engine (tab : Nat) (ls : List Nat) (p : LineState → Bool) (st : LineState) : (moveLines tab ls p st s).engine = s.engine := rfl
@[simp] theorem moveLines_claims (tab : Nat) (ls : List Nat) (p : LineState → Bool) (st : LineState) : (moveLines tab ls p st s).claims = s.claims := rfl
@[simp] theorem moveLines_takings (tab : Nat) (ls : List Nat) (p : LineState → Bool) (st : LineState) : (moveLines tab ls p st s).takings = s.takings := rfl
@[simp] theorem moveLines_dir (tab : Nat) (ls : List Nat) (p : LineState → Bool) (st : LineState) : (moveLines tab ls p st s).dir = s.dir := rfl
@[simp] theorem moveLines_beacon (tab : Nat) (ls : List Nat) (p : LineState → Bool) (st : LineState) : (moveLines tab ls p st s).beacon = s.beacon := rfl
@[simp] theorem moveLines_router (tab : Nat) (ls : List Nat) (p : LineState → Bool) (st : LineState) : (moveLines tab ls p st s).router = s.router := rfl
@[simp] theorem moveLines_kitchen (tab : Nat) (ls : List Nat) (p : LineState → Bool) (st : LineState) : (moveLines tab ls p st s).kitchen = s.kitchen := rfl
@[simp] theorem moveLines_portions (tab : Nat) (ls : List Nat) (p : LineState → Bool) (st : LineState) : (moveLines tab ls p st s).portions = s.portions := rfl
@[simp] theorem moveLines_stock (tab : Nat) (ls : List Nat) (p : LineState → Bool) (st : LineState) : (moveLines tab ls p st s).stock = s.stock := rfl
@[simp] theorem moveLines_link (tab : Nat) (ls : List Nat) (p : LineState → Bool) (st : LineState) : (moveLines tab ls p st s).link = s.link := rfl
@[simp] theorem moveLines_tx (tab : Nat) (ls : List Nat) (p : LineState → Bool) (st : LineState) : (moveLines tab ls p st s).tx = s.tx := rfl
@[simp] theorem moveLines_rx (tab : Nat) (ls : List Nat) (p : LineState → Bool) (st : LineState) : (moveLines tab ls p st s).rx = s.rx := rfl
@[simp] theorem moveLines_exch (tab : Nat) (ls : List Nat) (p : LineState → Bool) (st : LineState) : (moveLines tab ls p st s).exch = s.exch := rfl
@[simp] theorem moveLines_port (tab : Nat) (ls : List Nat) (p : LineState → Bool) (st : LineState) : (moveLines tab ls p st s).port = s.port := rfl
@[simp] theorem moveLines_pending (tab : Nat) (ls : List Nat) (p : LineState → Bool) (st : LineState) : (moveLines tab ls p st s).pending = s.pending := rfl

/-! ### releaseClaimant -/

@[simp] theorem releaseClaimant_station (k : Nat) : (releaseClaimant k s).station = s.station := rfl
@[simp] theorem releaseClaimant_cfg (k : Nat) : (releaseClaimant k s).cfg = s.cfg := rfl
@[simp] theorem releaseClaimant_engine (k : Nat) : (releaseClaimant k s).engine = s.engine := rfl
@[simp] theorem releaseClaimant_claims (k : Nat) : (releaseClaimant k s).claims = s.claims := rfl
@[simp] theorem releaseClaimant_takings (k : Nat) : (releaseClaimant k s).takings = s.takings := rfl
@[simp] theorem releaseClaimant_dir (k : Nat) : (releaseClaimant k s).dir = s.dir := rfl
@[simp] theorem releaseClaimant_beacon (k : Nat) : (releaseClaimant k s).beacon = s.beacon := rfl
@[simp] theorem releaseClaimant_router (k : Nat) : (releaseClaimant k s).router = s.router := rfl
@[simp] theorem releaseClaimant_kitchen (k : Nat) : (releaseClaimant k s).kitchen = s.kitchen := rfl
@[simp] theorem releaseClaimant_portions (k : Nat) : (releaseClaimant k s).portions = s.portions := rfl
@[simp] theorem releaseClaimant_stock (k : Nat) : (releaseClaimant k s).stock = s.stock := rfl
@[simp] theorem releaseClaimant_link (k : Nat) : (releaseClaimant k s).link = s.link := rfl
@[simp] theorem releaseClaimant_tx (k : Nat) : (releaseClaimant k s).tx = s.tx := rfl
@[simp] theorem releaseClaimant_rx (k : Nat) : (releaseClaimant k s).rx = s.rx := rfl
@[simp] theorem releaseClaimant_exch (k : Nat) : (releaseClaimant k s).exch = s.exch := rfl
@[simp] theorem releaseClaimant_port (k : Nat) : (releaseClaimant k s).port = s.port := rfl
@[simp] theorem releaseClaimant_pending (k : Nat) : (releaseClaimant k s).pending = s.pending := rfl

/-! ### modClaim -/

@[simp] theorem modClaim_station (h t x : Nat) (f : ClaimEntry → ClaimEntry) : (modClaim h t x f s).station = s.station := rfl
@[simp] theorem modClaim_cfg (h t x : Nat) (f : ClaimEntry → ClaimEntry) : (modClaim h t x f s).cfg = s.cfg := rfl
@[simp] theorem modClaim_tabs (h t x : Nat) (f : ClaimEntry → ClaimEntry) : (modClaim h t x f s).tabs = s.tabs := rfl
@[simp] theorem modClaim_engine (h t x : Nat) (f : ClaimEntry → ClaimEntry) : (modClaim h t x f s).engine = s.engine := rfl
@[simp] theorem modClaim_takings (h t x : Nat) (f : ClaimEntry → ClaimEntry) : (modClaim h t x f s).takings = s.takings := rfl
@[simp] theorem modClaim_dir (h t x : Nat) (f : ClaimEntry → ClaimEntry) : (modClaim h t x f s).dir = s.dir := rfl
@[simp] theorem modClaim_beacon (h t x : Nat) (f : ClaimEntry → ClaimEntry) : (modClaim h t x f s).beacon = s.beacon := rfl
@[simp] theorem modClaim_router (h t x : Nat) (f : ClaimEntry → ClaimEntry) : (modClaim h t x f s).router = s.router := rfl
@[simp] theorem modClaim_kitchen (h t x : Nat) (f : ClaimEntry → ClaimEntry) : (modClaim h t x f s).kitchen = s.kitchen := rfl
@[simp] theorem modClaim_portions (h t x : Nat) (f : ClaimEntry → ClaimEntry) : (modClaim h t x f s).portions = s.portions := rfl
@[simp] theorem modClaim_stock (h t x : Nat) (f : ClaimEntry → ClaimEntry) : (modClaim h t x f s).stock = s.stock := rfl
@[simp] theorem modClaim_link (h t x : Nat) (f : ClaimEntry → ClaimEntry) : (modClaim h t x f s).link = s.link := rfl
@[simp] theorem modClaim_tx (h t x : Nat) (f : ClaimEntry → ClaimEntry) : (modClaim h t x f s).tx = s.tx := rfl
@[simp] theorem modClaim_rx (h t x : Nat) (f : ClaimEntry → ClaimEntry) : (modClaim h t x f s).rx = s.rx := rfl
@[simp] theorem modClaim_exch (h t x : Nat) (f : ClaimEntry → ClaimEntry) : (modClaim h t x f s).exch = s.exch := rfl
@[simp] theorem modClaim_port (h t x : Nat) (f : ClaimEntry → ClaimEntry) : (modClaim h t x f s).port = s.port := rfl
@[simp] theorem modClaim_pending (h t x : Nat) (f : ClaimEntry → ClaimEntry) : (modClaim h t x f s).pending = s.pending := rfl

/-! ### dropClaim -/

@[simp] theorem dropClaim_station (h t x : Nat) : (dropClaim h t x s).station = s.station := rfl
@[simp] theorem dropClaim_cfg (h t x : Nat) : (dropClaim h t x s).cfg = s.cfg := rfl
@[simp] theorem dropClaim_tabs (h t x : Nat) : (dropClaim h t x s).tabs = s.tabs := rfl
@[simp] theorem dropClaim_engine (h t x : Nat) : (dropClaim h t x s).engine = s.engine := rfl
@[simp] theorem dropClaim_takings (h t x : Nat) : (dropClaim h t x s).takings = s.takings := rfl
@[simp] theorem dropClaim_dir (h t x : Nat) : (dropClaim h t x s).dir = s.dir := rfl
@[simp] theorem dropClaim_beacon (h t x : Nat) : (dropClaim h t x s).beacon = s.beacon := rfl
@[simp] theorem dropClaim_router (h t x : Nat) : (dropClaim h t x s).router = s.router := rfl
@[simp] theorem dropClaim_kitchen (h t x : Nat) : (dropClaim h t x s).kitchen = s.kitchen := rfl
@[simp] theorem dropClaim_portions (h t x : Nat) : (dropClaim h t x s).portions = s.portions := rfl
@[simp] theorem dropClaim_stock (h t x : Nat) : (dropClaim h t x s).stock = s.stock := rfl
@[simp] theorem dropClaim_link (h t x : Nat) : (dropClaim h t x s).link = s.link := rfl
@[simp] theorem dropClaim_tx (h t x : Nat) : (dropClaim h t x s).tx = s.tx := rfl
@[simp] theorem dropClaim_rx (h t x : Nat) : (dropClaim h t x s).rx = s.rx := rfl
@[simp] theorem dropClaim_exch (h t x : Nat) : (dropClaim h t x s).exch = s.exch := rfl
@[simp] theorem dropClaim_port (h t x : Nat) : (dropClaim h t x s).port = s.port := rfl
@[simp] theorem dropClaim_pending (h t x : Nat) : (dropClaim h t x s).pending = s.pending := rfl

/-! ### count -/

@[simp] theorem count_station (f : Accums → Accums) : (count f s).station = s.station := rfl
@[simp] theorem count_cfg (f : Accums → Accums) : (count f s).cfg = s.cfg := rfl
@[simp] theorem count_tabs (f : Accums → Accums) : (count f s).tabs = s.tabs := rfl
@[simp] theorem count_engine (f : Accums → Accums) : (count f s).engine = s.engine := rfl
@[simp] theorem count_claims (f : Accums → Accums) : (count f s).claims = s.claims := rfl
@[simp] theorem count_dir (f : Accums → Accums) : (count f s).dir = s.dir := rfl
@[simp] theorem count_beacon (f : Accums → Accums) : (count f s).beacon = s.beacon := rfl
@[simp] theorem count_router (f : Accums → Accums) : (count f s).router = s.router := rfl
@[simp] theorem count_kitchen (f : Accums → Accums) : (count f s).kitchen = s.kitchen := rfl
@[simp] theorem count_portions (f : Accums → Accums) : (count f s).portions = s.portions := rfl
@[simp] theorem count_stock (f : Accums → Accums) : (count f s).stock = s.stock := rfl
@[simp] theorem count_link (f : Accums → Accums) : (count f s).link = s.link := rfl
@[simp] theorem count_tx (f : Accums → Accums) : (count f s).tx = s.tx := rfl
@[simp] theorem count_rx (f : Accums → Accums) : (count f s).rx = s.rx := rfl
@[simp] theorem count_exch (f : Accums → Accums) : (count f s).exch = s.exch := rfl
@[simp] theorem count_port (f : Accums → Accums) : (count f s).port = s.port := rfl
@[simp] theorem count_pending (f : Accums → Accums) : (count f s).pending = s.pending := rfl

/-! ### modPeer -/

@[simp] theorem modPeer_station (k : Nat) (f : Peer → Peer) : (modPeer k f s).station = s.station := rfl
@[simp] theorem modPeer_cfg (k : Nat) (f : Peer → Peer) : (modPeer k f s).cfg = s.cfg := rfl
@[simp] theorem modPeer_tabs (k : Nat) (f : Peer → Peer) : (modPeer k f s).tabs = s.tabs := rfl
@[simp] theorem modPeer_engine (k : Nat) (f : Peer → Peer) : (modPeer k f s).engine = s.engine := rfl
@[simp] theorem modPeer_claims (k : Nat) (f : Peer → Peer) : (modPeer k f s).claims = s.claims := rfl
@[simp] theorem modPeer_takings (k : Nat) (f : Peer → Peer) : (modPeer k f s).takings = s.takings := rfl
@[simp] theorem modPeer_beacon (k : Nat) (f : Peer → Peer) : (modPeer k f s).beacon = s.beacon := rfl
@[simp] theorem modPeer_router (k : Nat) (f : Peer → Peer) : (modPeer k f s).router = s.router := rfl
@[simp] theorem modPeer_kitchen (k : Nat) (f : Peer → Peer) : (modPeer k f s).kitchen = s.kitchen := rfl
@[simp] theorem modPeer_portions (k : Nat) (f : Peer → Peer) : (modPeer k f s).portions = s.portions := rfl
@[simp] theorem modPeer_stock (k : Nat) (f : Peer → Peer) : (modPeer k f s).stock = s.stock := rfl
@[simp] theorem modPeer_link (k : Nat) (f : Peer → Peer) : (modPeer k f s).link = s.link := rfl
@[simp] theorem modPeer_tx (k : Nat) (f : Peer → Peer) : (modPeer k f s).tx = s.tx := rfl
@[simp] theorem modPeer_rx (k : Nat) (f : Peer → Peer) : (modPeer k f s).rx = s.rx := rfl
@[simp] theorem modPeer_exch (k : Nat) (f : Peer → Peer) : (modPeer k f s).exch = s.exch := rfl
@[simp] theorem modPeer_port (k : Nat) (f : Peer → Peer) : (modPeer k f s).port = s.port := rfl
@[simp] theorem modPeer_pending (k : Nat) (f : Peer → Peer) : (modPeer k f s).pending = s.pending := rfl

/-! ### modTicket -/

@[simp] theorem modTicket_station (n : Nat) (f : Ticket → Ticket) : (modTicket n f s).station = s.station := rfl
@[simp] theorem modTicket_cfg (n : Nat) (f : Ticket → Ticket) : (modTicket n f s).cfg = s.cfg := rfl
@[simp] theorem modTicket_tabs (n : Nat) (f : Ticket → Ticket) : (modTicket n f s).tabs = s.tabs := rfl
@[simp] theorem modTicket_engine (n : Nat) (f : Ticket → Ticket) : (modTicket n f s).engine = s.engine := rfl
@[simp] theorem modTicket_claims (n : Nat) (f : Ticket → Ticket) : (modTicket n f s).claims = s.claims := rfl
@[simp] theorem modTicket_takings (n : Nat) (f : Ticket → Ticket) : (modTicket n f s).takings = s.takings := rfl
@[simp] theorem modTicket_dir (n : Nat) (f : Ticket → Ticket) : (modTicket n f s).dir = s.dir := rfl
@[simp] theorem modTicket_beacon (n : Nat) (f : Ticket → Ticket) : (modTicket n f s).beacon = s.beacon := rfl
@[simp] theorem modTicket_kitchen (n : Nat) (f : Ticket → Ticket) : (modTicket n f s).kitchen = s.kitchen := rfl
@[simp] theorem modTicket_portions (n : Nat) (f : Ticket → Ticket) : (modTicket n f s).portions = s.portions := rfl
@[simp] theorem modTicket_stock (n : Nat) (f : Ticket → Ticket) : (modTicket n f s).stock = s.stock := rfl
@[simp] theorem modTicket_link (n : Nat) (f : Ticket → Ticket) : (modTicket n f s).link = s.link := rfl
@[simp] theorem modTicket_tx (n : Nat) (f : Ticket → Ticket) : (modTicket n f s).tx = s.tx := rfl
@[simp] theorem modTicket_rx (n : Nat) (f : Ticket → Ticket) : (modTicket n f s).rx = s.rx := rfl
@[simp] theorem modTicket_exch (n : Nat) (f : Ticket → Ticket) : (modTicket n f s).exch = s.exch := rfl
@[simp] theorem modTicket_port (n : Nat) (f : Ticket → Ticket) : (modTicket n f s).port = s.port := rfl
@[simp] theorem modTicket_pending (n : Nat) (f : Ticket → Ticket) : (modTicket n f s).pending = s.pending := rfl

/-! ### dropTicket -/

@[simp] theorem dropTicket_station (n : Nat) : (dropTicket n s).station = s.station := rfl
@[simp] theorem dropTicket_cfg (n : Nat) : (dropTicket n s).cfg = s.cfg := rfl
@[simp] theorem dropTicket_tabs (n : Nat) : (dropTicket n s).tabs = s.tabs := rfl
@[simp] theorem dropTicket_engine (n : Nat) : (dropTicket n s).engine = s.engine := rfl
@[simp] theorem dropTicket_claims (n : Nat) : (dropTicket n s).claims = s.claims := rfl
@[simp] theorem dropTicket_takings (n : Nat) : (dropTicket n s).takings = s.takings := rfl
@[simp] theorem dropTicket_dir (n : Nat) : (dropTicket n s).dir = s.dir := rfl
@[simp] theorem dropTicket_beacon (n : Nat) : (dropTicket n s).beacon = s.beacon := rfl
@[simp] theorem dropTicket_kitchen (n : Nat) : (dropTicket n s).kitchen = s.kitchen := rfl
@[simp] theorem dropTicket_portions (n : Nat) : (dropTicket n s).portions = s.portions := rfl
@[simp] theorem dropTicket_stock (n : Nat) : (dropTicket n s).stock = s.stock := rfl
@[simp] theorem dropTicket_link (n : Nat) : (dropTicket n s).link = s.link := rfl
@[simp] theorem dropTicket_tx (n : Nat) : (dropTicket n s).tx = s.tx := rfl
@[simp] theorem dropTicket_rx (n : Nat) : (dropTicket n s).rx = s.rx := rfl
@[simp] theorem dropTicket_exch (n : Nat) : (dropTicket n s).exch = s.exch := rfl
@[simp] theorem dropTicket_port (n : Nat) : (dropTicket n s).port = s.port := rfl
@[simp] theorem dropTicket_pending (n : Nat) : (dropTicket n s).pending = s.pending := rfl

/-! ### modPortion -/

@[simp] theorem modPortion_station (item : Nat) (f : Portion → Portion) : (modPortion item f s).station = s.station := rfl
@[simp] theorem modPortion_cfg (item : Nat) (f : Portion → Portion) : (modPortion item f s).cfg = s.cfg := rfl
@[simp] theorem modPortion_tabs (item : Nat) (f : Portion → Portion) : (modPortion item f s).tabs = s.tabs := rfl
@[simp] theorem modPortion_engine (item : Nat) (f : Portion → Portion) : (modPortion item f s).engine = s.engine := rfl
@[simp] theorem modPortion_claims (item : Nat) (f : Portion → Portion) : (modPortion item f s).claims = s.claims := rfl
@[simp] theorem modPortion_takings (item : Nat) (f : Portion → Portion) : (modPortion item f s).takings = s.takings := rfl
@[simp] theorem modPortion_dir (item : Nat) (f : Portion → Portion) : (modPortion item f s).dir = s.dir := rfl
@[simp] theorem modPortion_beacon (item : Nat) (f : Portion → Portion) : (modPortion item f s).beacon = s.beacon := rfl
@[simp] theorem modPortion_router (item : Nat) (f : Portion → Portion) : (modPortion item f s).router = s.router := rfl
@[simp] theorem modPortion_kitchen (item : Nat) (f : Portion → Portion) : (modPortion item f s).kitchen = s.kitchen := rfl
@[simp] theorem modPortion_stock (item : Nat) (f : Portion → Portion) : (modPortion item f s).stock = s.stock := rfl
@[simp] theorem modPortion_link (item : Nat) (f : Portion → Portion) : (modPortion item f s).link = s.link := rfl
@[simp] theorem modPortion_tx (item : Nat) (f : Portion → Portion) : (modPortion item f s).tx = s.tx := rfl
@[simp] theorem modPortion_rx (item : Nat) (f : Portion → Portion) : (modPortion item f s).rx = s.rx := rfl
@[simp] theorem modPortion_exch (item : Nat) (f : Portion → Portion) : (modPortion item f s).exch = s.exch := rfl
@[simp] theorem modPortion_port (item : Nat) (f : Portion → Portion) : (modPortion item f s).port = s.port := rfl
@[simp] theorem modPortion_pending (item : Nat) (f : Portion → Portion) : (modPortion item f s).pending = s.pending := rfl

/-! ### modKTicket -/

@[simp] theorem modKTicket_station (ref : Nat) (f : KTicket → KTicket) : (modKTicket ref f s).station = s.station := rfl
@[simp] theorem modKTicket_cfg (ref : Nat) (f : KTicket → KTicket) : (modKTicket ref f s).cfg = s.cfg := rfl
@[simp] theorem modKTicket_tabs (ref : Nat) (f : KTicket → KTicket) : (modKTicket ref f s).tabs = s.tabs := rfl
@[simp] theorem modKTicket_engine (ref : Nat) (f : KTicket → KTicket) : (modKTicket ref f s).engine = s.engine := rfl
@[simp] theorem modKTicket_claims (ref : Nat) (f : KTicket → KTicket) : (modKTicket ref f s).claims = s.claims := rfl
@[simp] theorem modKTicket_takings (ref : Nat) (f : KTicket → KTicket) : (modKTicket ref f s).takings = s.takings := rfl
@[simp] theorem modKTicket_dir (ref : Nat) (f : KTicket → KTicket) : (modKTicket ref f s).dir = s.dir := rfl
@[simp] theorem modKTicket_beacon (ref : Nat) (f : KTicket → KTicket) : (modKTicket ref f s).beacon = s.beacon := rfl
@[simp] theorem modKTicket_router (ref : Nat) (f : KTicket → KTicket) : (modKTicket ref f s).router = s.router := rfl
@[simp] theorem modKTicket_portions (ref : Nat) (f : KTicket → KTicket) : (modKTicket ref f s).portions = s.portions := rfl
@[simp] theorem modKTicket_stock (ref : Nat) (f : KTicket → KTicket) : (modKTicket ref f s).stock = s.stock := rfl
@[simp] theorem modKTicket_link (ref : Nat) (f : KTicket → KTicket) : (modKTicket ref f s).link = s.link := rfl
@[simp] theorem modKTicket_tx (ref : Nat) (f : KTicket → KTicket) : (modKTicket ref f s).tx = s.tx := rfl
@[simp] theorem modKTicket_rx (ref : Nat) (f : KTicket → KTicket) : (modKTicket ref f s).rx = s.rx := rfl
@[simp] theorem modKTicket_exch (ref : Nat) (f : KTicket → KTicket) : (modKTicket ref f s).exch = s.exch := rfl
@[simp] theorem modKTicket_port (ref : Nat) (f : KTicket → KTicket) : (modKTicket ref f s).port = s.port := rfl
@[simp] theorem modKTicket_pending (ref : Nat) (f : KTicket → KTicket) : (modKTicket ref f s).pending = s.pending := rfl

/-! ### dropStock -/

@[simp] theorem dropStock_station (k : Nat) : (dropStock k s).station = s.station := rfl
@[simp] theorem dropStock_cfg (k : Nat) : (dropStock k s).cfg = s.cfg := rfl
@[simp] theorem dropStock_tabs (k : Nat) : (dropStock k s).tabs = s.tabs := rfl
@[simp] theorem dropStock_engine (k : Nat) : (dropStock k s).engine = s.engine := rfl
@[simp] theorem dropStock_claims (k : Nat) : (dropStock k s).claims = s.claims := rfl
@[simp] theorem dropStock_takings (k : Nat) : (dropStock k s).takings = s.takings := rfl
@[simp] theorem dropStock_dir (k : Nat) : (dropStock k s).dir = s.dir := rfl
@[simp] theorem dropStock_beacon (k : Nat) : (dropStock k s).beacon = s.beacon := rfl
@[simp] theorem dropStock_router (k : Nat) : (dropStock k s).router = s.router := rfl
@[simp] theorem dropStock_kitchen (k : Nat) : (dropStock k s).kitchen = s.kitchen := rfl
@[simp] theorem dropStock_portions (k : Nat) : (dropStock k s).portions = s.portions := rfl
@[simp] theorem dropStock_link (k : Nat) : (dropStock k s).link = s.link := rfl
@[simp] theorem dropStock_tx (k : Nat) : (dropStock k s).tx = s.tx := rfl
@[simp] theorem dropStock_rx (k : Nat) : (dropStock k s).rx = s.rx := rfl
@[simp] theorem dropStock_exch (k : Nat) : (dropStock k s).exch = s.exch := rfl
@[simp] theorem dropStock_port (k : Nat) : (dropStock k s).port = s.port := rfl
@[simp] theorem dropStock_pending (k : Nat) : (dropStock k s).pending = s.pending := rfl

/-! ### modRx -/

@[simp] theorem modRx_station (lane : Lane) (f : Receiver → Receiver) : (modRx lane f s).station = s.station := rfl
@[simp] theorem modRx_cfg (lane : Lane) (f : Receiver → Receiver) : (modRx lane f s).cfg = s.cfg := rfl
@[simp] theorem modRx_tabs (lane : Lane) (f : Receiver → Receiver) : (modRx lane f s).tabs = s.tabs := rfl
@[simp] theorem modRx_engine (lane : Lane) (f : Receiver → Receiver) : (modRx lane f s).engine = s.engine := rfl
@[simp] theorem modRx_claims (lane : Lane) (f : Receiver → Receiver) : (modRx lane f s).claims = s.claims := rfl
@[simp] theorem modRx_takings (lane : Lane) (f : Receiver → Receiver) : (modRx lane f s).takings = s.takings := rfl
@[simp] theorem modRx_dir (lane : Lane) (f : Receiver → Receiver) : (modRx lane f s).dir = s.dir := rfl
@[simp] theorem modRx_beacon (lane : Lane) (f : Receiver → Receiver) : (modRx lane f s).beacon = s.beacon := rfl
@[simp] theorem modRx_router (lane : Lane) (f : Receiver → Receiver) : (modRx lane f s).router = s.router := rfl
@[simp] theorem modRx_kitchen (lane : Lane) (f : Receiver → Receiver) : (modRx lane f s).kitchen = s.kitchen := rfl
@[simp] theorem modRx_portions (lane : Lane) (f : Receiver → Receiver) : (modRx lane f s).portions = s.portions := rfl
@[simp] theorem modRx_stock (lane : Lane) (f : Receiver → Receiver) : (modRx lane f s).stock = s.stock := rfl
@[simp] theorem modRx_tx (lane : Lane) (f : Receiver → Receiver) : (modRx lane f s).tx = s.tx := rfl
@[simp] theorem modRx_rx (lane : Lane) (f : Receiver → Receiver) : (modRx lane f s).rx = s.rx := rfl
@[simp] theorem modRx_exch (lane : Lane) (f : Receiver → Receiver) : (modRx lane f s).exch = s.exch := rfl
@[simp] theorem modRx_port (lane : Lane) (f : Receiver → Receiver) : (modRx lane f s).port = s.port := rfl
@[simp] theorem modRx_pending (lane : Lane) (f : Receiver → Receiver) : (modRx lane f s).pending = s.pending := rfl

/-! ### settleRx -/

@[simp] theorem settleRx_station : (settleRx s).station = s.station := rfl
@[simp] theorem settleRx_cfg : (settleRx s).cfg = s.cfg := rfl
@[simp] theorem settleRx_tabs : (settleRx s).tabs = s.tabs := rfl
@[simp] theorem settleRx_engine : (settleRx s).engine = s.engine := rfl
@[simp] theorem settleRx_claims : (settleRx s).claims = s.claims := rfl
@[simp] theorem settleRx_takings : (settleRx s).takings = s.takings := rfl
@[simp] theorem settleRx_dir : (settleRx s).dir = s.dir := rfl
@[simp] theorem settleRx_beacon : (settleRx s).beacon = s.beacon := rfl
@[simp] theorem settleRx_router : (settleRx s).router = s.router := rfl
@[simp] theorem settleRx_kitchen : (settleRx s).kitchen = s.kitchen := rfl
@[simp] theorem settleRx_portions : (settleRx s).portions = s.portions := rfl
@[simp] theorem settleRx_stock : (settleRx s).stock = s.stock := rfl
@[simp] theorem settleRx_link : (settleRx s).link = s.link := rfl
@[simp] theorem settleRx_tx : (settleRx s).tx = s.tx := rfl
@[simp] theorem settleRx_exch : (settleRx s).exch = s.exch := rfl
@[simp] theorem settleRx_port : (settleRx s).port = s.port := rfl
@[simp] theorem settleRx_pending : (settleRx s).pending = s.pending := rfl

/-! ### popped -/

@[simp] theorem popped_station (rest : List Frame) : (popped rest s).station = s.station := rfl
@[simp] theorem popped_cfg (rest : List Frame) : (popped rest s).cfg = s.cfg := rfl
@[simp] theorem popped_tabs (rest : List Frame) : (popped rest s).tabs = s.tabs := rfl
@[simp] theorem popped_engine (rest : List Frame) : (popped rest s).engine = s.engine := rfl
@[simp] theorem popped_claims (rest : List Frame) : (popped rest s).claims = s.claims := rfl
@[simp] theorem popped_takings (rest : List Frame) : (popped rest s).takings = s.takings := rfl
@[simp] theorem popped_dir (rest : List Frame) : (popped rest s).dir = s.dir := rfl
@[simp] theorem popped_beacon (rest : List Frame) : (popped rest s).beacon = s.beacon := rfl
@[simp] theorem popped_router (rest : List Frame) : (popped rest s).router = s.router := rfl
@[simp] theorem popped_kitchen (rest : List Frame) : (popped rest s).kitchen = s.kitchen := rfl
@[simp] theorem popped_portions (rest : List Frame) : (popped rest s).portions = s.portions := rfl
@[simp] theorem popped_stock (rest : List Frame) : (popped rest s).stock = s.stock := rfl
@[simp] theorem popped_link (rest : List Frame) : (popped rest s).link = s.link := rfl
@[simp] theorem popped_tx (rest : List Frame) : (popped rest s).tx = s.tx := rfl
@[simp] theorem popped_exch (rest : List Frame) : (popped rest s).exch = s.exch := rfl
@[simp] theorem popped_port (rest : List Frame) : (popped rest s).port = s.port := rfl
@[simp] theorem popped_pending (rest : List Frame) : (popped rest s).pending = s.pending := rfl

/-! ### freeEntry -/

@[simp] theorem freeEntry_station (tag : Nat) : (freeEntry tag s).station = s.station := rfl
@[simp] theorem freeEntry_cfg (tag : Nat) : (freeEntry tag s).cfg = s.cfg := rfl
@[simp] theorem freeEntry_tabs (tag : Nat) : (freeEntry tag s).tabs = s.tabs := rfl
@[simp] theorem freeEntry_engine (tag : Nat) : (freeEntry tag s).engine = s.engine := rfl
@[simp] theorem freeEntry_claims (tag : Nat) : (freeEntry tag s).claims = s.claims := rfl
@[simp] theorem freeEntry_takings (tag : Nat) : (freeEntry tag s).takings = s.takings := rfl
@[simp] theorem freeEntry_dir (tag : Nat) : (freeEntry tag s).dir = s.dir := rfl
@[simp] theorem freeEntry_beacon (tag : Nat) : (freeEntry tag s).beacon = s.beacon := rfl
@[simp] theorem freeEntry_router (tag : Nat) : (freeEntry tag s).router = s.router := rfl
@[simp] theorem freeEntry_kitchen (tag : Nat) : (freeEntry tag s).kitchen = s.kitchen := rfl
@[simp] theorem freeEntry_portions (tag : Nat) : (freeEntry tag s).portions = s.portions := rfl
@[simp] theorem freeEntry_stock (tag : Nat) : (freeEntry tag s).stock = s.stock := rfl
@[simp] theorem freeEntry_link (tag : Nat) : (freeEntry tag s).link = s.link := rfl
@[simp] theorem freeEntry_tx (tag : Nat) : (freeEntry tag s).tx = s.tx := rfl
@[simp] theorem freeEntry_rx (tag : Nat) : (freeEntry tag s).rx = s.rx := rfl
@[simp] theorem freeEntry_port (tag : Nat) : (freeEntry tag s).port = s.port := rfl
@[simp] theorem freeEntry_pending (tag : Nat) : (freeEntry tag s).pending = s.pending := rfl

/-! ### emptyTx -/

@[simp] theorem emptyTx_station : (emptyTx s).station = s.station := rfl
@[simp] theorem emptyTx_cfg : (emptyTx s).cfg = s.cfg := rfl
@[simp] theorem emptyTx_tabs : (emptyTx s).tabs = s.tabs := rfl
@[simp] theorem emptyTx_engine : (emptyTx s).engine = s.engine := rfl
@[simp] theorem emptyTx_claims : (emptyTx s).claims = s.claims := rfl
@[simp] theorem emptyTx_takings : (emptyTx s).takings = s.takings := rfl
@[simp] theorem emptyTx_dir : (emptyTx s).dir = s.dir := rfl
@[simp] theorem emptyTx_beacon : (emptyTx s).beacon = s.beacon := rfl
@[simp] theorem emptyTx_kitchen : (emptyTx s).kitchen = s.kitchen := rfl
@[simp] theorem emptyTx_portions : (emptyTx s).portions = s.portions := rfl
@[simp] theorem emptyTx_stock : (emptyTx s).stock = s.stock := rfl
@[simp] theorem emptyTx_link : (emptyTx s).link = s.link := rfl
@[simp] theorem emptyTx_rx : (emptyTx s).rx = s.rx := rfl
@[simp] theorem emptyTx_exch : (emptyTx s).exch = s.exch := rfl
@[simp] theorem emptyTx_port : (emptyTx s).port = s.port := rfl
@[simp] theorem emptyTx_pending : (emptyTx s).pending = s.pending := rfl

/-! ### setStation -/

@[simp] theorem setStation_cfg (st : StationState) : (setStation st s).cfg = s.cfg := rfl
@[simp] theorem setStation_tabs (st : StationState) : (setStation st s).tabs = s.tabs := rfl
@[simp] theorem setStation_engine (st : StationState) : (setStation st s).engine = s.engine := rfl
@[simp] theorem setStation_claims (st : StationState) : (setStation st s).claims = s.claims := rfl
@[simp] theorem setStation_takings (st : StationState) : (setStation st s).takings = s.takings := rfl
@[simp] theorem setStation_dir (st : StationState) : (setStation st s).dir = s.dir := rfl
@[simp] theorem setStation_beacon (st : StationState) : (setStation st s).beacon = s.beacon := rfl
@[simp] theorem setStation_router (st : StationState) : (setStation st s).router = s.router := rfl
@[simp] theorem setStation_kitchen (st : StationState) : (setStation st s).kitchen = s.kitchen := rfl
@[simp] theorem setStation_portions (st : StationState) : (setStation st s).portions = s.portions := rfl
@[simp] theorem setStation_stock (st : StationState) : (setStation st s).stock = s.stock := rfl
@[simp] theorem setStation_link (st : StationState) : (setStation st s).link = s.link := rfl
@[simp] theorem setStation_tx (st : StationState) : (setStation st s).tx = s.tx := rfl
@[simp] theorem setStation_rx (st : StationState) : (setStation st s).rx = s.rx := rfl
@[simp] theorem setStation_exch (st : StationState) : (setStation st s).exch = s.exch := rfl
@[simp] theorem setStation_port (st : StationState) : (setStation st s).port = s.port := rfl
@[simp] theorem setStation_pending (st : StationState) : (setStation st s).pending = s.pending := rfl

/-! ### What the updates set -/

@[simp] theorem popped_rx (rest : List Frame) : (popped rest s).rx = rest := rfl
@[simp] theorem popped_own (rest : List Frame) : own (popped rest s) = own s := rfl
@[simp] theorem setAnswer_answer (c : Instr) (r : Reply) : (setAnswer c r s).port.answer = some ⟨commandCode c, r.result, r.data⟩ := rfl
@[simp] theorem setAnswer_taken (c : Instr) (r : Reply) : (setAnswer c r s).port.taken = none := rfl
@[simp] theorem emptyTx_slots : (emptyTx s).tx.slots = [] := rfl
@[simp] theorem emptyTx_dropped : (emptyTx s).tx.dropped = s.tx.dropped := rfl
@[simp] theorem setStation_state (st : StationState) : (setStation st s).station.state = st := rfl
@[simp] theorem modTab_tabs (n : Nat) (f : Tab → Tab) : (modTab n f s).tabs = mapIf (·.number == n) f s.tabs := rfl
@[simp] theorem modClaim_claims (h t x : Nat) (f : ClaimEntry → ClaimEntry) :
    (modClaim h t x f s).claims = mapIf (·.isFor h t x) f s.claims := rfl
@[simp] theorem dropClaim_claims (h t x : Nat) : (dropClaim h t x s).claims = s.claims.filter fun e => !e.isFor h t x := rfl
@[simp] theorem freeEntry_entries (tag : Nat) : (freeEntry tag s).exch.entries = s.exch.entries.filter (·.tag != tag) := rfl
@[simp] theorem modTicket_tickets (n : Nat) (f : Ticket → Ticket) :
    (modTicket n f s).router.tickets = mapIf (·.number == n) f s.router.tickets := rfl
@[simp] theorem dropTicket_tickets (n : Nat) : (dropTicket n s).router.tickets = s.router.tickets.filter (·.number != n) := rfl
@[simp] theorem modPortion_portions (item : Nat) (f : Portion → Portion) :
    (modPortion item f s).portions = mapIf (·.item == item) f s.portions := rfl

/-- Posting changes nothing at the port but the queues and the overflow flags. -/
theorem post_port (n : Notice) :
    (post n s).port.answer = s.port.answer ∧ (post n s).port.taken = s.port.taken ∧ (post n s).port.mask = s.port.mask ∧
    (post n s).port.snapshot = s.port.snapshot ∧ (post n s).port.pdo = s.port.pdo := by
  simp only [post, Port.post]
  split <;> (cases n.level <;> simp [Port.setQueue])

end Sys2Proof.Machine
end

