-- ==== Sys2Proof/Laws/Link.lean ====
section
/-! SUPPORT. What the transmit scheduler, the exchange table's openings and the beacons can do: one lemma that says all an operation
changes, and the fields it leaves. -/

namespace Sys2Proof.Machine

variable (s : State)

/-! ## The transmit scheduler -/

/-- What the scheduler answers is a queue with the frame at its end, short of one evicted frame if need be, or a refusal. -/
theorem offerFrame_cases (f : OutFrame) (l : List Slot) :
    offerFrame f l = .taken (l ++ [Slot.fresh f]) ∨ (∃ e r, evictNewest l = some (e, r) ∧ offerFrame f l = .evicting e (r ++ [Slot.fresh f])) ∨
      offerFrame f l = .refused := by
  unfold offerFrame
  split
  · split <;> simp
  · split
    · simp
    · split
      · simp
      · split <;> simp_all

/-- No slot can be evicted where none is found. -/
theorem evictNewest_none {l : List Slot} (h : evictNewest l = none) : ∀ y ∈ l, ¬(kindClass y.frame.kind = 3 ∧ y.onWire = false) := by
  induction l with
  | nil => simp
  | cons x l ih =>
    unfold evictNewest at h
    split at h
    · simp at h
    · rename_i hn
      split at h
      · simp at h
      · rename_i hx
        intro y hy
        rcases List.mem_cons.1 hy with rfl | hy
        · exact hx
        · exact ih hn y hy

/-- The evicted slot holds a class-3 frame off the wire, and none after it does. -/
theorem evictNewest_some {l : List Slot} {f : OutFrame} {r : List Slot} (h : evictNewest l = some (f, r)) :
    ∃ before x after, l = before ++ x :: after ∧ x.frame = f ∧ kindClass x.frame.kind = 3 ∧ x.onWire = false ∧ r = before ++ after ∧
      ∀ y ∈ after, ¬(kindClass y.frame.kind = 3 ∧ y.onWire = false) := by
  induction l generalizing f r with
  | nil => simp [evictNewest] at h
  | cons x l ih =>
    unfold evictNewest at h
    split at h
    · rename_i g q hq
      simp only [Option.some.injEq, Prod.mk.injEq] at h
      obtain ⟨rfl, rfl⟩ := h
      obtain ⟨before, y, after, rfl, hf, hc, hw, rfl, ha⟩ := ih hq
      exact ⟨x :: before, y, after, rfl, hf, hc, hw, rfl, ha⟩
    · rename_i hn
      split at h
      · rename_i hx
        simp only [Option.some.injEq, Prod.mk.injEq] at h
        obtain ⟨rfl, rfl⟩ := h
        refine ⟨[], x, l, rfl, rfl, hx.1, hx.2, rfl, ?_⟩
        exact evictNewest_none hn
      · simp at h
/-- A lost frame sets resend marks and nothing else. -/
theorem frameLost_spec (f : OutFrame) :
    frameLost f s = s ∨ ∃ item, stockItem f = some item ∧ frameLost f s = { s with portions := markResend item s.portions } := by
  unfold frameLost
  split
  · exact .inr ⟨_, by assumption, rfl⟩
  · exact .inl rfl

/-- Everything `sendFrame` can change: the queue and its drop count, the offer pause, and resend marks. -/
theorem sendFrame_spec (f : OutFrame) :
    ∃ taken slots dropped pause portions,
      sendFrame f s =
        (taken,
          { s with
            tx := { s.tx with slots := slots, dropped := dropped }
            router := { s.router with pause := pause }
            portions := portions }) ∧
      (portions = s.portions ∨ ∃ item, portions = markResend item s.portions) := by
  unfold sendFrame
  split
  · exact ⟨_, _, s.tx.dropped, s.router.pause, s.portions, rfl, .inl rfl⟩
  · rename_i e l _
    rcases frameLost_spec { s with tx := { s.tx with slots := l, dropped := bumpDropped s.tx.dropped }, router := { s.router with pause := false } } e with h | ⟨item, _, h⟩
    · rw [h]; exact ⟨_, _, _, _, s.portions, rfl, .inl rfl⟩
    · rw [h]; exact ⟨_, _, _, _, markResend item s.portions, rfl, .inr ⟨item, rfl⟩⟩
  · split
    · exact ⟨false, s.tx.slots, s.tx.dropped, s.router.pause, s.portions, rfl, .inl rfl⟩
    · rcases frameLost_spec { s with tx := { s.tx with dropped := bumpDropped s.tx.dropped } } f with h | ⟨item, _, h⟩
      · rw [h]; exact ⟨_, s.tx.slots, _, s.router.pause, s.portions, rfl, .inl rfl⟩
      · rw [h]; exact ⟨_, s.tx.slots, _, s.router.pause, markResend item s.portions, rfl, .inr ⟨item, rfl⟩⟩

@[simp] theorem sendFrame_station (f : OutFrame) : (sendFrame f s).2.station = s.station := by
  obtain ⟨_, _, _, _, _, h, _⟩ := sendFrame_spec s f; rw [h]
@[simp] theorem sendFrame_cfg (f : OutFrame) : (sendFrame f s).2.cfg = s.cfg := by
  obtain ⟨_, _, _, _, _, h, _⟩ := sendFrame_spec s f; rw [h]
@[simp] theorem sendFrame_tabs (f : OutFrame) : (sendFrame f s).2.tabs = s.tabs := by
  obtain ⟨_, _, _, _, _, h, _⟩ := sendFrame_spec s f; rw [h]
@[simp] theorem sendFrame_engine (f : OutFrame) : (sendFrame f s).2.engine = s.engine := by
  obtain ⟨_, _, _, _, _, h, _⟩ := sendFrame_spec s f; rw [h]
@[simp] theorem sendFrame_claims (f : OutFrame) : (sendFrame f s).2.claims = s.claims := by
  obtain ⟨_, _, _, _, _, h, _⟩ := sendFrame_spec s f; rw [h]
@[simp] theorem sendFrame_takings (f : OutFrame) : (sendFrame f s).2.takings = s.takings := by
  obtain ⟨_, _, _, _, _, h, _⟩ := sendFrame_spec s f; rw [h]
@[simp] theorem sendFrame_dir (f : OutFrame) : (sendFrame f s).2.dir = s.dir := by
  obtain ⟨_, _, _, _, _, h, _⟩ := sendFrame_spec s f; rw [h]
@[simp] theorem sendFrame_beacon (f : OutFrame) : (sendFrame f s).2.beacon = s.beacon := by
  obtain ⟨_, _, _, _, _, h, _⟩ := sendFrame_spec s f; rw [h]
@[simp] theorem sendFrame_kitchen (f : OutFrame) : (sendFrame f s).2.kitchen = s.kitchen := by
  obtain ⟨_, _, _, _, _, h, _⟩ := sendFrame_spec s f; rw [h]
@[simp] theorem sendFrame_stock (f : OutFrame) : (sendFrame f s).2.stock = s.stock := by
  obtain ⟨_, _, _, _, _, h, _⟩ := sendFrame_spec s f; rw [h]
@[simp] theorem sendFrame_link (f : OutFrame) : (sendFrame f s).2.link = s.link := by
  obtain ⟨_, _, _, _, _, h, _⟩ := sendFrame_spec s f; rw [h]
@[simp] theorem sendFrame_rx (f : OutFrame) : (sendFrame f s).2.rx = s.rx := by
  obtain ⟨_, _, _, _, _, h, _⟩ := sendFrame_spec s f; rw [h]
@[simp] theorem sendFrame_exch (f : OutFrame) : (sendFrame f s).2.exch = s.exch := by
  obtain ⟨_, _, _, _, _, h, _⟩ := sendFrame_spec s f; rw [h]
@[simp] theorem sendFrame_port (f : OutFrame) : (sendFrame f s).2.port = s.port := by
  obtain ⟨_, _, _, _, _, h, _⟩ := sendFrame_spec s f; rw [h]
@[simp] theorem sendFrame_pending (f : OutFrame) : (sendFrame f s).2.pending = s.pending := by
  obtain ⟨_, _, _, _, _, h, _⟩ := sendFrame_spec s f; rw [h]
@[simp] theorem sendFrame_tickets (f : OutFrame) : (sendFrame f s).2.router.tickets = s.router.tickets := by
  obtain ⟨_, _, _, _, _, h, _⟩ := sendFrame_spec s f; rw [h]
@[simp] theorem sendFrame_counter (f : OutFrame) : (sendFrame f s).2.router.counter = s.router.counter := by
  obtain ⟨_, _, _, _, _, h, _⟩ := sendFrame_spec s f; rw [h]
@[simp] theorem sendFrame_voids (f : OutFrame) : (sendFrame f s).2.router.voids = s.router.voids := by
  obtain ⟨_, _, _, _, _, h, _⟩ := sendFrame_spec s f; rw [h]
@[simp] theorem sendFrame_watched (f : OutFrame) : (sendFrame f s).2.tx.watched = s.tx.watched := by
  obtain ⟨_, _, _, _, _, h, _⟩ := sendFrame_spec s f; rw [h]

/-- With room the frame joins the end of the queue and nothing else happens. -/
theorem sendFrame_room {f : OutFrame} (h : s.tx.slots.length < Config.txCapacity) (hl : kindClass f.kind = 0 ∨ lowCount s.tx.slots < Config.txLowCapacity) :
    sendFrame f s = (true, { s with tx := { s.tx with slots := s.tx.slots ++ [Slot.fresh f] } }) := by
  have : offerFrame f s.tx.slots = .taken (s.tx.slots ++ [Slot.fresh f]) := by
    unfold offerFrame
    by_cases hc : kindClass f.kind = 0
    · rw [if_pos hc, if_pos h]
    · rw [if_neg hc, if_pos ⟨h, hl.resolve_left hc⟩]
  simp only [sendFrame, this]

/-! ## Answers and claims told -/

/-- An ANSWER is one frame offered to the scheduler. -/
theorem sendAnswer_eq (dest kind tag subject share : Nat) (r : Reply) :
    sendAnswer dest kind tag subject share r s = (sendFrame ⟨Kind.answer, dest, tag, eAnswerPayload kind tag subject share r.result r.data⟩ s).2 := rfl

@[simp] theorem sendAnswer_station (dest kind tag subject share : Nat) (r : Reply) :
    (sendAnswer dest kind tag subject share r s).station = s.station := sendFrame_station s _
@[simp] theorem sendAnswer_cfg (dest kind tag subject share : Nat) (r : Reply) :
    (sendAnswer dest kind tag subject share r s).cfg = s.cfg := sendFrame_cfg s _
@[simp] theorem sendAnswer_tabs (dest kind tag subject share : Nat) (r : Reply) :
    (sendAnswer dest kind tag subject share r s).tabs = s.tabs := sendFrame_tabs s _
@[simp] theorem sendAnswer_engine (dest kind tag subject share : Nat) (r : Reply) :
    (sendAnswer dest kind tag subject share r s).engine = s.engine := sendFrame_engine s _
@[simp] theorem sendAnswer_claims (dest kind tag subject share : Nat) (r : Reply) :
    (sendAnswer dest kind tag subject share r s).claims = s.claims := sendFrame_claims s _
@[simp] theorem sendAnswer_takings (dest kind tag subject share : Nat) (r : Reply) :
    (sendAnswer dest kind tag subject share r s).takings = s.takings := sendFrame_takings s _
@[simp] theorem sendAnswer_dir (dest kind tag subject share : Nat) (r : Reply) :
    (sendAnswer dest kind tag subject share r s).dir = s.dir := sendFrame_dir s _
@[simp] theorem sendAnswer_beacon (dest kind tag subject share : Nat) (r : Reply) :
    (sendAnswer dest kind tag subject share r s).beacon = s.beacon := sendFrame_beacon s _
@[simp] theorem sendAnswer_kitchen (dest kind tag subject share : Nat) (r : Reply) :
    (sendAnswer dest kind tag subject share r s).kitchen = s.kitchen := sendFrame_kitchen s _
@[simp] theorem sendAnswer_stock (dest kind tag subject share : Nat) (r : Reply) :
    (sendAnswer dest kind tag subject share r s).stock = s.stock := sendFrame_stock s _
@[simp] theorem sendAnswer_link (dest kind tag subject share : Nat) (r : Reply) :
    (sendAnswer dest kind tag subject share r s).link = s.link := sendFrame_link s _
@[simp] theorem sendAnswer_rx (dest kind tag subject share : Nat) (r : Reply) :
    (sendAnswer dest kind tag subject share r s).rx = s.rx := sendFrame_rx s _
@[simp] theorem sendAnswer_exch (dest kind tag subject share : Nat) (r : Reply) :
    (sendAnswer dest kind tag subject share r s).exch = s.exch := sendFrame_exch s _
@[simp] theorem sendAnswer_port (dest kind tag subject share : Nat) (r : Reply) :
    (sendAnswer dest kind tag subject share r s).port = s.port := sendFrame_port s _
@[simp] theorem sendAnswer_pending (dest kind tag subject share : Nat) (r : Reply) :
    (sendAnswer dest kind tag subject share r s).pending = s.pending := sendFrame_pending s _
@[simp] theorem sendAnswer_tickets (dest kind tag subject share : Nat) (r : Reply) :
    (sendAnswer dest kind tag subject share r s).router.tickets = s.router.tickets := sendFrame_tickets s _
@[simp] theorem sendAnswer_counter (dest kind tag subject share : Nat) (r : Reply) :
    (sendAnswer dest kind tag subject share r s).router.counter = s.router.counter := sendFrame_counter s _
@[simp] theorem sendAnswer_voids (dest kind tag subject share : Nat) (r : Reply) :
    (sendAnswer dest kind tag subject share r s).router.voids = s.router.voids := sendFrame_voids s _

@[simp] theorem tellClaimEnd_station (tab share k : Nat) (r : EndReason) :
    (tellClaimEnd tab share k r s).station = s.station := by
  unfold tellClaimEnd; split <;> simp
@[simp] theorem tellClaimEnd_cfg (tab share k : Nat) (r : EndReason) :
    (tellClaimEnd tab share k r s).cfg = s.cfg := by
  unfold tellClaimEnd; split <;> simp
@[simp] theorem tellClaimEnd_tabs (tab share k : Nat) (r : EndReason) :
    (tellClaimEnd tab share k r s).tabs = s.tabs := by
  unfold tellClaimEnd; split <;> simp
@[simp] theorem tellClaimEnd_engine (tab share k : Nat) (r : EndReason) :
    (tellClaimEnd tab share k r s).engine = s.engine := by
  unfold tellClaimEnd; split <;> simp
@[simp] theorem tellClaimEnd_claims (tab share k : Nat) (r : EndReason) :
    (tellClaimEnd tab share k r s).claims = s.claims := by
  unfold tellClaimEnd; split <;> simp
@[simp] theorem tellClaimEnd_takings (tab share k : Nat) (r : EndReason) :
    (tellClaimEnd tab share k r s).takings = s.takings := by
  unfold tellClaimEnd; split <;> simp
@[simp] theorem tellClaimEnd_dir (tab share k : Nat) (r : EndReason) :
    (tellClaimEnd tab share k r s).dir = s.dir := by
  unfold tellClaimEnd; split <;> simp
@[simp] theorem tellClaimEnd_beacon (tab share k : Nat) (r : EndReason) :
    (tellClaimEnd tab share k r s).beacon = s.beacon := by
  unfold tellClaimEnd; split <;> simp
@[simp] theorem tellClaimEnd_kitchen (tab share k : Nat) (r : EndReason) :
    (tellClaimEnd tab share k r s).kitchen = s.kitchen := by
  unfold tellClaimEnd; split <;> simp
@[simp] theorem tellClaimEnd_stock (tab share k : Nat) (r : EndReason) :
    (tellClaimEnd tab share k r s).stock = s.stock := by
  unfold tellClaimEnd; split <;> simp
@[simp] theorem tellClaimEnd_link (tab share k : Nat) (r : EndReason) :
    (tellClaimEnd tab share k r s).link = s.link := by
  unfold tellClaimEnd; split <;> simp
@[simp] theorem tellClaimEnd_rx (tab share k : Nat) (r : EndReason) :
    (tellClaimEnd tab share k r s).rx = s.rx := by
  unfold tellClaimEnd; split <;> simp
@[simp] theorem tellClaimEnd_exch (tab share k : Nat) (r : EndReason) :
    (tellClaimEnd tab share k r s).exch = s.exch := by
  unfold tellClaimEnd; split <;> simp
@[simp] theorem tellClaimEnd_pending (tab share k : Nat) (r : EndReason) :
    (tellClaimEnd tab share k r s).pending = s.pending := by
  unfold tellClaimEnd; split <;> simp

/-! ## Exchanges -/

/-- Everything an opening can do: turned away with nothing done, or the tag used up, and the entry and its frame where the scheduler
took it. -/
theorem openExchange_spec (kind dest subject share : Nat) (owner : Owner) (payload : Bytes) :
    (openExchange kind dest subject share owner payload s).2 = s ∨
    ∃ tag taken s', sendFrame ⟨kind, dest, tag, payload⟩ { s with exch := { s.exch with counter := (tag + 1) % 256 } } = (taken, s') ∧
      openExchange kind dest subject share owner payload s =
        if taken then
          (.STARTED,
            { s' with exch := { s'.exch with entries := s'.exch.entries ++ [⟨tag, kind, dest, subject, share, owner, some Config.exchangeMs⟩] } })
        else (.LINK_BUSY, s') := by
  unfold openExchange
  split
  · exact .inl rfl
  · split
    · exact .inl rfl
    · exact .inr ⟨_, _, _, rfl, rfl⟩

/-- With an entry free, room in the queue and the next tag free, the exchange is open under that tag and its frame queued. -/
theorem openExchange_room {kind dest subject share : Nat} {owner : Owner} {payload : Bytes} (hl : isLost s dest = false)
    (he : s.exch.entries.length < Config.exchangeCapacity) (hx : s.tx.slots.length < Config.txCapacity)
    (hlow : lowCount s.tx.slots < Config.txLowCapacity) (ht : ∀ e ∈ s.exch.entries, e.tag ≠ s.exch.counter) :
    openExchange kind dest subject share owner payload s =
      (.STARTED,
        { s with
          exch :=
            { entries := s.exch.entries ++ [⟨s.exch.counter, kind, dest, subject, share, owner, some Config.exchangeMs⟩]
              counter := (s.exch.counter + 1) % 256 }
          tx := { s.tx with slots := s.tx.slots ++ [Slot.fresh ⟨kind, dest, s.exch.counter, payload⟩] } }) := by
  have htag : freeTag Config.exchangeCapacity s.exch.counter (s.exch.entries.map (·.tag)) = s.exch.counter := by
    simp only [Config.exchangeCapacity, freeTag]
    rw [if_neg]
    simpa using ht
  have hs := sendFrame_room { s with exch := { s.exch with counter := (s.exch.counter + 1) % 256 } }
    (f := ⟨kind, dest, s.exch.counter, payload⟩) hx (.inr hlow)
  have hf : exchangeFree s = true := by simp [exchangeFree, he]
  simp only [openExchange, hl, hf, htag, hs, Bool.true_eq_false, Bool.false_eq_true, and_false, if_false, if_true]

@[simp] theorem openExchange_station (kind dest subject share : Nat) (owner : Owner) (payload : Bytes) :
    (openExchange kind dest subject share owner payload s).2.station = s.station := by
  rcases openExchange_spec s kind dest subject share owner payload with h | ⟨tag, taken, s', h, h'⟩
  · rw [h]
  · have := sendFrame_station { s with exch := { s.exch with counter := (tag + 1) % 256 } } ⟨kind, dest, tag, payload⟩
    rw [h] at this; rw [h']; cases taken <;> exact this
@[simp] theorem openExchange_cfg (kind dest subject share : Nat) (owner : Owner) (payload : Bytes) :
    (openExchange kind dest subject share owner payload s).2.cfg = s.cfg := by
  rcases openExchange_spec s kind dest subject share owner payload with h | ⟨tag, taken, s', h, h'⟩
  · rw [h]
  · have := sendFrame_cfg { s with exch := { s.exch with counter := (tag + 1) % 256 } } ⟨kind, dest, tag, payload⟩
    rw [h] at this; rw [h']; cases taken <;> exact this
@[simp] theorem openExchange_tabs (kind dest subject share : Nat) (owner : Owner) (payload : Bytes) :
    (openExchange kind dest subject share owner payload s).2.tabs = s.tabs := by
  rcases openExchange_spec s kind dest subject share owner payload with h | ⟨tag, taken, s', h, h'⟩
  · rw [h]
  · have := sendFrame_tabs { s with exch := { s.exch with counter := (tag + 1) % 256 } } ⟨kind, dest, tag, payload⟩
    rw [h] at this; rw [h']; cases taken <;> exact this
@[simp] theorem openExchange_engine (kind dest subject share : Nat) (owner : Owner) (payload : Bytes) :
    (openExchange kind dest subject share owner payload s).2.engine = s.engine := by
  rcases openExchange_spec s kind dest subject share owner payload with h | ⟨tag, taken, s', h, h'⟩
  · rw [h]
  · have := sendFrame_engine { s with exch := { s.exch with counter := (tag + 1) % 256 } } ⟨kind, dest, tag, payload⟩
    rw [h] at this; rw [h']; cases taken <;> exact this
@[simp] theorem openExchange_claims (kind dest subject share : Nat) (owner : Owner) (payload : Bytes) :
    (openExchange kind dest subject share owner payload s).2.claims = s.claims := by
  rcases openExchange_spec s kind dest subject share owner payload with h | ⟨tag, taken, s', h, h'⟩
  · rw [h]
  · have := sendFrame_claims { s with exch := { s.exch with counter := (tag + 1) % 256 } } ⟨kind, dest, tag, payload⟩
    rw [h] at this; rw [h']; cases taken <;> exact this
@[simp] theorem openExchange_takings (kind dest subject share : Nat) (owner : Owner) (payload : Bytes) :
    (openExchange kind dest subject share owner payload s).2.takings = s.takings := by
  rcases openExchange_spec s kind dest subject share owner payload with h | ⟨tag, taken, s', h, h'⟩
  · rw [h]
  · have := sendFrame_takings { s with exch := { s.exch with counter := (tag + 1) % 256 } } ⟨kind, dest, tag, payload⟩
    rw [h] at this; rw [h']; cases taken <;> exact this
@[simp] theorem openExchange_dir (kind dest subject share : Nat) (owner : Owner) (payload : Bytes) :
    (openExchange kind dest subject share owner payload s).2.dir = s.dir := by
  rcases openExchange_spec s kind dest subject share owner payload with h | ⟨tag, taken, s', h, h'⟩
  · rw [h]
  · have := sendFrame_dir { s with exch := { s.exch with counter := (tag + 1) % 256 } } ⟨kind, dest, tag, payload⟩
    rw [h] at this; rw [h']; cases taken <;> exact this
@[simp] theorem openExchange_beacon (kind dest subject share : Nat) (owner : Owner) (payload : Bytes) :
    (openExchange kind dest subject share owner payload s).2.beacon = s.beacon := by
  rcases openExchange_spec s kind dest subject share owner payload with h | ⟨tag, taken, s', h, h'⟩
  · rw [h]
  · have := sendFrame_beacon { s with exch := { s.exch with counter := (tag + 1) % 256 } } ⟨kind, dest, tag, payload⟩
    rw [h] at this; rw [h']; cases taken <;> exact this
@[simp] theorem openExchange_kitchen (kind dest subject share : Nat) (owner : Owner) (payload : Bytes) :
    (openExchange kind dest subject share owner payload s).2.kitchen = s.kitchen := by
  rcases openExchange_spec s kind dest subject share owner payload with h | ⟨tag, taken, s', h, h'⟩
  · rw [h]
  · have := sendFrame_kitchen { s with exch := { s.exch with counter := (tag + 1) % 256 } } ⟨kind, dest, tag, payload⟩
    rw [h] at this; rw [h']; cases taken <;> exact this
@[simp] theorem openExchange_stock (kind dest subject share : Nat) (owner : Owner) (payload : Bytes) :
    (openExchange kind dest subject share owner payload s).2.stock = s.stock := by
  rcases openExchange_spec s kind dest subject share owner payload with h | ⟨tag, taken, s', h, h'⟩
  · rw [h]
  · have := sendFrame_stock { s with exch := { s.exch with counter := (tag + 1) % 256 } } ⟨kind, dest, tag, payload⟩
    rw [h] at this; rw [h']; cases taken <;> exact this
@[simp] theorem openExchange_link (kind dest subject share : Nat) (owner : Owner) (payload : Bytes) :
    (openExchange kind dest subject share owner payload s).2.link = s.link := by
  rcases openExchange_spec s kind dest subject share owner payload with h | ⟨tag, taken, s', h, h'⟩
  · rw [h]
  · have := sendFrame_link { s with exch := { s.exch with counter := (tag + 1) % 256 } } ⟨kind, dest, tag, payload⟩
    rw [h] at this; rw [h']; cases taken <;> exact this
@[simp] theorem openExchange_rx (kind dest subject share : Nat) (owner : Owner) (payload : Bytes) :
    (openExchange kind dest subject share owner payload s).2.rx = s.rx := by
  rcases openExchange_spec s kind dest subject share owner payload with h | ⟨tag, taken, s', h, h'⟩
  · rw [h]
  · have := sendFrame_rx { s with exch := { s.exch with counter := (tag + 1) % 256 } } ⟨kind, dest, tag, payload⟩
    rw [h] at this; rw [h']; cases taken <;> exact this
@[simp] theorem openExchange_port (kind dest subject share : Nat) (owner : Owner) (payload : Bytes) :
    (openExchange kind dest subject share owner payload s).2.port = s.port := by
  rcases openExchange_spec s kind dest subject share owner payload with h | ⟨tag, taken, s', h, h'⟩
  · rw [h]
  · have := sendFrame_port { s with exch := { s.exch with counter := (tag + 1) % 256 } } ⟨kind, dest, tag, payload⟩
    rw [h] at this; rw [h']; cases taken <;> exact this
@[simp] theorem openExchange_pending (kind dest subject share : Nat) (owner : Owner) (payload : Bytes) :
    (openExchange kind dest subject share owner payload s).2.pending = s.pending := by
  rcases openExchange_spec s kind dest subject share owner payload with h | ⟨tag, taken, s', h, h'⟩
  · rw [h]
  · have := sendFrame_pending { s with exch := { s.exch with counter := (tag + 1) % 256 } } ⟨kind, dest, tag, payload⟩
    rw [h] at this; rw [h']; cases taken <;> exact this

/-! ## STOCK frames and beacons -/

@[simp] theorem queueStock_station (item : Nat) (st : StockState) (n : Nat) : (queueStock item st n s).station = s.station := by
  unfold queueStock; dsimp only; split <;> simp
@[simp] theorem queueStock_cfg (item : Nat) (st : StockState) (n : Nat) : (queueStock item st n s).cfg = s.cfg := by
  unfold queueStock; dsimp only; split <;> simp
@[simp] theorem queueStock_tabs (item : Nat) (st : StockState) (n : Nat) : (queueStock item st n s).tabs = s.tabs := by
  unfold queueStock; dsimp only; split <;> simp
@[simp] theorem queueStock_engine (item : Nat) (st : StockState) (n : Nat) : (queueStock item st n s).engine = s.engine := by
  unfold queueStock; dsimp only; split <;> simp
@[simp] theorem queueStock_claims (item : Nat) (st : StockState) (n : Nat) : (queueStock item st n s).claims = s.claims := by
  unfold queueStock; dsimp only; split <;> simp
@[simp] theorem queueStock_takings (item : Nat) (st : StockState) (n : Nat) : (queueStock item st n s).takings = s.takings := by
  unfold queueStock; dsimp only; split <;> simp
@[simp] theorem queueStock_dir (item : Nat) (st : StockState) (n : Nat) : (queueStock item st n s).dir = s.dir := by
  unfold queueStock; dsimp only; split <;> simp
@[simp] theorem queueStock_beacon (item : Nat) (st : StockState) (n : Nat) : (queueStock item st n s).beacon = s.beacon := by
  unfold queueStock; dsimp only; split <;> simp
@[simp] theorem queueStock_kitchen (item : Nat) (st : StockState) (n : Nat) : (queueStock item st n s).kitchen = s.kitchen := by
  unfold queueStock; dsimp only; split <;> simp
@[simp] theorem queueStock_stock (item : Nat) (st : StockState) (n : Nat) : (queueStock item st n s).stock = s.stock := by
  unfold queueStock; dsimp only; split <;> simp
@[simp] theorem queueStock_link (item : Nat) (st : StockState) (n : Nat) : (queueStock item st n s).link = s.link := by
  unfold queueStock; dsimp only; split <;> simp
@[simp] theorem queueStock_rx (item : Nat) (st : StockState) (n : Nat) : (queueStock item st n s).rx = s.rx := by
  unfold queueStock; dsimp only; split <;> simp
@[simp] theorem queueStock_exch (item : Nat) (st : StockState) (n : Nat) : (queueStock item st n s).exch = s.exch := by
  unfold queueStock; dsimp only; split <;> simp
@[simp] theorem queueStock_port (item : Nat) (st : StockState) (n : Nat) : (queueStock item st n s).port = s.port := by
  unfold queueStock; dsimp only; split <;> simp
@[simp] theorem queueStock_pending (item : Nat) (st : StockState) (n : Nat) : (queueStock item st n s).pending = s.pending := by
  unfold queueStock; dsimp only; split <;> simp
@[simp] theorem resendStock_station : (resendStock s).station = s.station := by
  unfold resendStock; split <;> simp
@[simp] theorem resendStock_cfg : (resendStock s).cfg = s.cfg := by
  unfold resendStock; split <;> simp
@[simp] theorem resendStock_tabs : (resendStock s).tabs = s.tabs := by
  unfold resendStock; split <;> simp
@[simp] theorem resendStock_engine : (resendStock s).engine = s.engine := by
  unfold resendStock; split <;> simp
@[simp] theorem resendStock_claims : (resendStock s).claims = s.claims := by
  unfold resendStock; split <;> simp
@[simp] theorem resendStock_takings : (resendStock s).takings = s.takings := by
  unfold resendStock; split <;> simp
@[simp] theorem resendStock_dir : (resendStock s).dir = s.dir := by
  unfold resendStock; split <;> simp
@[simp] theorem resendStock_beacon : (resendStock s).beacon = s.beacon := by
  unfold resendStock; split <;> simp
@[simp] theorem resendStock_kitchen : (resendStock s).kitchen = s.kitchen := by
  unfold resendStock; split <;> simp
@[simp] theorem resendStock_stock : (resendStock s).stock = s.stock := by
  unfold resendStock; split <;> simp
@[simp] theorem resendStock_link : (resendStock s).link = s.link := by
  unfold resendStock; split <;> simp
@[simp] theorem resendStock_rx : (resendStock s).rx = s.rx := by
  unfold resendStock; split <;> simp
@[simp] theorem resendStock_exch : (resendStock s).exch = s.exch := by
  unfold resendStock; split <;> simp
@[simp] theorem resendStock_port : (resendStock s).port = s.port := by
  unfold resendStock; split <;> simp
@[simp] theorem resendStock_pending : (resendStock s).pending = s.pending := by
  unfold resendStock; split <;> simp
@[simp] theorem genBeacon_station : (genBeacon s).station = s.station := by
  unfold genBeacon; dsimp only; rw [resendStock_station]; split <;> simp
@[simp] theorem genBeacon_cfg : (genBeacon s).cfg = s.cfg := by
  unfold genBeacon; dsimp only; rw [resendStock_cfg]; split <;> simp
@[simp] theorem genBeacon_tabs : (genBeacon s).tabs = s.tabs := by
  unfold genBeacon; dsimp only; rw [resendStock_tabs]; split <;> simp
@[simp] theorem genBeacon_engine : (genBeacon s).engine = s.engine := by
  unfold genBeacon; dsimp only; rw [resendStock_engine]; split <;> simp
@[simp] theorem genBeacon_claims : (genBeacon s).claims = s.claims := by
  unfold genBeacon; dsimp only; rw [resendStock_claims]; split <;> simp
@[simp] theorem genBeacon_takings : (genBeacon s).takings = s.takings := by
  unfold genBeacon; dsimp only; rw [resendStock_takings]; split <;> simp
@[simp] theorem genBeacon_dir : (genBeacon s).dir = s.dir := by
  unfold genBeacon; dsimp only; rw [resendStock_dir]; split <;> simp
@[simp] theorem genBeacon_kitchen : (genBeacon s).kitchen = s.kitchen := by
  unfold genBeacon; dsimp only; rw [resendStock_kitchen]; split <;> simp
@[simp] theorem genBeacon_stock : (genBeacon s).stock = s.stock := by
  unfold genBeacon; dsimp only; rw [resendStock_stock]; split <;> simp
@[simp] theorem genBeacon_link : (genBeacon s).link = s.link := by
  unfold genBeacon; dsimp only; rw [resendStock_link]; split <;> simp
@[simp] theorem genBeacon_rx : (genBeacon s).rx = s.rx := by
  unfold genBeacon; dsimp only; rw [resendStock_rx]; split <;> simp
@[simp] theorem genBeacon_exch : (genBeacon s).exch = s.exch := by
  unfold genBeacon; dsimp only; rw [resendStock_exch]; split <;> simp
@[simp] theorem genBeacon_port : (genBeacon s).port = s.port := by
  unfold genBeacon; dsimp only; rw [resendStock_port]; split <;> simp
@[simp] theorem genBeacon_pending : (genBeacon s).pending = s.pending := by
  unfold genBeacon; dsimp only; rw [resendStock_pending]; split <;> simp
@[simp] theorem holdBeacon_station : (holdBeacon s).station = s.station := by
  unfold holdBeacon; split <;> simp
@[simp] theorem holdBeacon_cfg : (holdBeacon s).cfg = s.cfg := by
  unfold holdBeacon; split <;> simp
@[simp] theorem holdBeacon_tabs : (holdBeacon s).tabs = s.tabs := by
  unfold holdBeacon; split <;> simp
@[simp] theorem holdBeacon_engine : (holdBeacon s).engine = s.engine := by
  unfold holdBeacon; split <;> simp
@[simp] theorem holdBeacon_claims : (holdBeacon s).claims = s.claims := by
  unfold holdBeacon; split <;> simp
@[simp] theorem holdBeacon_takings : (holdBeacon s).takings = s.takings := by
  unfold holdBeacon; split <;> simp
@[simp] theorem holdBeacon_dir : (holdBeacon s).dir = s.dir := by
  unfold holdBeacon; split <;> simp
@[simp] theorem holdBeacon_kitchen : (holdBeacon s).kitchen = s.kitchen := by
  unfold holdBeacon; split <;> simp
@[simp] theorem holdBeacon_stock : (holdBeacon s).stock = s.stock := by
  unfold holdBeacon; split <;> simp
@[simp] theorem holdBeacon_link : (holdBeacon s).link = s.link := by
  unfold holdBeacon; split <;> simp
@[simp] theorem holdBeacon_rx : (holdBeacon s).rx = s.rx := by
  unfold holdBeacon; split <;> simp
@[simp] theorem holdBeacon_exch : (holdBeacon s).exch = s.exch := by
  unfold holdBeacon; split <;> simp
@[simp] theorem holdBeacon_port : (holdBeacon s).port = s.port := by
  unfold holdBeacon; split <;> simp
@[simp] theorem holdBeacon_pending : (holdBeacon s).pending = s.pending := by
  unfold holdBeacon; split <;> simp

end Sys2Proof.Machine
end

