-- ==== Sys2Proof/Laws/Records.lean ====
section
/-! SUPPORT. Looking up and changing a record by its key: what is found after an update of the record with the same or another key. -/

namespace Sys2Proof.Machine

/-! ## Lists -/

/-- A lookup after an update that keeps the key finds the updated member. -/
theorem find_mapIf {α : Type} (p : α → Bool) (f : α → α) (hf : ∀ a, p a = true → p (f a) = true) (l : List α) :
    (mapIf p f l).find? p = (l.find? p).map f := by
  induction l with
  | nil => rfl
  | cons a l ih =>
    by_cases h : p a = true
    · simp [mapIf, h, hf a h]
    · rw [Bool.not_eq_true] at h
      have : mapIf p f (a :: l) = a :: mapIf p f l := by simp [mapIf, h]
      rw [this, List.find?_cons, List.find?_cons, h]
      exact ih

/-- A lookup after an update of other members finds what it found. -/
theorem find_mapIf_other {α : Type} (p q : α → Bool) (f : α → α) (hq : ∀ a, p a = true → q a = false ∧ q (f a) = false) (l : List α) :
    (mapIf p f l).find? q = l.find? q := by
  induction l with
  | nil => rfl
  | cons a l ih =>
    by_cases h : p a = true
    · have : mapIf p f (a :: l) = f a :: mapIf p f l := by simp [mapIf, h]
      rw [this, List.find?_cons, List.find?_cons, (hq a h).1, (hq a h).2]
      exact ih
    · rw [Bool.not_eq_true] at h
      have : mapIf p f (a :: l) = a :: mapIf p f l := by simp [mapIf, h]
      rw [this, List.find?_cons, List.find?_cons, ih]

/-- An update of no member changes nothing. -/
theorem mapIf_none {α : Type} (p : α → Bool) (f : α → α) (l : List α) (h : ∀ a ∈ l, p a = false) : mapIf p f l = l := by
  induction l with
  | nil => rfl
  | cons a l ih =>
    have hc : mapIf p f (a :: l) = a :: mapIf p f l := by simp [mapIf, h a (by simp)]
    rw [hc, ih fun b hb => h b (by simp [hb])]

/-- An update that keeps the keys keeps the list of keys. -/
theorem map_mapIf {α β : Type} (p : α → Bool) (f : α → α) (key : α → β) (hf : ∀ a, p a = true → key (f a) = key a) (l : List α) :
    (mapIf p f l).map key = l.map key := by
  simp only [mapIf, List.map_map]
  apply List.map_congr_left
  intro a _
  by_cases h : p a = true
  · simp [h, hf a h]
  · simp [h]

theorem length_mapIf {α : Type} (p : α → Bool) (f : α → α) (l : List α) : (mapIf p f l).length = l.length := by
  simp [mapIf]

theorem mem_mapIf {α : Type} {p : α → Bool} {f : α → α} {l : List α} {b : α} (h : b ∈ mapIf p f l) :
    (b ∈ l ∧ p b = false) ∨ ∃ a ∈ l, p a = true ∧ b = f a := by
  simp only [mapIf, List.mem_map] at h
  obtain ⟨a, ha, rfl⟩ := h
  by_cases hp : p a = true
  · exact .inr ⟨a, ha, hp, by simp [hp]⟩
  · rw [Bool.not_eq_true] at hp
    left
    rw [if_neg (by simp [hp])]
    exact ⟨ha, hp⟩

/-- An insertion by key adds one member. -/
theorem mem_insertBy {α : Type} (key : α → Nat) (a b : α) (l : List α) : b ∈ insertBy key a l ↔ b = a ∨ b ∈ l := by
  induction l with
  | nil => simp [insertBy]
  | cons x l ih =>
    unfold insertBy
    split
    · simp
    · simp only [List.mem_cons, ih]
      constructor
      · rintro (h | h | h)
        · exact .inr (.inl h)
        · exact .inl h
        · exact .inr (.inr h)
      · rintro (h | h | h)
        · exact .inr (.inl h)
        · exact .inl h
        · exact .inr (.inr h)

theorem length_insertBy {α : Type} (key : α → Nat) (a : α) (l : List α) : (insertBy key a l).length = l.length + 1 := by
  induction l with
  | nil => rfl
  | cons x l ih =>
    unfold insertBy
    split
    · simp
    · simp [ih]

/-- An insertion by a key that is not held keeps the keys ascending. -/
theorem pairwise_insertBy {α : Type} (key : α → Nat) (a : α) (l : List α) (h : (l.map key).Pairwise (· < ·))
    (ha : ∀ b ∈ l, key b ≠ key a) : ((insertBy key a l).map key).Pairwise (· < ·) := by
  induction l with
  | nil => simp [insertBy]
  | cons x l ih =>
    simp only [List.map_cons, List.pairwise_cons, List.mem_map, forall_exists_index, and_imp] at h
    unfold insertBy
    split
    · rename_i hx
      simp only [List.map_cons, List.pairwise_cons, List.mem_cons, List.mem_map, forall_exists_index, and_imp]
      refine ⟨?_, h.1, h.2⟩
      rintro n (rfl | ⟨b, hb, rfl⟩)
      · exact hx
      · have := h.1 _ b hb rfl; omega
    · rename_i hx
      simp only [List.map_cons, List.pairwise_cons, List.mem_map, forall_exists_index, and_imp]
      refine ⟨?_, ih h.2 fun b hb => ha b (by simp [hb])⟩
      rintro n b hb rfl
      rcases (mem_insertBy key a b l).1 hb with rfl | hb
      · have := ha x (by simp); omega
      · exact h.1 _ b hb rfl

/-- The least free number is the first that is not taken. -/
theorem leastFree_some {n k : Nat} {taken : Nat → Bool} (h1 : 1 ≤ k) (h2 : k ≤ n) (hk : taken k = false)
    (hl : ∀ m, 1 ≤ m → m < k → taken m = true) : leastFree n taken = some k := by
  have : (List.range n).find? ((fun i => !taken i) ∘ fun x => x + 1) = some (k - 1) := by
    rw [List.find?_range_eq_some]
    refine ⟨?_, ?_, ?_⟩
    · have : k - 1 + 1 = k := by omega
      simp [Function.comp, this, hk]
    · simp; omega
    · intro m hm
      simp only [Function.comp, hl (m + 1) (by omega) (by omega), Bool.not_true, Bool.not_false]
  unfold leastFree
  rw [List.find?_map, this]
  simp
  omega

/-! ## Tabs -/

theorem number_of_findTab {s : State} {n : Nat} {t : Tab} (h : findTab s n = some t) : t.number = n := by
  simpa using List.find?_some h

theorem mem_of_findTab {s : State} {n : Nat} {t : Tab} (h : findTab s n = some t) : t ∈ s.tabs := List.mem_of_find?_eq_some h

theorem findTab_modTab (n : Nat) (f : Tab → Tab) (hf : ∀ t, (f t).number = t.number) (s : State) :
    findTab (modTab n f s) n = (findTab s n).map f :=
  find_mapIf _ f (fun t h => by simpa [hf] using h) s.tabs

theorem findTab_modTab_other {m n : Nat} (f : Tab → Tab) (hf : ∀ t, (f t).number = t.number) (hne : m ≠ n) (s : State) :
    findTab (modTab n f s) m = findTab s m := by
  refine find_mapIf_other _ _ f (fun t h => ?_) s.tabs
  simp only [beq_iff_eq] at h
  simp only [hf, h, beq_eq_false_iff_ne, ne_eq]
  exact ⟨fun h => hne h.symm, fun h => hne h.symm⟩

theorem number_of_line {t : Tab} {n : Nat} {l : Line} (h : t.line n = some l) : l.number = n := by
  simpa using List.find?_some h

/-! ## Shares, tickets, portions, peers and claims -/

theorem number_of_share {sp : SplitRec} {n : Nat} {sh : Share} (h : sp.share n = some sh) : sh.number = n := by
  simpa using List.find?_some h

theorem number_of_findTicket {s : State} {n : Nat} {t : Ticket} (h : findTicket s n = some t) : t.number = n := by
  simpa using List.find?_some h

theorem item_of_findPortion {s : State} {n : Nat} {p : Portion} (h : findPortion s n = some p) : p.item = n := by
  simpa using List.find?_some h

/-! A transfer keeps the entry's item (R122). -/

@[simp] theorem Portion.take_item (q : Nat) (p : Portion) : (p.take q).item = p.item := rfl

@[simp] theorem Portion.fire_item (q : Nat) (p : Portion) : (p.fire q).item = p.item := rfl

@[simp] theorem Portion.giveBack_item (q : Nat) (p : Portion) : (p.giveBack q).item = p.item := by cases p; rfl

@[simp] theorem Portion.addWaste_item (q : Nat) (p : Portion) : (p.addWaste q).item = p.item := rfl

theorem findPortion_modPortion (n : Nat) (f : Portion → Portion) (hf : ∀ p, (f p).item = p.item) (s : State) :
    findPortion (modPortion n f s) n = (findPortion s n).map f :=
  find_mapIf _ f (fun p h => by simpa [hf] using h) s.portions

theorem findPortion_modPortion_other {m n : Nat} (f : Portion → Portion) (hf : ∀ p, (f p).item = p.item) (hne : m ≠ n) (s : State) :
    findPortion (modPortion n f s) m = findPortion s m := by
  refine find_mapIf_other _ _ f (fun p h => ?_) s.portions
  simp only [beq_iff_eq] at h
  simp only [hf, h, beq_eq_false_iff_ne, ne_eq]
  exact ⟨fun h => hne h.symm, fun h => hne h.symm⟩

theorem station_of_findPeer {s : State} {k : Nat} {p : Peer} (h : findPeer s k = some p) : p.station = k := by
  simpa using List.find?_some h

theorem findPeer_modPeer (k : Nat) (f : Peer → Peer) (hf : ∀ p, (f p).station = p.station) (s : State) :
    findPeer (modPeer k f s) k = (findPeer s k).map f :=
  find_mapIf _ f (fun p h => by simpa [hf] using h) s.dir.entries

/-- The entry a lookup of the claims list finds is the one it asked for. -/
theorem claim_of_findClaim {s : State} {home tab share : Nat} {e : ClaimEntry} (h : findClaim s home tab share = some e) :
    e.home = home ∧ e.tab = tab ∧ e.share = share := by
  have := List.find?_some h
  simpa [ClaimEntry.isFor, and_assoc] using this

/-! ## Adding lines -/

/-- The lines of an Add join the end of the tab's list, numbered on from it (R4, R8). -/
theorem appendLines_eq (origin : Nat) (lines : List LineReq) (t : Tab) :
    appendLines origin lines t =
      { t with lines := t.lines ++ lines.mapIdx fun i l => lineRecord origin (t.lines.length + i + 1) l } := by
  unfold appendLines
  induction lines generalizing t with
  | nil => simp
  | cons a l ih =>
    rw [List.foldl_cons, ih]
    simp only [List.length_append, List.length_cons, List.length_nil, List.append_assoc, List.singleton_append, List.mapIdx_cons, Nat.add_zero]
    congr 4
    funext i l
    congr 1
    omega

end Sys2Proof.Machine
end

