-- ==== Sys2Proof/Laws/Outer.lean ====
section
/-! SUPPORT. What the router's work, the kitchen queue's operations and the stock reports leave alone: one relation, kept by each of the
operations and so by every event's end. -/

namespace Sys2Proof.Machine

/-- The parts of the state that no hand-over between blocks and no report touches. -/
structure KeepsOuter (s t : State) : Prop where
  station : t.station = s.station
  cfg : t.cfg = s.cfg
  engineIdle : s.engine = none → t.engine = none
  claims : t.claims = s.claims
  stock : t.stock = s.stock
  link : t.link = s.link
  rx : t.rx = s.rx
  period : t.takings.period = s.takings.period
  spanStart : t.takings.spanStart = s.takings.spanStart
  deferral : t.takings.deferral = s.takings.deferral
  slot1 : t.takings.slot1 = s.takings.slot1
  slot2 : t.takings.slot2 = s.takings.slot2
  lockout : t.takings.lockout = s.takings.lockout
  answer : t.port.answer = s.port.answer
  taken : t.port.taken = s.port.taken
  mask : t.port.mask = s.port.mask
  snapshot : t.port.snapshot = s.port.snapshot
  pdo : t.port.pdo = s.port.pdo
  pending : t.pending = s.pending

namespace KeepsOuter

variable {s t u : State}

theorem refl (s : State) : KeepsOuter s s := by constructor <;> simp

theorem trans (h : KeepsOuter s t) (k : KeepsOuter t u) : KeepsOuter s u where
  station := k.station.trans h.station
  cfg := k.cfg.trans h.cfg
  engineIdle := fun e => k.engineIdle (h.engineIdle e)
  claims := k.claims.trans h.claims
  stock := k.stock.trans h.stock
  link := k.link.trans h.link
  rx := k.rx.trans h.rx
  period := k.period.trans h.period
  spanStart := k.spanStart.trans h.spanStart
  deferral := k.deferral.trans h.deferral
  slot1 := k.slot1.trans h.slot1
  slot2 := k.slot2.trans h.slot2
  lockout := k.lockout.trans h.lockout
  answer := k.answer.trans h.answer
  taken := k.taken.trans h.taken
  mask := k.mask.trans h.mask
  snapshot := k.snapshot.trans h.snapshot
  pdo := k.pdo.trans h.pdo
  pending := k.pending.trans h.pending

/-- A fold of operations that each keep the outer parts keeps them. -/
theorem foldl {α : Type} {f : State → α → State} (hf : ∀ s a, KeepsOuter s (f s a)) (l : List α) (s : State) :
    KeepsOuter s (l.foldl f s) := by
  induction l generalizing s with
  | nil => exact refl s
  | cons a l ih => exact (hf s a).trans (ih (f s a))

end KeepsOuter

open KeepsOuter

/-! ## Plain operations -/

/-- An update of tabs, router, kitchen, portions, peers, beacon or exchanges keeps the outer parts. -/
theorem keeps_of_fields {s t : State} (h1 : t.station = s.station) (h2 : t.cfg = s.cfg) (h3 : t.engine = s.engine)
    (h4 : t.claims = s.claims) (h5 : t.stock = s.stock) (h6 : t.link = s.link) (h7 : t.rx = s.rx) (h8 : t.takings = s.takings)
    (h9 : t.port = s.port) (h10 : t.pending = s.pending) : KeepsOuter s t := by
  constructor <;> simp [h1, h2, h3, h4, h5, h6, h7, h8, h9, h10]

theorem post_keeps (n : Notice) (s : State) : KeepsOuter s (post n s) := by
  have h : ∀ p : Port, (p.post n).answer = p.answer ∧ (p.post n).taken = p.taken ∧ (p.post n).mask = p.mask ∧
      (p.post n).snapshot = p.snapshot ∧ (p.post n).pdo = p.pdo := by
    intro p
    unfold Port.post
    split
    · cases n.level <;> exact ⟨rfl, rfl, rfl, rfl, rfl⟩
    · exact ⟨rfl, rfl, rfl, rfl, rfl⟩
  obtain ⟨h1, h2, h3, h4, h5⟩ := h s.port
  constructor <;> first | rfl | exact id | assumption

theorem count_keeps (f : Accums → Accums) (s : State) : KeepsOuter s (count f s) := by constructor <;> first | rfl | exact id

theorem modTab_keeps (n : Nat) (f : Tab → Tab) (s : State) : KeepsOuter s (modTab n f s) := by
  constructor <;> first | rfl | exact id

theorem setLineState_keeps (tab line : Nat) (dst : LineState) (s : State) : KeepsOuter s (setLineState tab line dst s) :=
  modTab_keeps _ _ _

theorem moveLines_keeps (tab : Nat) (lines : List Nat) (p : LineState → Bool) (dst : LineState) (s : State) :
    KeepsOuter s (moveLines tab lines p dst s) := modTab_keeps _ _ _

theorem modTicket_keeps (n : Nat) (f : Ticket → Ticket) (s : State) : KeepsOuter s (modTicket n f s) := by
  constructor <;> first | rfl | exact id

theorem dropTicket_keeps (n : Nat) (s : State) : KeepsOuter s (dropTicket n s) := by constructor <;> first | rfl | exact id

theorem modPeer_keeps (k : Nat) (f : Peer → Peer) (s : State) : KeepsOuter s (modPeer k f s) := by
  constructor <;> first | rfl | exact id

theorem modPortion_keeps (item : Nat) (f : Portion → Portion) (s : State) : KeepsOuter s (modPortion item f s) := by
  constructor <;> first | rfl | exact id

theorem kitchen_keeps (k : Kitchen) (s : State) : KeepsOuter s { s with kitchen := k } := by constructor <;> first | rfl | exact id

theorem router_keeps (r : Router) (s : State) : KeepsOuter s { s with router := r } := by constructor <;> first | rfl | exact id

theorem transferAll_keeps (f : Nat → Portion → Portion) (l : List KLine) (s : State) : KeepsOuter s (transferAll f l s) :=
  foldl (fun _ _ => modPortion_keeps _ _ _) _ _

theorem sendFrame_keeps (f : OutFrame) (s : State) : KeepsOuter s (sendFrame f s).2 :=
  keeps_of_fields (by simp) (by simp) (by simp) (by simp) (by simp) (by simp) (by simp) (by simp) (by simp) (by simp)

theorem openExchange_keeps (kind dest subject share : Nat) (owner : Owner) (payload : Bytes) (s : State) :
    KeepsOuter s (openExchange kind dest subject share owner payload s).2 :=
  keeps_of_fields (by simp) (by simp) (by simp) (by simp) (by simp) (by simp) (by simp) (by simp) (by simp) (by simp)

theorem queueStock_keeps (item : Nat) (st : StockState) (n : Nat) (s : State) : KeepsOuter s (queueStock item st n s) :=
  keeps_of_fields (by simp) (by simp) (by simp) (by simp) (by simp) (by simp) (by simp) (by simp) (by simp) (by simp)

theorem holdBeacon_keeps (s : State) : KeepsOuter s (holdBeacon s) :=
  keeps_of_fields (by simp) (by simp) (by simp) (by simp) (by simp) (by simp) (by simp) (by simp) (by simp) (by simp)

/-! ## The tab store -/

theorem tellClaimEnd_keeps (tab share k : Nat) (r : EndReason) (s : State) : KeepsOuter s (tellClaimEnd tab share k r s) := by
  unfold tellClaimEnd
  split
  · exact post_keeps _ _
  · exact sendFrame_keeps _ _

theorem automaticWithdraw_keeps (tab : Nat) (sp : SplitRec) (line : Nat) (s : State) : KeepsOuter s (automaticWithdraw tab sp line s) :=
  (foldl (fun _ _ => tellClaimEnd_keeps _ _ _ _ _) _ s).trans
    ((modTab_keeps _ _ _).trans ((setLineState_keeps _ _ _ _).trans (post_keeps _ _)))

theorem refundLine_keeps (tab : Nat) (sp : SplitRec) (l : Line) (s : State) : KeepsOuter s (refundLine tab sp l s) :=
  (modTab_keeps _ _ _).trans (post_keeps _ _)

theorem tabKitchenVoid_keeps (tab line : Nat) (s : State) : KeepsOuter s (tabKitchenVoid tab line s) := by
  unfold tabKitchenVoid
  split
  · exact refl s
  · split
    · exact refl s
    · split
      · exact refl s
      · split
        · exact setLineState_keeps _ _ _ _
        · refine (setLineState_keeps tab line .kvoid s).trans ?_
          constructor <;> first | rfl | (intro (h : s.engine = none); simp [h])
        · split
          · exact refundLine_keeps _ _ _ _
          · exact automaticWithdraw_keeps _ _ _ _
        · exact refundLine_keeps _ _ _ _
        · exact refl s

/-! ## The router's records -/

theorem pruneTicket_keeps (n : Nat) (s : State) : KeepsOuter s (pruneTicket n s) := by
  unfold pruneTicket
  split
  · split
    · exact dropTicket_keeps _ _
    · exact refl s
  · exact refl s

theorem endTicket_keeps (t : Ticket) (dst : LineState) (s : State) : KeepsOuter s (endTicket t dst s) :=
  (moveLines_keeps _ _ _ _ _).trans (dropTicket_keeps _ _)

theorem unroute_keeps (t : Ticket) (r : UnroutedReason) (s : State) : KeepsOuter s (unroute t r s) :=
  (modTicket_keeps _ _ _).trans ((moveLines_keeps _ _ _ _ _).trans (post_keeps _ _))

theorem voidEnd_keeps (e : VoidEntry) (a : VoidAnswer) (s : State) : KeepsOuter s (voidEnd e a s) := by
  unfold voidEnd
  split
  · exact post_keeps _ _
  · have first : ∀ c : List (Nat × Nat),
        KeepsOuter s (if c.isEmpty then s else post (.voidResult e.ticket e.kitchen c) s) := by
      intro c
      split
      · exact refl s
      · exact post_keeps _ _
    have whole : ∀ (l : List Nat) (c : List (Nat × Nat)) (cause : Nat),
        KeepsOuter s
          (if l.isEmpty then (if c.isEmpty then s else post (.voidResult e.ticket e.kitchen c) s)
          else post (.voidUnconfirmed e.ticket e.kitchen l cause)
            (if c.isEmpty then s else post (.voidResult e.ticket e.kitchen c) s)) := by
      intro l c cause
      split
      · exact first c
      · exact (first c).trans (post_keeps _ _)
    exact whole _ _ _

/-- A hand-over of reports keeps the outer parts. -/
def HandOver.keeps (rep : HandOver) : Prop := ∀ n r s, KeepsOuter s (rep n r s)

/-- A hand-over of void requests keeps the outer parts. -/
def OwnVoid.keeps (own : OwnVoid) : Prop := ∀ n l s, KeepsOuter s (own n l s).2

/-! ## The kitchen queue -/

theorem holdTest_keeps (s : State) : KeepsOuter s (holdTest s) := by
  unfold holdTest
  dsimp only
  split
  · exact refl s
  · exact (kitchen_keeps _ s).trans ((holdBeacon_keeps _).trans (post_keeps _ _))

theorem makeReport_keeps {rep : HandOver} (h : rep.keeps) (t : KTicket) (r : Report) (s : State) :
    KeepsOuter s (makeReport rep t r s) := by
  unfold makeReport
  split
  · split
    · exact refl s
    · exact h _ _ _
  · exact sendFrame_keeps _ _

theorem fireTicket_keeps {rep : HandOver} (h : rep.keeps) (t : KTicket) (s : State) : KeepsOuter s (fireTicket rep t s) :=
  (kitchen_keeps _ s).trans ((transferAll_keeps _ _ _).trans (makeReport_keeps h _ _ _))

theorem autoFireLoop_keeps {rep : HandOver} (h : rep.keeps) (n : Nat) (s : State) : KeepsOuter s (autoFireLoop rep n s) := by
  induction n generalizing s with
  | zero => exact refl s
  | succ n ih =>
    unfold autoFireLoop
    split
    · exact refl s
    · split
      · exact (fireTicket_keeps h _ _).trans (ih _)
      · exact refl s

theorem autoFire_keeps {rep : HandOver} (h : rep.keeps) (s : State) : KeepsOuter s (autoFire rep s) := by
  unfold autoFire
  split
  · exact autoFireLoop_keeps h _ _
  · exact refl s

theorem acceptTicket_keeps {rep : HandOver} (h : rep.keeps) (home ref : Nat) (o : Offer) (s : State) :
    KeepsOuter s (acceptTicket rep noAnswer home ref o s).2 :=
  (transferAll_keeps _ _ s).trans
    ((kitchen_keeps _ _).trans
      ((post_keeps _ _).trans ((count_keeps _ _).trans ((holdTest_keeps _).trans (autoFire_keeps h _)))))

theorem takeOffer_keeps {rep : HandOver} (h : rep.keeps) (home : Nat) (o : Offer) (s : State) :
    KeepsOuter s (takeOffer rep noAnswer home o s).2 := by
  unfold takeOffer
  split
  · exact refl s
  · split
    · exact refl s
    · split
      · exact refl s
      · split
        · exact refl s
        · split
          · exact refl s
          · split
            · exact refl s
            · exact acceptTicket_keeps h _ _ _ _

theorem removeVoided_keeps {rep : HandOver} (h : rep.keeps) (p : Place) (t : KTicket) (s : State) :
    KeepsOuter s (removeVoided rep p t s) := by
  have left : KeepsOuter s (countVoided (makeReport rep t (.state .voided) { s with kitchen := s.kitchen.drop t.ref })) :=
    (kitchen_keeps _ s).trans ((makeReport_keeps h _ _ _).trans (count_keeps _ _))
  cases p with
  | queued => exact left.trans (holdTest_keeps _)
  | fired => exact left.trans ((holdTest_keeps _).trans (autoFire_keeps h _))
  | ready => exact left

theorem voidKLines_keeps {rep : HandOver} (h : rep.keeps) (p : Place) (t : KTicket) (names : List Nat) (byKitchen : Bool) (s : State) :
    KeepsOuter s (voidKLines rep p t names byKitchen s) := by
  unfold voidKLines
  dsimp only
  split
  · exact refl s
  · have paid : ∀ (t' : KTicket) (hit : List KLine),
        KeepsOuter s
          (match p with
          | .queued => transferAll Portion.giveBack hit { s with kitchen := s.kitchen.modRef t.ref fun _ => t' }
          | _ => countWaste (hit.map (·.qty)).sum
              (transferAll Portion.addWaste hit { s with kitchen := s.kitchen.modRef t.ref fun _ => t' })) := by
      intro t' hit
      split
      · exact (kitchen_keeps _ s).trans (transferAll_keeps _ _ _)
      · exact (kitchen_keeps _ s).trans ((transferAll_keeps _ _ _).trans (count_keeps _ _))
    split
    · exact (paid _ _).trans ((makeReport_keeps h _ _ _).trans (removeVoided_keeps h _ _ _))
    · exact (paid _ _).trans (makeReport_keeps h _ _ _)

theorem kitchenTicketVoid_keeps {rep : HandOver} (h : rep.keeps) (home number : Nat) (lines : List Nat) (s : State) :
    KeepsOuter s (kitchenTicketVoid rep home number lines s).2 := by
  unfold kitchenTicketVoid
  split
  · exact refl s
  · exact voidKLines_keeps h _ _ _ _ _

/-! ## Placement and reports -/

theorem requestVoid_keeps {own : OwnVoid} (h : own.keeps) (e : VoidEntry) (s : State) : KeepsOuter s (requestVoid own e s) := by
  unfold requestVoid
  split
  · exact (h _ _ _).trans (voidEnd_keeps _ _ _)
  · dsimp only
    split
    · exact router_keeps _ _
    · split
      · exact voidEnd_keeps _ _ _
      · exact router_keeps _ _

theorem strayVoid_keeps {own : OwnVoid} (h : own.keeps) (t : Ticket) (k : Nat) (s : State) : KeepsOuter s (strayVoid own t k s) := by
  unfold strayVoid
  split
  · exact refl s
  · exact (modTicket_keeps _ _ _).trans (requestVoid_keeps h _ _)

theorem placeTicket_keeps {own : OwnVoid} (h : own.keeps) (t : Ticket) (k : Nat) (depth : Option Nat) (late : Bool) (s : State) :
    KeepsOuter s (placeTicket own t k depth late s) := by
  have loaded : ∀ u, KeepsOuter s u → KeepsOuter s (recordPlaced k (match depth with | some d => recordDepth k d u | none => u)) := by
    intro u hu
    cases depth with
    | none => exact hu.trans (modPeer_keeps _ _ _)
    | some d => exact hu.trans ((modPeer_keeps _ _ _).trans (modPeer_keeps _ _ _))
  have finish : ∀ u (l : List Nat), KeepsOuter s u →
      KeepsOuter s (pruneTicket t.number (if l.isEmpty then u else requestVoid own ⟨k, t.number, t.tab, l, .till⟩ u)) := by
    intro u l hu
    split
    · exact hu.trans (pruneTicket_keeps _ _)
    · exact hu.trans ((requestVoid_keeps h _ _).trans (pruneTicket_keeps _ _))
  exact finish _ _ (loaded _ ((modTicket_keeps _ _ s).trans (moveLines_keeps _ _ _ _ _)))

theorem takeAccept_keeps {own : OwnVoid} (h : own.keeps) (n k depth : Nat) (s : State) : KeepsOuter s (takeAccept own n k depth s) := by
  unfold takeAccept
  split
  · exact requestVoid_keeps h _ _
  · split
    · split
      · exact placeTicket_keeps h _ _ _ _ _
      · exact strayVoid_keeps h _ _ _
    · split
      · exact modPeer_keeps _ _ _
      · exact strayVoid_keeps h _ _ _
    · exact strayVoid_keeps h _ _ _

theorem failOffer_keeps (n k : Nat) (s : State) : KeepsOuter s (failOffer n k s) := by
  unfold failOffer
  split
  · exact refl s
  · split
    · dsimp only
      split
      · exact (modTicket_keeps _ _ _).trans (dropTicket_keeps _ _)
      · split
        · exact modTicket_keeps _ _ _
        · exact (modTicket_keeps _ _ _).trans (unroute_keeps _ _ _)
    · exact refl s

theorem reportVoids_keeps (t : Ticket) (lines : List Nat) (s : State) : KeepsOuter s (reportVoids t lines s) :=
  (foldl (fun _ _ => tabKitchenVoid_keeps _ _ _) _ s).trans (pruneTicket_keeps _ _)

theorem applyPlaced_keeps (t : Ticket) (k : Nat) (ks : KState) (r : Report) (s : State) : KeepsOuter s (applyPlaced t k ks r s) := by
  unfold applyPlaced
  split
  · split
    · exact (modTicket_keeps _ _ _).trans (moveLines_keeps _ _ _ _ _)
    · exact refl s
  · split
    · exact refl s
    · exact (modTicket_keeps _ _ _).trans ((moveLines_keeps _ _ _ _ _).trans (post_keeps _ _))
  · exact endTicket_keeps _ _ _
  · exact endTicket_keeps _ _ _
  · exact endTicket_keeps _ _ _
  · exact reportVoids_keeps _ _ _
  · exact refl s

theorem applyStray_keeps {own : OwnVoid} (h : own.keeps) (t : Ticket) (k : Nat) (r : Report) (s : State) :
    KeepsOuter s (applyStray own t k r s) := by
  unfold applyStray
  split
  · exact strayVoid_keeps h _ _ _
  · exact strayVoid_keeps h _ _ _
  · exact refl s

theorem applyReport_keeps {own : OwnVoid} (h : own.keeps) (k n : Nat) (r : Report) (s : State) :
    KeepsOuter s (applyReport own k n r s) := by
  unfold applyReport
  split
  · exact refl s
  · split
    · split
      · exact applyPlaced_keeps _ _ _ _ _
      · exact applyStray_keeps h _ _ _ _
    · split
      · dsimp only
        split
        · exact (placeTicket_keeps h _ _ _ _ _).trans (applyPlaced_keeps _ _ _ _ _)
        · exact placeTicket_keeps h _ _ _ _ _
      · exact applyStray_keeps h _ _ _ _

theorem handReport_keeps (d : Nat) : HandOver.keeps (handReport d) := by
  induction d with
  | zero => exact fun _ _ s => refl s
  | succ d ih => exact fun n r s => applyReport_keeps (fun _ _ _ => kitchenTicketVoid_keeps ih _ _ _ _) _ _ _ _

theorem ownReport_keeps : HandOver.keeps ownReport := handReport_keeps _

theorem ownVoid_keeps : OwnVoid.keeps ownVoid := fun _ _ _ => kitchenTicketVoid_keeps ownReport_keeps _ _ _ _

/-! ## The router's work and the stock reports -/

theorem offerTo_keeps (t : Ticket) (k : Nat) (s : State) : KeepsOuter s (offerTo t k s) := by
  unfold offerTo
  dsimp only
  have off := modTicket_keeps t.number (fun t => { t with attempts := t.attempts + 1, state := .offered k }) s
  split
  · have taken := off.trans (takeOffer_keeps ownReport_keeps k (buildOffer s t) _)
    split
    · exact taken.trans (takeAccept_keeps ownVoid_keeps _ _ _ _)
    · exact taken.trans (failOffer_keeps _ _ _)
  · have ex := off.trans (openExchange_keeps Kind.ticket k t.number 0 .offer (eOfferPayload (buildOffer s t)) _)
    split
    · rename_i s' h
      rw [h] at ex
      exact ex
    · rename_i s' h
      rw [h] at ex
      exact ex.trans ((modTicket_keeps _ _ _).trans (router_keeps _ _))
    · rename_i s' _ _ h
      rw [h] at ex
      exact ex.trans (failOffer_keeps _ _ _)

theorem sendVoid_keeps (e : VoidEntry) (rest : List VoidEntry) (s : State) : KeepsOuter s (sendVoid e rest s) := by
  unfold sendVoid
  dsimp only
  have ex := (router_keeps { s.router with voids := rest } s).trans
    (openExchange_keeps Kind.ticketVoid e.kitchen e.ticket 0 (.void e.purpose e.tab e.lines) (e2 e.ticket ++ eList e1 e.lines) _)
  split
  · rename_i s' h
    rw [h] at ex
    exact ex
  · rename_i r s' _ h
    rw [h] at ex
    exact ex.trans (voidEnd_keeps _ _ _)

theorem routerLoop_keeps (n : Nat) (s : State) : KeepsOuter s (routerLoop n s) := by
  induction n generalizing s with
  | zero => exact refl s
  | succ n ih =>
    unfold routerLoop
    split
    · split
      · split
        · exact (sendVoid_keeps _ _ _).trans (ih _)
        · split
          · exact refl s
          · split
            · exact (unroute_keeps _ _ _).trans (ih _)
            · exact (offerTo_keeps _ _ _).trans (ih _)
      · exact refl s
    · split
      · split
        · exact refl s
        · exact (offerTo_keeps _ _ _).trans (ih _)
      · exact refl s

/-- The router's work keeps the outer parts. -/
theorem routerWork_keeps (s : State) : KeepsOuter s (routerWork s) := routerLoop_keeps _ _

theorem reportStock_keeps (item : Nat) (old new : Option StockState) (n : Nat) (s : State) : KeepsOuter s (reportStock item old new n s) := by
  unfold reportStock
  dsimp only
  split
  · exact (queueStock_keeps _ _ _ _).trans ((post_keeps _ _).trans (post_keeps _ _))
  · exact (queueStock_keeps _ _ _ _).trans (post_keeps _ _)

/-- The stock reports keep the outer parts. -/
theorem stockReports_keeps (before : List Portion) (s : State) : KeepsOuter s (stockReports before s) := by
  unfold stockReports
  refine (foldl (fun _ _ => reportStock_keeps _ _ _ _ _) _ s).trans (foldl (fun u p => ?_) _ _)
  dsimp only
  split
  · exact refl u
  · exact reportStock_keeps _ _ _ _ _

end Sys2Proof.Machine
end

