-- ==== Sys2Proof/Laws/Blocks.lean ====
section
/-! SUPPORT. What the shared operations of the port, the takings unit, the kitchen queue, the router and the directory can do, one lemma
for each. -/

namespace Sys2Proof.Machine

variable (s : State)

/-! ## Notices -/

/-- Posting puts the notice at the end of its level's queue, or sets that level's overflow flag (R174). -/
theorem Port.post_cases (n : Notice) (p : Port) :
    ((p.queue n.level).length < n.level.capacity ∧ p.post n = p.setQueue (p.queue n.level ++ [n]) n.level) ∨
      (n.level.capacity ≤ (p.queue n.level).length ∧ p.post n = { p with overflow := p.overflow.raise n.level }) := by
  unfold Port.post
  by_cases h : (p.queue n.level).length < n.level.capacity
  · exact .inl ⟨h, if_pos h⟩
  · exact .inr ⟨Nat.le_of_not_lt h, if_neg h⟩

/-- Posting several notices changes the port alone. -/
theorem postAll_spec (l : List Notice) : ∃ p, postAll l s = { s with port := p } := by
  induction l generalizing s with
  | nil => exact ⟨s.port, rfl⟩
  | cons n l ih =>
    obtain ⟨p, h⟩ := ih (post n s)
    exact ⟨p, h⟩

/-! ## Periods -/

/-- A capture attempt takes the first FREE slot, or defers (R58, R59). -/
theorem captureAttempt_cases (ended : Nat) :
    (s.takings.slot1 = none ∧ (captureAttempt ended s).1 = some 1 ∧
      (captureAttempt ended s).2.takings.slot1 = some (captureRecord ended s.takings) ∧
      (captureAttempt ended s).2.takings.slot2 = s.takings.slot2) ∨
    (s.takings.slot1.isSome = true ∧ s.takings.slot2 = none ∧ (captureAttempt ended s).1 = some 2 ∧
      (captureAttempt ended s).2.takings.slot1 = s.takings.slot1 ∧
      (captureAttempt ended s).2.takings.slot2 = some (captureRecord ended s.takings)) ∨
    (s.takings.slot1.isSome = true ∧ s.takings.slot2.isSome = true ∧
      captureAttempt ended s = (none, post (.captureDeferred ended) { s with takings := { s.takings with deferral := true } })) := by
  cases h1 : s.takings.slot1 <;> cases h2 : s.takings.slot2 <;> simp [captureAttempt, h1, h2]

/-- A capture attempt changes the takings unit and the port alone. -/
theorem captureAttempt_spec (ended : Nat) : ∃ t p, (captureAttempt ended s).2 = { s with takings := t, port := p } := by
  unfold captureAttempt
  dsimp only
  split <;> exact ⟨_, _, rfl⟩

/-! ## Portions and the kitchen queue -/

/-- A transfer changes portion entries alone, and none of their items. -/
theorem transferAll_spec (f : Nat → Portion → Portion) (hf : ∀ q p, (f q p).item = p.item) (lines : List KLine) :
    ∃ l, transferAll f lines s = { s with portions := l } ∧ l.map (·.item) = s.portions.map (·.item) := by
  unfold transferAll
  induction lines.filter (·.taken) generalizing s with
  | nil => exact ⟨s.portions, rfl, rfl⟩
  | cons a l ih =>
    obtain ⟨m, h1, h2⟩ := ih (modPortion a.item (f a.qty) s)
    refine ⟨m, h1, h2.trans ?_⟩
    exact map_mapIf _ _ _ (fun p _ => hf a.qty p) _

@[simp] theorem transferAll_kitchen (f : Nat → Portion → Portion) (lines : List KLine) : (transferAll f lines s).kitchen = s.kitchen := by
  unfold transferAll
  induction lines.filter (·.taken) generalizing s with
  | nil => rfl
  | cons a l ih => exact ih _

/-- A ticket that was found by reference has that reference and lies in the list its place names (R98). -/
theorem byRef_mem {k : Kitchen} {ref : Nat} {p : Place} {t : KTicket} (h : k.byRef ref = some (p, t)) :
    t.ref = ref ∧ t ∈ (match p with | .queued => k.queued | .fired => k.fired | .ready => k.ready) := by
  unfold Kitchen.byRef Kitchen.locate at h
  split at h
  · rename_i u hu
    simp only [Option.some.injEq, Prod.mk.injEq] at h
    obtain ⟨rfl, rfl⟩ := h
    exact ⟨by simpa using List.find?_some hu, List.mem_of_find?_eq_some hu⟩
  · split at h
    · rename_i u hu
      simp only [Option.some.injEq, Prod.mk.injEq] at h
      obtain ⟨rfl, rfl⟩ := h
      exact ⟨by simpa using List.find?_some hu, List.mem_of_find?_eq_some hu⟩
    · simp only [Option.map_eq_some_iff, Prod.mk.injEq] at h
      obtain ⟨u, hu, rfl, rfl⟩ := h
      exact ⟨by simpa using List.find?_some hu, List.mem_of_find?_eq_some hu⟩

/-- A ticket of another home is reported by a broadcast frame (R110). -/
theorem makeReport_other {rep : HandOver} {t : KTicket} {r : Report} (h : t.home ≠ own s) :
    makeReport rep t r s = (sendFrame ⟨Kind.ticketState, allStations, 0, eReportPayload t.home t.number t.orphan r⟩ s).2 := by
  simp [makeReport, h]

/-- Names already distinct are not changed by naming each once. -/
theorem addNew_nodup (l : List Nat) (h : l.Nodup) : l.foldl (fun l n => addNew n l) [] = l := by
  have step : ∀ (l acc : List Nat), (acc ++ l).Nodup → l.foldl (fun l n => addNew n l) acc = acc ++ l := by
    intro l
    induction l with
    | nil => intro acc _; simp
    | cons a l ih =>
      intro acc h
      have ha : addNew a acc = acc ++ [a] := by
        unfold addNew
        rw [if_neg]
        simp only [List.nodup_append, List.nodup_cons] at h
        simp only [List.contains_eq_mem, decide_eq_true_eq]
        exact fun hm => h.2.2 a hm a (by simp) rfl
      rw [List.foldl_cons, ha, ih _ (by simpa using h)]
      simp
  simpa using step l [] (by simpa using h)

/-! ## The router -/

/-- A record is removed, or stands (R78). -/
theorem pruneTicket_cases (n : Nat) : pruneTicket n s = s ∨ pruneTicket n s = dropTicket n s := by
  unfold pruneTicket
  split
  · split
    · exact .inr rfl
    · exact .inl rfl
  · exact .inl rfl

/-- A filter that would empty the set is not applied (R80). -/
theorem mem_filterUnlessEmpty (p : Nat → Bool) (l : List Nat) (k : Nat) :
    k ∈ filterUnlessEmpty p l ↔ k ∈ l ∧ (p k = true ∨ ∀ x ∈ l, p x = false) := by
  unfold filterUnlessEmpty
  split
  · rename_i h
    simp only [List.isEmpty_iff, List.filter_eq_nil_iff, Bool.not_eq_true] at h
    exact ⟨fun hk => ⟨hk, .inr h⟩, fun h => h.1⟩
  · rename_i h
    simp only [List.isEmpty_iff, List.filter_eq_nil_iff] at h
    simp only [List.mem_filter]
    refine ⟨fun ⟨a, b⟩ => ⟨a, .inl b⟩, fun ⟨a, b⟩ => ⟨a, ?_⟩⟩
    rcases b with b | b
    · exact b
    · exact absurd (fun x hx => by simp [b x hx]) h

theorem bestOf_eq_none (l : List Nat) : bestOf s l = none ↔ l = [] := by
  cases l with
  | nil => simp [bestOf]
  | cons a l =>
    unfold bestOf
    split
    · simp
    · split <;> simp

/-! ## The directory's reports -/

theorem rejoinTicket_dir (k : Nat) (t : Ticket) : (rejoinTicket k s t).dir = s.dir := by
  unfold rejoinTicket
  split
  · split
    · rfl
    · split
      · rcases pruneTicket_cases (moveLines t.tab t.lines (· == .queued) .pending
          (modTicket t.number
            (fun t => { t with state := .pending, tried := [], attempts := 0, lines := t.lines.filter fun l => !lineEnded s t.tab l }) s))
          t.number with h | h <;> rw [h] <;> rfl
      · rfl
  · rfl

/-- The report of a rejoin leaves the directory as it stands (R67). -/
theorem reportRejoin_dir (k : Nat) : (reportRejoin k s).dir = s.dir := by
  have h1 : ∀ (l : List Ticket) (u : State), (l.foldl (rejoinTicket k) u).dir = u.dir := by
    intro l
    induction l with
    | nil => intro u; rfl
    | cons t l ih => intro u; rw [List.foldl_cons, ih, rejoinTicket_dir]
  have h2 : ∀ (l : List Notice) (u : State), (postAll l u).dir = u.dir := by
    intro l u
    obtain ⟨p, h⟩ := postAll_spec u l
    rw [h]
  have h3 : ∀ u : State, (orphanTickets k u).dir = u.dir := by
    intro u
    unfold orphanTickets
    dsimp only
    split <;> rfl
  simp only [reportRejoin, dropStock_dir, h3, routerRejoined, h1, claimsRejoined, h2, releaseClaimant_dir]

/-- The report of a loss leaves the directory as it stands (R65). -/
theorem reportLost_dir (k : Nat) : (reportLost k s).dir = s.dir := by
  have h : ∀ u : State, (routerLost k u).dir = u.dir := by
    intro u
    unfold routerLost
    dsimp only
    split <;> rfl
  simp only [reportLost, dropStock_dir, h, releaseClaimant_dir]

end Sys2Proof.Machine
end

