-- ==== Sys2Proof/Laws/Events.lean ====
section
/-! SUPPORT. How a command, an event and a delivered frame run: one lemma for each shared shape of a row. -/

namespace Sys2Proof.Machine

variable {s : State} {c : Instr}

/-! ## Commands -/

/-- A command that the port takes ends with its answer pending. -/
theorem carryOut_taken (body : Body) (h : commandTaken c s = true) :
    carryOut c body s = .next (afterCommand c s (body s).1 (body s).2) := by
  simp [carryOut, h, afterCommand]

/-- A command turned away changes nothing. -/
theorem carryOut_turned_away (body : Body) (h : commandTaken c s = false) : carryOut c body s = .next s := by
  simp [carryOut, h]

/-- A job command out of service is refused STATE. -/
theorem job_out_of_service (role : Option Role) (body : Body) (h : inService s = false) : job role body s = (.bare .STATE, s) := by
  simp [job, h, refuse]

/-- A job command in service without its role is refused NOT_SERVED. -/
theorem job_without_role {role : Role} (body : Body) (h : inService s = true) (hr : hasRole s role = false) :
    job (some role) body s = (.bare .NOT_SERVED, s) := by
  simp [job, h, needRole, hr, refuse]

/-- A job command in service with its role runs its rule. -/
theorem job_runs {role : Role} (body : Body) (h : inService s = true) (hr : hasRole s role = true) :
    job (some role) body s = body s := by
  simp [job, h, needRole, hr]

/-- A job command without a role runs its rule in service. -/
theorem job_runs_any (body : Body) (h : inService s = true) : job none body s = body s := by
  simp [job, h, needRole]

theorem commandTaken_of_jobReady {role : Role} (h : jobReady c role s = true) : commandTaken c s = true := by
  simp only [jobReady, Bool.and_eq_true] at h
  exact h.1.1

theorem inService_of_jobReady {role : Role} (h : jobReady c role s = true) : inService s = true := by
  simp only [jobReady, Bool.and_eq_true] at h
  exact h.1.2

theorem hasRole_of_jobReady {role : Role} (h : jobReady c role s = true) : hasRole s role = true := by
  simp only [jobReady, Bool.and_eq_true] at h
  exact h.2

/-- A ready job command leaves what its rule gives. -/
theorem carryOut_job {role : Role} (body : Body) (h : jobReady c role s = true) :
    carryOut c (job (some role) body) s = .next (afterCommand c s (body s).1 (body s).2) := by
  rw [carryOut_taken _ (commandTaken_of_jobReady h), job_runs body (inService_of_jobReady h) (hasRole_of_jobReady h)]

/-- A ready read command leaves what its rule gives. -/
theorem carryOut_read {role : Option Role} (body : Body) (h : readReady c role s = true) :
    carryOut c (readCommand role body) s = .next (afterCommand c s (body s).1 (body s).2) := by
  simp only [readReady, Bool.and_eq_true, bne_iff_ne, ne_eq] at h
  obtain ⟨⟨ht, hs⟩, hr⟩ := h
  rw [carryOut_taken _ ht]
  cases role with
  | none => simp [readCommand, hs, needRole]
  | some r =>
    have hr' : hasRole s r = true := by simpa using hr
    simp [readCommand, hs, needRole, hr']

/-! ## Events -/

/-- An event after reset leaves what its rule gives. -/
theorem event_runs (body : State → State) (h : s.station.inReset = false) : event body s = .next (afterEvent s (body s)) := by
  simp [event, h, afterEvent]

theorem event_in_reset (body : State → State) (h : s.station.inReset = true) : event body s = .next s := by
  simp [event, h]

/-! ## Frames -/

/-- The head frame of its kind, fit to be delivered, goes to its block. -/
theorem deliver_runs {kind : Nat} {f : Frame} {rest : List Frame} (block : Frame → State → State)
    (h : frameReady kind f rest s = true) :
    event (deliver kind block) s = .next (afterFrame s (block f (popped rest s))) := by
  simp only [frameReady, Bool.and_eq_true, Bool.not_eq_true', decide_eq_true_eq, beq_iff_eq] at h
  obtain ⟨⟨⟨hr, hq⟩, hk⟩, hd⟩ := h
  rw [event_runs _ hr]
  simp [deliver, hq, hk, hd, afterFrame, afterEvent, popped]

/-- A ready request goes to the rule that serves it. -/
theorem request_runs {α : Type} {kind : Nat} {f : Frame} {rest : List Frame} {role : Role} (r : Reader α) (subject share : α → Nat)
    (block : Frame → α → Answering → State → State) {a : α} (h : requestReady kind role f rest s = true)
    (ha : r.exact f.payload = some a) :
    event (request kind r role subject share block) s =
      .next (afterFrame s
        (block f a (fun y u => sendAnswer f.source f.kind f.tag (subject a) (share a) y u) (popped rest s))) := by
  simp only [requestReady, Bool.and_eq_true] at h
  obtain ⟨⟨hf, hs⟩, hr⟩ := h
  have hs' : inService (popped rest s) = true := hs
  have hr' : hasRole (popped rest s) role = true := by cases role <;> exact hr
  unfold request
  rw [deliver_runs _ hf]
  simp [ha, serve, hs', hr']

end Sys2Proof.Machine
end

