-- ==== Sys2Proof/Laws/Formats.lean ====
section
/-! SUPPORT. Encodings read back: each field's reader takes what its encoding wrote and leaves what follows (chapter Formats), and the
bits of a number give the number again. -/

namespace Sys2Proof.Machine

/-! ## Readers in sequence -/

theorem reader_bind {α β : Type} (r : Reader α) (f : α → Reader β) (bs : Bytes) :
    (r >>= f) bs = (r bs).bind fun p => f p.1 p.2 := rfl

/-- A reader that takes its field leaves the rest to what follows. -/
theorem reader_step {α β : Type} {r : Reader α} {f : α → Reader β} {bs rest : Bytes} {a : α} (h : r bs = some (a, rest)) :
    (r >>= f) bs = f a rest := by
  rw [reader_bind, h]
  rfl

theorem reader_pure {α : Type} (a : α) (bs : Bytes) : (pure a : Reader α) bs = some (a, bs) := rfl

/-! ## Fields -/

theorem toNat_byteOf (n : Nat) : (byteOf n).toNat = n % 256 := by simp [byteOf]

theorem byteOf_toNat (b : Byte) : byteOf b.toNat = b := by simp [byteOf]

theorem byte_cons (b : Byte) (rest : Bytes) : Reader.byte (b :: rest) = some (b, rest) := rfl

theorem n1_cons (b : Byte) (rest : Bytes) : Reader.n1 (b :: rest) = some (b.toNat, rest) := rfl

theorem n1_e1 {n : Nat} (h : n < 256) (rest : Bytes) : Reader.n1 (e1 n ++ rest) = some (n, rest) := by
  simp only [e1, List.cons_append, List.nil_append, n1_cons, toNat_byteOf, Nat.mod_eq_of_lt h]

theorem n2_e2 {n : Nat} (h : n < 65536) (rest : Bytes) : Reader.n2 (e2 n ++ rest) = some (n, rest) := by
  have : n / 256 % 256 * 256 + n % 256 = n := by omega
  simp only [Reader.n2, e2, List.cons_append, List.nil_append, reader_bind, n1_cons, Option.bind_some, reader_pure, toNat_byteOf, this]

theorem n4_e4 {n : Nat} (h : n < 4294967296) (rest : Bytes) : Reader.n4 (e4 n ++ rest) = some (n, rest) := by
  have : (n / 16777216 % 256 * 256 + n / 65536 % 256) * 65536 + (n / 256 % 256 * 256 + n % 256) = n := by omega
  simp only [Reader.n4, Reader.n2, e4, List.cons_append, List.nil_append, reader_bind, n1_cons, Option.bind_some, reader_pure,
    toNat_byteOf, this]

/-- A field that may be absent is read back, present or not. -/
theorem opt_eOpt {α : Type} {r : Reader α} {e : α → Bytes} (v : Option α) (h : ∀ a, v = some a → ∀ rest, r (e a ++ rest) = some (a, rest))
    (rest : Bytes) : Reader.opt r (eOpt e v ++ rest) = some (v, rest) := by
  cases v with
  | none => rfl
  | some a =>
    have hn : (1#8 : Byte).toNat = 1 := rfl
    simp only [Reader.opt, eOpt, List.cons_append, reader_bind, n1_cons, Option.bind_some, hn]
    rw [if_neg (by decide), if_pos trivial]
    simp only [reader_bind, h a rfl, Option.bind_some, reader_pure]

/-- Fields in a row are read back one by one. -/
theorem times_flatten {α : Type} {r : Reader α} {e : α → Bytes} (l : List α) (h : ∀ a ∈ l, ∀ rest, r (e a ++ rest) = some (a, rest))
    (rest : Bytes) : Reader.times r l.length ((l.map e).flatten ++ rest) = some (l, rest) := by
  induction l with
  | nil => rfl
  | cons a l ih =>
    simp only [List.length_cons, Reader.times, List.map_cons, List.flatten_cons, List.append_assoc, reader_bind, h a (by simp),
      Option.bind_some, ih fun b hb => h b (by simp [hb]), reader_pure]

/-- A list of at most 255 entries is read back. -/
theorem list_eList {α : Type} {r : Reader α} {e : α → Bytes} (l : List α) (hl : l.length ≤ 255)
    (h : ∀ a ∈ l, ∀ rest, r (e a ++ rest) = some (a, rest)) (rest : Bytes) : Reader.list r (eList e l ++ rest) = some (l, rest) := by
  have hn : (eCount l.length).toNat = l.length := by
    simp only [eCount, if_pos hl, toNat_byteOf]
    omega
  simp only [Reader.list, eList, List.cons_append, reader_bind, n1_cons, Option.bind_some, hn]
  exact times_flatten l h rest

/-- A line as an Add offers it is read back. -/
theorem rLineReq_eLineReq {l : LineReq} (h : l.fits = true) (hm : l.mods.length ≤ 255) (rest : Bytes) :
    rLineReq (eLineReq l ++ rest) = some (l, rest) := by
  simp only [LineReq.fits, fits1, fits2, Bool.and_eq_true, decide_eq_true_eq, List.all_eq_true] at h
  obtain ⟨⟨⟨⟨⟨⟨h1, h2⟩, h3⟩, h4⟩, h5⟩, h6⟩, h7⟩ := h
  simp only [rLineReq, eLineReq, List.append_assoc, reader_bind, n2_e2 h1, n2_e2 h2, n1_e1 h3, n1_e1 h4, n1_e1 h5, n1_e1 h6,
    list_eList l.mods hm fun m hm => n2_e2 (h7 m hm), Option.bind_some, reader_pure]

theorem rSplitEntry_cons {e : SplitEntry} (h : e.line < 256) (rest : Bytes) :
    rSplitEntry (e1 e.line ++ [e.sharers] ++ rest) = some (e, rest) := by
  simp only [rSplitEntry, List.append_assoc, reader_bind, n1_e1 h, List.cons_append, List.nil_append, byte_cons, Option.bind_some,
    reader_pure]

/-- Configure's parameters are read back. -/
theorem rConfig_eConfigReq {q : ConfigReq} (h : q.fits = true) (rest : Bytes) : rConfig (eConfigReq q ++ rest) = some (q, rest) := by
  have o1 : ∀ v : Option Nat, fitsOpt fits1 v = true → ∀ rest, Reader.opt Reader.n1 (eOpt e1 v ++ rest) = some (v, rest) := by
    intro v hv rest
    refine opt_eOpt v (fun a ha rest => n1_e1 ?_ rest) rest
    simpa [fitsOpt, ha, fits1] using hv
  have o2 : ∀ v : Option Nat, fitsOpt fits2 v = true → ∀ rest, Reader.opt Reader.n2 (eOpt e2 v ++ rest) = some (v, rest) := by
    intro v hv rest
    refine opt_eOpt v (fun a ha rest => n2_e2 ?_ rest) rest
    simpa [fitsOpt, ha, fits2] using hv
  simp only [ConfigReq.fits, Bool.and_eq_true] at h
  obtain ⟨⟨⟨⟨⟨⟨⟨⟨⟨⟨⟨⟨⟨⟨c0, c1⟩, c2⟩, c3⟩, c4⟩, c5⟩, c6⟩, c7⟩, c8⟩, c9⟩, c10⟩, c11⟩, c12⟩, c13⟩, c14⟩ := h
  have w2 : ∀ n, fits2 n = true → n < 65536 := fun n h => by simpa [fits2] using h
  have w1 : ∀ n, fits1 n = true → n < 256 := fun n h => by simpa [fits1] using h
  simp only [rConfig, eConfigReq, List.append_assoc, List.cons_append, List.nil_append]
  exact
    (reader_step (byte_cons _ _)).trans <| (reader_step (byte_cons _ _)).trans <| (reader_step (n2_e2 (w2 _ c0) _)).trans <|
    (reader_step (n2_e2 (w2 _ c1) _)).trans <| (reader_step (n2_e2 (w2 _ c2) _)).trans <| (reader_step (n2_e2 (w2 _ c3) _)).trans <|
    (reader_step (n1_e1 (w1 _ c4) _)).trans <| (reader_step (o2 _ c5 _)).trans <| (reader_step (o1 _ c6 _)).trans <|
    (reader_step (o2 _ c7 _)).trans <| (reader_step (o1 _ c8 _)).trans <| (reader_step (o1 _ c9 _)).trans <|
    (reader_step (o1 _ c10 _)).trans <| (reader_step (o1 _ c11 _)).trans <| (reader_step (o2 _ c12 _)).trans <|
    (reader_step (o2 _ c13 _)).trans <| (reader_step (o2 _ c14 _)).trans <|
    rfl

/-- A whole command's code and parameters are found where its code is not 0 and its parameters fit their length byte. -/
theorem firstCommand_bytes {code : Nat} {params : Bytes} (h1 : 1 ≤ code) (h2 : code < 256) (h3 : params.length < 256) :
    firstCommand (e1 code ++ e1 params.length ++ params) = some (code, params) := by
  have hne : byteOf code ≠ 0#8 := by
    intro h
    have := congrArg BitVec.toNat h
    rw [toNat_byteOf] at this
    simp at this
    omega
  simp only [e1, List.cons_append, List.nil_append, firstCommand, if_neg hne, toNat_byteOf, Nat.mod_eq_of_lt h2, Nat.mod_eq_of_lt h3,
    Nat.le_refl, if_true, List.take_length]

/-! ## Bits -/

theorem length_bitsOf (w n : Nat) : (bitsOf w n).length = w := by simp [bitsOf]

/-- One more bit at the front. -/
theorem bitsOf_succ (w n : Nat) : bitsOf (w + 1) n = n.testBit w :: bitsOf w n := by
  simp only [bitsOf, List.range_succ_eq_map, List.map_cons, List.map_map, Nat.add_sub_cancel, Nat.sub_zero]
  congr 1
  apply List.map_congr_left
  intro i _
  simp only [Function.comp]
  congr 1
  omega

theorem natOf_append (a b : List Bool) : natOf (a ++ b) = natOf a * 2 ^ b.length + natOf b := by
  have step : ∀ (l : List Bool) (n : Nat), l.foldl (fun a b => 2 * a + cond b 1 0) n = n * 2 ^ l.length + natOf l := by
    intro l
    induction l with
    | nil => simp [natOf]
    | cons x l ih =>
      intro n
      have h0 := ih (2 * 0 + cond x 1 0)
      have h1 := ih (2 * n + cond x 1 0)
      simp only [natOf, List.foldl_cons, List.length_cons] at h0 h1 ⊢
      rw [h1, h0, Nat.pow_succ]
      simp only [Nat.add_mul, Nat.mul_zero, Nat.zero_add]
      have : 2 * n * 2 ^ l.length = n * (2 ^ l.length * 2) := by
        rw [Nat.mul_comm 2 n, Nat.mul_assoc, Nat.mul_comm 2]
      omega
  rw [natOf, List.foldl_append, step b]
  rfl

/-- The bits of a number give the number again. -/
theorem natOf_bitsOf {w n : Nat} (h : n < 2 ^ w) : natOf (bitsOf w n) = n := by
  have : ∀ w n : Nat, natOf (bitsOf w n) = n % 2 ^ w := by
    intro w
    induction w with
    | zero => intro n; simp [bitsOf, natOf, Nat.mod_one]
    | succ w ih =>
      intro n
      have : bitsOf (w + 1) n = [n.testBit w] ++ bitsOf w n := bitsOf_succ w n
      rw [this, natOf_append, ih, length_bitsOf, Nat.mod_pow_succ, Nat.testBit_eq_decide_div_mod_eq]
      have hb : n / 2 ^ w % 2 = 0 ∨ n / 2 ^ w % 2 = 1 := by omega
      rcases hb with hb | hb <;> simp [natOf, hb, Nat.mul_comm, Nat.add_comm]
  rw [this, Nat.mod_eq_of_lt h]

theorem length_bitsOfBytes (l : Bytes) : (bitsOfBytes l).length = 8 * l.length := by
  induction l with
  | nil => rfl
  | cons b l ih =>
    have : bitsOfBytes (b :: l) = bitsOf 8 b.toNat ++ bitsOfBytes l := rfl
    rw [this, List.length_append, length_bitsOf, ih, List.length_cons]
    omega

/-- Bytes written as bits are read back, whatever follows. -/
theorem bytesOf_bitsOfBytes (l : Bytes) (rest : List Bool) : bytesOf l.length (bitsOfBytes l ++ rest) = l := by
  induction l with
  | nil => rfl
  | cons b l ih =>
    have h : bitsOfBytes (b :: l) ++ rest = bitsOf 8 b.toNat ++ (bitsOfBytes l ++ rest) := by
      simp [bitsOfBytes, List.append_assoc]
    rw [h, List.length_cons, bytesOf]
    have hl : (bitsOf 8 b.toNat).length = 8 := length_bitsOf _ _
    rw [List.take_left' hl, List.drop_left' hl, ih, natOf_bitsOf b.isLt, byteOf_toNat]

theorem crc16_lt (bs : List Bool) : crc16 bs < 65536 := (bs.foldl crcStep 0xFFFF#16).isLt

end Sys2Proof.Machine
end

