-- ==== Sys2Proof/Laws/Lanes.lean ====
section
/-! SUPPORT. The lane front end: what a receiver's move, a tag and the receive queue do. -/

namespace Sys2Proof.Machine

variable (s : State)

/-! ## Receivers -/

@[simp] theorem setRx_rx_same (l : Link) (r : Receiver) (lane : Lane) : (l.setRx r lane).rx lane = r := by cases lane <;> rfl

@[simp] theorem setRx_rx_other (l : Link) (r : Receiver) (lane : Lane) : (l.setRx r lane).rx lane.other = l.rx lane.other := by
  cases lane <;> rfl

@[simp] theorem setRx_disagree (l : Link) (r : Receiver) (lane : Lane) : (l.setRx r lane).disagree = l.disagree := by cases lane <;> rfl

@[simp] theorem setRx_overrun (l : Link) (r : Receiver) (lane : Lane) : (l.setRx r lane).overrun = l.overrun := by cases lane <;> rfl

@[simp] theorem modRx_rx_same (lane : Lane) (f : Receiver → Receiver) : (modRx lane f s).link.rx lane = f (s.link.rx lane) := by
  simp [modRx]

@[simp] theorem modRx_rx_other (lane : Lane) (f : Receiver → Receiver) :
    (modRx lane f s).link.rx lane.other = s.link.rx lane.other := by
  simp [modRx]

/-- The watch on the lanes changes the station and may post; outside ONLINE and ISOLATED it does nothing. -/
theorem watchLanes_quiet (h1 : s.station.state ≠ .online) (h2 : s.station.state ≠ .isolated) : watchLanes s = s := by
  unfold watchLanes
  split <;> simp_all

@[simp] theorem watchLanes_cfg : (watchLanes s).cfg = s.cfg := by
  unfold watchLanes
  split <;> (try split) <;> rfl

@[simp] theorem watchLanes_tabs : (watchLanes s).tabs = s.tabs := by
  unfold watchLanes
  split <;> (try split) <;> rfl

@[simp] theorem watchLanes_engine : (watchLanes s).engine = s.engine := by
  unfold watchLanes
  split <;> (try split) <;> rfl

@[simp] theorem watchLanes_claims : (watchLanes s).claims = s.claims := by
  unfold watchLanes
  split <;> (try split) <;> rfl

@[simp] theorem watchLanes_takings : (watchLanes s).takings = s.takings := by
  unfold watchLanes
  split <;> (try split) <;> rfl

@[simp] theorem watchLanes_dir : (watchLanes s).dir = s.dir := by
  unfold watchLanes
  split <;> (try split) <;> rfl

@[simp] theorem watchLanes_beacon : (watchLanes s).beacon = s.beacon := by
  unfold watchLanes
  split <;> (try split) <;> rfl

@[simp] theorem watchLanes_router : (watchLanes s).router = s.router := by
  unfold watchLanes
  split <;> (try split) <;> rfl

@[simp] theorem watchLanes_kitchen : (watchLanes s).kitchen = s.kitchen := by
  unfold watchLanes
  split <;> (try split) <;> rfl

@[simp] theorem watchLanes_portions : (watchLanes s).portions = s.portions := by
  unfold watchLanes
  split <;> (try split) <;> rfl

@[simp] theorem watchLanes_stock : (watchLanes s).stock = s.stock := by
  unfold watchLanes
  split <;> (try split) <;> rfl

@[simp] theorem watchLanes_link : (watchLanes s).link = s.link := by
  unfold watchLanes
  split <;> (try split) <;> rfl

@[simp] theorem watchLanes_tx : (watchLanes s).tx = s.tx := by
  unfold watchLanes
  split <;> (try split) <;> rfl

@[simp] theorem watchLanes_rx : (watchLanes s).rx = s.rx := by
  unfold watchLanes
  split <;> (try split) <;> rfl

@[simp] theorem watchLanes_exch : (watchLanes s).exch = s.exch := by
  unfold watchLanes
  split <;> (try split) <;> rfl

@[simp] theorem watchLanes_pending : (watchLanes s).pending = s.pending := by
  unfold watchLanes
  split <;> (try split) <;> rfl

@[simp] theorem moveLane_cfg (lane : Lane) (st : RxState) : (moveLane lane st s).cfg = s.cfg := by
  simp only [moveLane]
  split <;> simp

@[simp] theorem moveLane_tabs (lane : Lane) (st : RxState) : (moveLane lane st s).tabs = s.tabs := by
  simp only [moveLane]
  split <;> simp

@[simp] theorem moveLane_engine (lane : Lane) (st : RxState) : (moveLane lane st s).engine = s.engine := by
  simp only [moveLane]
  split <;> simp

@[simp] theorem moveLane_claims (lane : Lane) (st : RxState) : (moveLane lane st s).claims = s.claims := by
  simp only [moveLane]
  split <;> simp

@[simp] theorem moveLane_takings (lane : Lane) (st : RxState) : (moveLane lane st s).takings = s.takings := by
  simp only [moveLane]
  split <;> simp

@[simp] theorem moveLane_dir (lane : Lane) (st : RxState) : (moveLane lane st s).dir = s.dir := by
  simp only [moveLane]
  split <;> simp

@[simp] theorem moveLane_beacon (lane : Lane) (st : RxState) : (moveLane lane st s).beacon = s.beacon := by
  simp only [moveLane]
  split <;> simp

@[simp] theorem moveLane_router (lane : Lane) (st : RxState) : (moveLane lane st s).router = s.router := by
  simp only [moveLane]
  split <;> simp

@[simp] theorem moveLane_kitchen (lane : Lane) (st : RxState) : (moveLane lane st s).kitchen = s.kitchen := by
  simp only [moveLane]
  split <;> simp

@[simp] theorem moveLane_portions (lane : Lane) (st : RxState) : (moveLane lane st s).portions = s.portions := by
  simp only [moveLane]
  split <;> simp

@[simp] theorem moveLane_stock (lane : Lane) (st : RxState) : (moveLane lane st s).stock = s.stock := by
  simp only [moveLane]
  split <;> simp

@[simp] theorem moveLane_tx (lane : Lane) (st : RxState) : (moveLane lane st s).tx = s.tx := by
  simp only [moveLane]
  split <;> simp

@[simp] theorem moveLane_rx (lane : Lane) (st : RxState) : (moveLane lane st s).rx = s.rx := by
  simp only [moveLane]
  split <;> simp

@[simp] theorem moveLane_exch (lane : Lane) (st : RxState) : (moveLane lane st s).exch = s.exch := by
  simp only [moveLane]
  split <;> simp

@[simp] theorem moveLane_pending (lane : Lane) (st : RxState) : (moveLane lane st s).pending = s.pending := by
  simp only [moveLane]
  split <;> simp

/-- A receiver's move changes that receiver alone, and only where the state differs (R147, R148). -/
@[simp] theorem moveLane_link (lane : Lane) (st : RxState) :
    (moveLane lane st s).link =
      if (s.link.rx lane).state = st then s.link else s.link.setRx ((s.link.rx lane).enter st) lane := by
  simp only [moveLane]
  split <;> simp_all

/-- Outside ONLINE and ISOLATED a receiver's move leaves the station. -/
theorem moveLane_station_quiet (lane : Lane) (st : RxState) (h1 : s.station.state ≠ .online) (h2 : s.station.state ≠ .isolated) :
    (moveLane lane st s).station = s.station := by
  simp only [moveLane]
  split
  · rfl
  · rw [watchLanes_quiet] <;> simp [h1, h2]

/-- A receiver's move posts LANE_STATE, and the station is watched (R148, R140). -/
theorem moveLane_moves (lane : Lane) (st : RxState) (h : (s.link.rx lane).state ≠ st) :
    moveLane lane st s =
      watchLanes (post (.laneState lane (s.link.rx lane).state st)
        { s with link := s.link.setRx ((s.link.rx lane).enter st) lane }) := by
  simp [moveLane, h]

/-- A tag that a receiver has already seen changes nothing (R149). -/
theorem seeTag_same (lane : Lane) (tag : Option Lane) (h : (s.link.rx lane).tagSeen = tag) : seeTag lane tag s = s := by
  have he : modRx lane (fun r => { r with tagSeen := tag }) s = s := by
    subst h
    cases lane <;> simp [modRx, Link.setRx, Link.rx]
  simp [seeTag, he]

@[simp] theorem seeTag_station (lane : Lane) (tag : Option Lane) : (seeTag lane tag s).station = s.station := by
  simp only [seeTag]
  split <;> rfl

@[simp] theorem seeTag_cfg (lane : Lane) (tag : Option Lane) : (seeTag lane tag s).cfg = s.cfg := by
  simp only [seeTag]
  split <;> rfl

@[simp] theorem seeTag_tabs (lane : Lane) (tag : Option Lane) : (seeTag lane tag s).tabs = s.tabs := by
  simp only [seeTag]
  split <;> rfl

@[simp] theorem seeTag_engine (lane : Lane) (tag : Option Lane) : (seeTag lane tag s).engine = s.engine := by
  simp only [seeTag]
  split <;> rfl

@[simp] theorem seeTag_claims (lane : Lane) (tag : Option Lane) : (seeTag lane tag s).claims = s.claims := by
  simp only [seeTag]
  split <;> rfl

@[simp] theorem seeTag_takings (lane : Lane) (tag : Option Lane) : (seeTag lane tag s).takings = s.takings := by
  simp only [seeTag]
  split <;> rfl

@[simp] theorem seeTag_dir (lane : Lane) (tag : Option Lane) : (seeTag lane tag s).dir = s.dir := by
  simp only [seeTag]
  split <;> rfl

@[simp] theorem seeTag_beacon (lane : Lane) (tag : Option Lane) : (seeTag lane tag s).beacon = s.beacon := by
  simp only [seeTag]
  split <;> rfl

@[simp] theorem seeTag_router (lane : Lane) (tag : Option Lane) : (seeTag lane tag s).router = s.router := by
  simp only [seeTag]
  split <;> rfl

@[simp] theorem seeTag_kitchen (lane : Lane) (tag : Option Lane) : (seeTag lane tag s).kitchen = s.kitchen := by
  simp only [seeTag]
  split <;> rfl

@[simp] theorem seeTag_portions (lane : Lane) (tag : Option Lane) : (seeTag lane tag s).portions = s.portions := by
  simp only [seeTag]
  split <;> rfl

@[simp] theorem seeTag_stock (lane : Lane) (tag : Option Lane) : (seeTag lane tag s).stock = s.stock := by
  simp only [seeTag]
  split <;> rfl

@[simp] theorem seeTag_tx (lane : Lane) (tag : Option Lane) : (seeTag lane tag s).tx = s.tx := by
  simp only [seeTag]
  split <;> rfl

@[simp] theorem seeTag_rx (lane : Lane) (tag : Option Lane) : (seeTag lane tag s).rx = s.rx := by
  simp only [seeTag]
  split <;> rfl

@[simp] theorem seeTag_exch (lane : Lane) (tag : Option Lane) : (seeTag lane tag s).exch = s.exch := by
  simp only [seeTag]
  split <;> rfl

@[simp] theorem seeTag_pending (lane : Lane) (tag : Option Lane) : (seeTag lane tag s).pending = s.pending := by
  simp only [seeTag]
  split <;> rfl

@[simp] theorem seeTag_link (lane : Lane) (tag : Option Lane) :
    (seeTag lane tag s).link = s.link.setRx { s.link.rx lane with tagSeen := tag } lane := by
  simp only [seeTag]
  split <;> rfl

/-! ## The receive queue -/

/-- A queue whose head is fit to be delivered settles as it is. -/
theorem settleRx_deliverable {f : Frame} {rest : List Frame} (h : s.rx = f :: rest) (hd : deliverable f = true) : settleRx s = s := by
  simp only [settleRx, h, List.dropWhile_cons, hd, Bool.not_true]
  simp [← h]

@[simp] theorem settleRx_empty (h : s.rx = []) : settleRx s = s := by
  simp only [settleRx, h, List.dropWhile_nil]
  rw [← h]

/-- A frame offered to the receive queue is queued with room, and undeliverable frames ahead of it leave; with none it is dropped and
RX_OVERRUN set (R152, R179). -/
theorem enqueueRx_spec (f : Frame) :
    (s.rx.length < Config.rxCapacity → enqueueRx f s = settleRx { s with rx := s.rx ++ [f] }) ∧
    (Config.rxCapacity ≤ s.rx.length → enqueueRx f s = { s with link := { s.link with overrun := true } }) := by
  constructor
  · intro h
    simp [enqueueRx, h]
  · intro h
    simp [enqueueRx, Nat.not_lt.mpr h]

end Sys2Proof.Machine
end

