-- ==== Sys2Proof/Laws/PerInstr.lean ====
section
/-! SUPPORT. The per-command family `CodeFits`: one lemma per constructor of Instr. -/

namespace Sys2Proof.Laws.CodeFits

open Sys2Proof.Machine

/-- A row is a local command, with a command code 1..44 and a row of the catalogue of R178, or an event, with neither and with no
parameter bytes. -/
def Statement (i : Instr) : Prop :=
  (1 ≤ commandCode i ∧ commandCode i ≤ 44 ∧ (catalogue i).isSome = true) ∨
    (commandCode i = 0 ∧ catalogue i = none ∧ commandParams i = [])

theorem resetAsserted : Statement (.resetAsserted) := .inr ⟨rfl, rfl, rfl⟩
theorem resetEnd (straps : Nat) : Statement (.resetEnd straps) := .inr ⟨rfl, rfl, rfl⟩
theorem periodPinEdge : Statement (.periodPinEdge) := .inr ⟨rfl, rfl, rfl⟩
theorem periodLockoutExpiry : Statement (.periodLockoutExpiry) := .inr ⟨rfl, rfl, rfl⟩
theorem portTransaction (pdi : Bytes) : Statement (.portTransaction pdi) := .inr ⟨rfl, rfl, rfl⟩
theorem status : Statement (.status) := .inl ⟨show 1 ≤ 1 by decide, show 1 ≤ 44 by decide, rfl⟩
theorem nextNotice : Statement (.nextNotice) := .inl ⟨show 1 ≤ 2 by decide, show 2 ≤ 44 by decide, rfl⟩
theorem setAttention (mask : Byte) : Statement (.setAttention mask) := .inl ⟨show 1 ≤ 3 by decide, show 3 ≤ 44 by decide, rfl⟩
theorem readPage (offset : Nat) (length : Nat) : Statement (.readPage offset length) := .inl ⟨show 1 ≤ 4 by decide, show 4 ≤ 44 by decide, rfl⟩
theorem configure (req : ConfigReq) : Statement (.configure req) := .inl ⟨show 1 ≤ 5 by decide, show 5 ≤ 44 by decide, rfl⟩
theorem loopbackOn : Statement (.loopbackOn) := .inl ⟨show 1 ≤ 6 by decide, show 6 ≤ 44 by decide, rfl⟩
theorem loopbackOff : Statement (.loopbackOff) := .inl ⟨show 1 ≤ 6 by decide, show 6 ≤ 44 by decide, rfl⟩
theorem join : Statement (.join) := .inl ⟨show 1 ≤ 7 by decide, show 7 ≤ 44 by decide, rfl⟩
theorem laneRestart (lane : Nat) : Statement (.laneRestart lane) := .inl ⟨show 1 ≤ 8 by decide, show 8 ≤ 44 by decide, rfl⟩
theorem test (dest : Nat) (payload : Bytes) : Statement (.test dest payload) := .inl ⟨show 1 ≤ 9 by decide, show 9 ≤ 44 by decide, rfl⟩
theorem openTab (label : Bytes) : Statement (.openTab label) := .inl ⟨show 1 ≤ 10 by decide, show 10 ≤ 44 by decide, rfl⟩
theorem add (home : Nat) (tab : Nat) (lines : List LineReq) (send : Nat) : Statement (.add home tab lines send) := .inl ⟨show 1 ≤ 11 by decide, show 11 ≤ 44 by decide, rfl⟩
theorem send (tab : Nat) : Statement (.send tab) := .inl ⟨show 1 ≤ 12 by decide, show 12 ≤ 44 by decide, rfl⟩
theorem lineVoid (home : Nat) (tab : Nat) (line : Nat) : Statement (.lineVoid home tab line) := .inl ⟨show 1 ≤ 13 by decide, show 13 ≤ 44 by decide, rfl⟩
theorem tabVoid (tab : Nat) : Statement (.tabVoid tab) := .inl ⟨show 1 ≤ 14 by decide, show 14 ≤ 44 by decide, rfl⟩
theorem release (tab : Nat) : Statement (.release tab) := .inl ⟨show 1 ≤ 15 by decide, show 15 ≤ 44 by decide, rfl⟩
theorem query (home : Nat) (tab : Nat) : Statement (.query home tab) := .inl ⟨show 1 ≤ 16 by decide, show 16 ≤ 44 by decide, rfl⟩
theorem readTab (tab : Nat) : Statement (.readTab tab) := .inl ⟨show 1 ≤ 35 by decide, show 35 ≤ 44 by decide, rfl⟩
theorem split (home : Nat) (tab : Nat) (count : Nat) (entries : List SplitEntry) : Statement (.split home tab count entries) := .inl ⟨show 1 ≤ 17 by decide, show 17 ≤ 44 by decide, rfl⟩
theorem withdraw (home : Nat) (tab : Nat) : Statement (.withdraw home tab) := .inl ⟨show 1 ≤ 18 by decide, show 18 ≤ 44 by decide, rfl⟩
theorem claim (home : Nat) (tab : Nat) (share : Nat) : Statement (.claim home tab share) := .inl ⟨show 1 ≤ 19 by decide, show 19 ≤ 44 by decide, rfl⟩
theorem settle (home : Nat) (tab : Nat) (share : Nat) (tender : Nat) : Statement (.settle home tab share tender) := .inl ⟨show 1 ≤ 20 by decide, show 20 ≤ 44 by decide, rfl⟩
theorem releaseShare (home : Nat) (tab : Nat) (share : Nat) : Statement (.releaseShare home tab share) := .inl ⟨show 1 ≤ 21 by decide, show 21 ≤ 44 by decide, rfl⟩
theorem readClaims : Statement (.readClaims) := .inl ⟨show 1 ≤ 36 by decide, show 36 ≤ 44 by decide, rfl⟩
theorem markPeriod : Statement (.markPeriod) := .inl ⟨show 1 ≤ 25 by decide, show 25 ≤ 44 by decide, rfl⟩
theorem readCapture (slot : Nat) : Statement (.readCapture slot) := .inl ⟨show 1 ≤ 40 by decide, show 40 ≤ 44 by decide, rfl⟩
theorem releaseCapture (slot : Nat) : Statement (.releaseCapture slot) := .inl ⟨show 1 ≤ 41 by decide, show 41 ≤ 44 by decide, rfl⟩
theorem readPeers : Statement (.readPeers) := .inl ⟨show 1 ≤ 39 by decide, show 39 ≤ 44 by decide, rfl⟩
theorem retry (ticket : Nat) : Statement (.retry ticket) := .inl ⟨show 1 ≤ 22 by decide, show 22 ≤ 44 by decide, rfl⟩
theorem refresh (ticket : Nat) : Statement (.refresh ticket) := .inl ⟨show 1 ≤ 23 by decide, show 23 ≤ 44 by decide, rfl⟩
theorem abandon (ticket : Nat) : Statement (.abandon ticket) := .inl ⟨show 1 ≤ 24 by decide, show 24 ≤ 44 by decide, rfl⟩
theorem readTickets : Statement (.readTickets) := .inl ⟨show 1 ≤ 37 by decide, show 37 ≤ 44 by decide, rfl⟩
theorem fire (ref : Nat) : Statement (.fire ref) := .inl ⟨show 1 ≤ 26 by decide, show 26 ≤ 44 by decide, rfl⟩
theorem ready (ref : Nat) : Statement (.ready ref) := .inl ⟨show 1 ≤ 27 by decide, show 27 ≤ 44 by decide, rfl⟩
theorem collect (ref : Nat) : Statement (.collect ref) := .inl ⟨show 1 ≤ 28 by decide, show 28 ≤ 44 by decide, rfl⟩
theorem kitchenVoid (ref : Nat) (lines : List Nat) : Statement (.kitchenVoid ref lines) := .inl ⟨show 1 ≤ 29 by decide, show 29 ≤ 44 by decide, rfl⟩
theorem readQueue : Statement (.readQueue) := .inl ⟨show 1 ≤ 42 by decide, show 42 ≤ 44 by decide, rfl⟩
theorem nextNew : Statement (.nextNew) := .inl ⟨show 1 ≤ 43 by decide, show 43 ≤ 44 by decide, rfl⟩
theorem load (item : Nat) (count : Nat) (low : Nat) : Statement (.load item count low) := .inl ⟨show 1 ≤ 30 by decide, show 30 ≤ 44 by decide, rfl⟩
theorem refill (item : Nat) (count : Nat) : Statement (.refill item count) := .inl ⟨show 1 ≤ 31 by decide, show 31 ≤ 44 by decide, rfl⟩
theorem reloadToPreset (item : Nat) : Statement (.reloadToPreset item) := .inl ⟨show 1 ≤ 32 by decide, show 32 ≤ 44 by decide, rfl⟩
theorem recount (item : Nat) (counted : Nat) : Statement (.recount item counted) := .inl ⟨show 1 ≤ 33 by decide, show 33 ≤ 44 by decide, rfl⟩
theorem remove (item : Nat) : Statement (.remove item) := .inl ⟨show 1 ≤ 34 by decide, show 34 ≤ 44 by decide, rfl⟩
theorem readPortions (item : Option Nat) : Statement (.readPortions item) := .inl ⟨show 1 ≤ 44 by decide, show 44 ≤ 44 by decide, rfl⟩
theorem readStockView : Statement (.readStockView) := .inl ⟨show 1 ≤ 38 by decide, show 38 ≤ 44 by decide, rfl⟩
theorem laneActivity (lane : Lane) : Statement (.laneActivity lane) := .inr ⟨rfl, rfl, rfl⟩
theorem laneFrameStart (lane : Lane) : Statement (.laneFrameStart lane) := .inr ⟨rfl, rfl, rfl⟩
theorem laneFrameEnd (lane : Lane) (bits : List Bool) : Statement (.laneFrameEnd lane bits) := .inr ⟨rfl, rfl, rfl⟩
theorem laneSilenceExpiry (lane : Lane) : Statement (.laneSilenceExpiry lane) := .inr ⟨rfl, rfl, rfl⟩
theorem laneStuck (lane : Lane) : Statement (.laneStuck lane) := .inr ⟨rfl, rfl, rfl⟩
theorem laneRecessive (lane : Lane) : Statement (.laneRecessive lane) := .inr ⟨rfl, rfl, rfl⟩
theorem twinWindowExpiry (lane : Lane) : Statement (.twinWindowExpiry lane) := .inr ⟨rfl, rfl, rfl⟩
theorem beaconFrame : Statement (.beaconFrame) := .inr ⟨rfl, rfl, rfl⟩
theorem periodFrame : Statement (.periodFrame) := .inr ⟨rfl, rfl, rfl⟩
theorem stockFrame : Statement (.stockFrame) := .inr ⟨rfl, rfl, rfl⟩
theorem addFrame : Statement (.addFrame) := .inr ⟨rfl, rfl, rfl⟩
theorem lineVoidFrame : Statement (.lineVoidFrame) := .inr ⟨rfl, rfl, rfl⟩
theorem tabQueryFrame : Statement (.tabQueryFrame) := .inr ⟨rfl, rfl, rfl⟩
theorem splitFrame : Statement (.splitFrame) := .inr ⟨rfl, rfl, rfl⟩
theorem withdrawFrame : Statement (.withdrawFrame) := .inr ⟨rfl, rfl, rfl⟩
theorem claimFrame : Statement (.claimFrame) := .inr ⟨rfl, rfl, rfl⟩
theorem settleFrame : Statement (.settleFrame) := .inr ⟨rfl, rfl, rfl⟩
theorem releaseFrame : Statement (.releaseFrame) := .inr ⟨rfl, rfl, rfl⟩
theorem claimEndFrame : Statement (.claimEndFrame) := .inr ⟨rfl, rfl, rfl⟩
theorem ticketFrame : Statement (.ticketFrame) := .inr ⟨rfl, rfl, rfl⟩
theorem ticketVoidFrame : Statement (.ticketVoidFrame) := .inr ⟨rfl, rfl, rfl⟩
theorem ticketQueryFrame : Statement (.ticketQueryFrame) := .inr ⟨rfl, rfl, rfl⟩
theorem ticketStateFrame : Statement (.ticketStateFrame) := .inr ⟨rfl, rfl, rfl⟩
theorem testFrame : Statement (.testFrame) := .inr ⟨rfl, rfl, rfl⟩
theorem answerFrame : Statement (.answerFrame) := .inr ⟨rfl, rfl, rfl⟩
theorem exchangeTimeout (tag : Nat) : Statement (.exchangeTimeout tag) := .inr ⟨rfl, rfl, rfl⟩
theorem splitCompletion : Statement (.splitCompletion) := .inr ⟨rfl, rfl, rfl⟩
theorem holdTimerExpiry (tab : Nat) (share : Nat) : Statement (.holdTimerExpiry tab share) := .inr ⟨rfl, rfl, rfl⟩
theorem localExpiry (home : Nat) (tab : Nat) (share : Nat) : Statement (.localExpiry home tab share) := .inr ⟨rfl, rfl, rfl⟩
theorem silenceTimerExpiry (station : Nat) : Statement (.silenceTimerExpiry station) := .inr ⟨rfl, rfl, rfl⟩
theorem intervalTimerExpiry : Statement (.intervalTimerExpiry) := .inr ⟨rfl, rfl, rfl⟩
theorem holdOffExpiry : Statement (.holdOffExpiry) := .inr ⟨rfl, rfl, rfl⟩
theorem joinWindowExpiry : Statement (.joinWindowExpiry) := .inr ⟨rfl, rfl, rfl⟩
theorem isolationTimerExpiry : Statement (.isolationTimerExpiry) := .inr ⟨rfl, rfl, rfl⟩
theorem warnTimerExpiry (ref : Nat) : Statement (.warnTimerExpiry ref) := .inr ⟨rfl, rfl, rfl⟩
theorem lateTimerExpiry (ref : Nat) : Statement (.lateTimerExpiry ref) := .inr ⟨rfl, rfl, rfl⟩
theorem collectTimerExpiry (ref : Nat) : Statement (.collectTimerExpiry ref) := .inr ⟨rfl, rfl, rfl⟩
theorem transmitStart : Statement (.transmitStart) := .inr ⟨rfl, rfl, rfl⟩
theorem arbitrationLost : Statement (.arbitrationLost) := .inr ⟨rfl, rfl, rfl⟩
theorem transmitFault : Statement (.transmitFault) := .inr ⟨rfl, rfl, rfl⟩
theorem transmitComplete : Statement (.transmitComplete) := .inr ⟨rfl, rfl, rfl⟩

end Sys2Proof.Laws.CodeFits
end

