-- ==== Sys2Proof/Tests/Slice0.lean ====
section
/-! SUPPORT. Small tests: what WellFormed refuses, values worked by hand from the rules, and for every statement with hypotheses a
state and operands that meet them. -/

namespace Sys2Proof.Tests

open Sys2Proof.Machine

-- One theorem at a time: a test that the kernel evaluates would else hold a thread until every theorem before it is checked.
set_option Elab.async false

/-! ## Well-formedness -/

def lineReq : LineReq := ⟨101, 1000, 1, 0, 0, 0, []⟩

def configReq : ConfigReq := ⟨3#8, 1#8, ⟨800, 0, 0, 0⟩, 5, none, none, none, none, none, none, none, none, none, none⟩

theorem test_wellFormed_at_limits :
    [Instr.resetEnd 127, .readPage 65535 255, .laneRestart 255, .test 255 (List.replicate 253 0#8), .openTab (List.replicate 254 65#8),
      .add 255 65535 [⟨65535, 65535, 255, 255, 255, 255, List.replicate 120 65535⟩] 255, .kitchenVoid 255 (List.replicate 253 255),
      .split 255 65535 255 (List.replicate 125 ⟨255, 255#8⟩), .readPortions (some 65535), .configure configReq].all (·.wellFormed) = true := by
  decide +kernel

theorem test_wellFormed_refuses_resets_and_lengths :
    [Instr.resetEnd 128, .readPage 65536 0, .readPage 0 256, .laneRestart 256, .test 256 [], .test 1 (List.replicate 254 0#8),
      .openTab (List.replicate 255 65#8), .add 256 1 [] 0, .add 1 65536 [] 0, .add 1 1 [] 256,
      .add 1 1 [{ lineReq with mods := List.replicate 121 0 }] 0, .kitchenVoid 256 [], .kitchenVoid 1 [256],
      .kitchenVoid 1 (List.replicate 254 1)].all (!·.wellFormed) = true := by
  decide +kernel

theorem test_wellFormed_refuses_offered_lines :
    [{ lineReq with item := 65536 }, { lineReq with price := 65536 }, { lineReq with qty := 256 }, { lineReq with tax := 256 },
      { lineReq with prep := 256 }, { lineReq with rush := 256 }, { lineReq with mods := [65536] }].all
        (fun l => !(Instr.add 1 1 [l] 0).wellFormed) = true := by
  decide

theorem test_wellFormed_refuses_configurations :
    [{ configReq with rates := ⟨65536, 0, 0, 0⟩ }, { configReq with rates := ⟨0, 65536, 0, 0⟩ },
      { configReq with rates := ⟨0, 0, 65536, 0⟩ }, { configReq with rates := ⟨0, 0, 0, 65536⟩ }, { configReq with rounding := 256 },
      { configReq with interval := some 65536 }, { configReq with lockCount := some 256 }, { configReq with claimHold := some 65536 },
      { configReq with fireLimit := some 256 }, { configReq with autoFire := some 256 }, { configReq with holdMark := some 256 },
      { configReq with releaseMark := some 256 }, { configReq with warnTime := some 65536 }, { configReq with lateTime := some 65536 },
      { configReq with collectTimeout := some 65536 }].all (fun q => !(Instr.configure q).wellFormed) = true := by
  decide

theorem test_wellFormed_refuses_tab_commands :
    [Instr.send 65536, .lineVoid 256 1 1, .lineVoid 1 65536 1, .lineVoid 1 1 256, .tabVoid 65536, .release 65536, .query 256 1,
      .query 1 65536, .readTab 65536, .split 256 1 1 [], .split 1 65536 1 [], .split 1 1 256 [], .split 1 1 1 [⟨256, 1#8⟩],
      .split 1 1 1 (List.replicate 126 ⟨1, 1#8⟩), .withdraw 256 1, .withdraw 1 65536, .claim 256 1 1, .claim 1 65536 1, .claim 1 1 256,
      .settle 256 1 1 0, .settle 1 65536 1 0, .settle 1 1 256 0, .settle 1 1 1 256, .releaseShare 256 1 1, .releaseShare 1 65536 1,
      .releaseShare 1 1 256, .readCapture 256, .releaseCapture 256].all (!·.wellFormed) = true := by
  decide +kernel

theorem test_wellFormed_refuses_other_numbers :
    [Instr.retry 65536, .refresh 65536, .abandon 65536, .fire 256, .ready 256, .collect 256, .load 65536 0 0, .load 0 65536 0,
      .load 0 0 65536, .refill 65536 0, .refill 0 65536, .reloadToPreset 65536, .recount 65536 0, .recount 0 65536, .remove 65536,
      .readPortions (some 65536), .exchangeTimeout 256, .holdTimerExpiry 65536 1, .holdTimerExpiry 1 256, .localExpiry 256 1 1,
      .localExpiry 1 65536 1, .localExpiry 1 1 256, .silenceTimerExpiry 256, .warnTimerExpiry 256, .lateTimerExpiry 256,
      .collectTimerExpiry 256].all (!·.wellFormed) = true := by
  decide

/-! ## Values worked by hand from the rules -/

/-- Tender codes: CASH 0, CARD 1, VOUCHER 2 and no other in a Settle (R41, chapter Formats). -/
theorem test_tender_codes :
    [0, 1, 2, 3].map Tender.ofCode = [some .cash, some .card, some .voucher, none] := by decide

/-- R36 by hand: the remainder is half the increment, just below it, and none. -/
theorem test_cash_rounding :
    [tenderedAmount 10 .cash 1235, tenderedAmount 5 .cash 1782, tenderedAmount 5 .cash 1783, tenderedAmount 50 .cash 1725,
      tenderedAmount 50 .cash 1724, tenderedAmount 1 .cash 1729] = [1240, 1780, 1785, 1750, 1700, 1729] := by decide

/-- R6 and R30: a tax of exactly half a minor unit rounds up, one just below it down. -/
theorem test_class_tax_rounds_half_up : [classTax 100 50, classTax 100 49, classTax 2500 1000] = [1, 0, 250] := by decide

/-- R28: 1000 among shares 1, 2 and 4 leaves one unit over, which goes to the lowest number. -/
theorem test_line_division : [1, 2, 3, 4].map (allocation 1000 [1, 2, 4]) = [334, 333, 0, 333] := by decide

/-- R30: a tax of 10 over bases 1, 1 and 1 gives the unit left over to the lowest share. -/
theorem test_tax_division : taxAllocation 10 3 [1, 1, 1] = [4, 3, 3] := by decide

/-- The published check value of this generator and preset: the nine digits in ASCII give 29B1 (chapter Formats, Frame Check). -/
theorem test_frame_check :
    crc16 (bitsOfBytes [0x31#8, 0x32#8, 0x33#8, 0x34#8, 0x35#8, 0x36#8, 0x37#8, 0x38#8, 0x39#8]) = 0x29B1 := by decide +kernel

/-- Multi-byte numbers are sent most significant byte first; a negative difference in two's complement (chapter Formats). -/
theorem test_number_bytes : (e2 258, es4 (-2)) = ([1#8, 2#8], [255#8, 255#8, 255#8, 254#8]) := by decide

/-- No row of the table has bits, so no word spells a command. -/
theorem test_no_word_spells_a_command : decodeTableWord 0 0 = none := by decide

/-! ## A station in service -/

/-- A line of quantity 1 at 1000 in class 0 that needs prep class 0. -/
def lineOf (n : Nat) (st : LineState) (tk : Option Nat) : Line := ⟨n, 100 + n, 1000, 1, 0, some 0, false, [], 10, tk, none, st⟩

def shop : StationCfg := { StationCfg.reset with till := true, kitchen := true, prep := [0], rates := ⟨800, 0, 0, 0⟩, rounding := 5 }

def tabOf (n : Nat) (st : TabState) (lines : List Line) (sp : Option SplitRec) : Tab :=
  Tab.recompute shop.rates ⟨n, [], st, if st = .closed then some .paid else none, 0, lines, ⟨0, 0, 0, 0⟩, 0, sp, []⟩

def shareOf (n amount : Nat) (st : ShareState) (claimant : Nat) : Share :=
  ⟨n, amount, ⟨amount, 0, 0, 0⟩, ⟨0, 0, 0, 0⟩, st, claimant, if st = .settled then some ⟨.card, amount, 10⟩ else none,
    if st = .claimed then some 1000 else none⟩

def splitOf (l : List Share) : SplitRec := ⟨l.length, l, (l.map (·.amount)).sum, []⟩

/-- A record of tab 1 for the line of its own number. -/
def ticketOf (n : Nat) (st : RecState) : Ticket := ⟨n, 1, 0, false, [n], st, 1, [], []⟩

/-- A kitchen ticket of one taken portion of item 101, with every timer running. -/
def kticketOf (ref home number : Nat) : KTicket :=
  ⟨ref, home, number, false, 1, 0, false, [⟨1, 101, 1, [], none, true⟩], 0, ref, false, false, true, some 1000, some 2000, some 3000⟩

def peerOf (k : Nat) (p : Presence) : Peer :=
  ⟨k, true, true, [0], some 500, some 10, some 0, p, if p = .present then some 2000 else none, some ⟨0, false, 0, 0⟩, false⟩

def lockedRx (lane : Lane) : Receiver := { Receiver.reset with state := .locked, silence := some 5000, tagSeen := some lane }

/-- Station 10, ONLINE, with records of every kind; peer 20 is PRESENT, peer 30 LOST. -/
def day : State :=
  { State.resetWith false 10 with
    station := ⟨false, 10, .online, 60000, 60000, none, none⟩
    cfg := shop
    tabs :=
      [tabOf 1 .open [lineOf 1 .pending (some 1), lineOf 2 .pending (some 2), lineOf 3 .queued (some 3), lineOf 4 .fired (some 4),
          lineOf 5 .ready (some 5), lineOf 6 .unrouted (some 6), lineOf 7 .queued (some 7), lineOf 8 .new none,
          lineOf 9 .handed none, lineOf 10 .void none] none,
        tabOf 2 .split [lineOf 1 .handed none]
          (some (splitOf [shareOf 1 500 .available 0, shareOf 2 300 .claimed 10, shareOf 3 200 .claimed 20, shareOf 4 80 .settled 0])),
        tabOf 3 .closed [] none,
        tabOf 4 .split [lineOf 1 .collected none] (some (splitOf [shareOf 1 1080 .claimed 10])),
        tabOf 5 .split [lineOf 1 .handed none] (some (splitOf [shareOf 1 1080 .available 0]))]
    claims :=
      [⟨20, 5, 1, 900, some 9000, .held, none⟩, ⟨20, 5, 2, 900, some 9000, .settling, none⟩,
        ⟨20, 5, 3, 900, some 9000, .releasing, none⟩, ⟨20, 5, 4, 900, some 9000, .ended, some .expired⟩]
    dir := ⟨[peerOf 20 .present, peerOf 30 .lost], [30], false⟩
    beacon := ⟨some 500, some 100, true, true⟩
    router :=
      ⟨[ticketOf 1 .pending, ticketOf 2 (.offered 20), ticketOf 3 (.placed 20 .queued), ticketOf 4 (.placed 10 .fired),
          ticketOf 5 (.placed 20 .ready), ticketOf 6 .unrouted, ticketOf 7 (.placed 30 .queued)], 8, [], false⟩
    kitchen := ⟨[kticketOf 1 20 1], [kticketOf 2 10 4], [kticketOf 3 20 9], false, 4⟩
    portions := [⟨101, 5, 1, 2, 8, 10, 3, 0, 0, false⟩]
    stock := [⟨101, 20, .out, 0, 0⟩]
    link := { a := lockedRx .A, b := lockedRx .B, disagree := 0, overrun := false }
    exch := ⟨[⟨0, Kind.claim, 20, 5, 7, .claims, some 300⟩], 1⟩ }

/-- The same station before it has any record. -/
def quiet : State :=
  { day with
    tabs := [], claims := [], router := ⟨[], 1, [], false⟩, kitchen := ⟨[], [], [], false, 0⟩, portions := [], stock := []
    exch := ⟨[], 0⟩ }

/-- The station in another of its states. -/
def inState (s : State) (st : StationState) : State := { s with station := { s.station with state := st } }

/-- A frame from peer 20 to this station. -/
def frameOf (kind tag : Nat) (payload : Bytes) : Frame := ⟨kindClass kind, 0, 20, kind, 10, tag, payload⟩

/-- The frame waits at the head of the receive queue, with nothing behind it. -/
def hearing (f : Frame) (s : State) : State := { s with rx := [f] }

def tabA : Tab := (findTab day 1).getD (tabOf 1 .open [] none)
def tabB : Tab := (findTab day 2).getD (tabOf 2 .open [] none)
def tabD : Tab := (findTab day 4).getD (tabOf 4 .open [] none)
def tabE : Tab := (findTab day 5).getD (tabOf 5 .open [] none)

/-- What is read from the state a command or an event leaves. -/
def after {α : Type} (c : Instr) (s : State) (f : State → α) : Option α :=
  match exec c s with
  | .next t => some (f t)
  | _ => none

/-! ## The hypotheses of the statements are met -/

theorem test_StepRunsFrontCommand_met : ({ day with pending := [.status] } : State).pending = [.status] := rfl

theorem test_EmptyQueueStep_met :
    State.reset.pending = [] ∧ ({ day with port := { day.port with taken := some .status } } : State).port.taken = some .status ∧
    (State.resetWith true 0).station.inReset = true ∧ State.reset.port.taken = none ∧ State.reset.station.inReset = false := by decide

theorem test_ResetLeavesResetValues_met : 0 < 128 ∧ 127 < 128 := by decide

theorem test_TurnedAwayCommandsChangeNothing_met :
    (State.resetWith true 0).station.inReset = true ∧ isReset .status = false ∧ isReset .periodPinEdge = false ∧
    ({ day with port := { day.port with taken := some .join } } : State).port.taken = some .join ∧ Instr.status ≠ .join ∧
    (catalogue .status).isSome = true := by decide

theorem test_EventEnds_met :
    routerQuiet quiet = true ∧ (day.portions.map (·.item)).Nodup ∧
    ([⟨101, 4, 1, 3, 8, 10, 4, 0, 0, true⟩] : List Portion).map (fun p => (p.item, stockState p)) =
      [(101, StockState.low)] ∧
    routerQuiet { quiet with portions := [⟨101, 1, 1, 6, 8, 10, 4, 0, 0, true⟩] } = true ∧
    ([⟨101, 1, 1, 6, 8, 10, 4, 0, 0, true⟩] : List Portion).map (fun p => (p.item, stockState p)) = [(101, StockState.low)] := by
  decide

/-- A request to a kitchen to void line 3 of ticket 3. -/
def voidOf (kitchen : Nat) (purpose : VoidPurpose) : VoidEntry := ⟨kitchen, 3, 1, [3], purpose⟩

/-- Ticket 1 is the first record ready for an offer; ticket 6 waits behind it. -/
def routing : State :=
  { day with router := { day.router with tickets := [ticketOf 5 .unrouted, ticketOf 1 .pending, ticketOf 6 .pending] } }

/-- A record for which every kitchen of its prep class has been tried. -/
def tried : Ticket := { ticketOf 1 .pending with tried := [10, 20] }

theorem test_EventEnds_rounds :
    routing.station.state = .online ∧ routing.exch.entries.length < 8 ∧ routing.router.voids = [] ∧
    routing.router.tickets = [ticketOf 5 .unrouted] ++ ticketOf 1 .pending :: [ticketOf 6 .pending] ∧
    chooseKitchen routing (ticketOf 1 .pending) = some 10 ∧ own routing = 10 ∧ chooseKitchen routing tried = none ∧
    8 ≤ (List.replicate 8 (⟨0, Kind.claim, 20, 5, 7, .claims, some 300⟩ : ExchEntry)).length ∧
    ({ day with router := { day.router with voids := [voidOf 20 .till] } } : State).router.voids = voidOf 20 .till :: [] ∧
    (∀ x ∈ [ticketOf 5 .unrouted, ticketOf 2 (.offered 20)], x.state ≠ .pending) ∧
    (inState routing .isolated).station.state = .isolated ∧ 10 ∈ candidates (inState routing .isolated) (ticketOf 1 .pending) ∧
    10 ∉ candidates (inState routing .isolated) tried ∧ (inState routing .joining).station.state ≠ .online := by
  decide

theorem test_EventEnds_sends :
    isLost day 20 = false ∧ isLost day 30 = true ∧ 20 ≠ own day ∧ day.exch.entries.length < 8 ∧
    (∀ e ∈ day.exch.entries, e.tag ≠ day.exch.counter) ∧
    (sendFrame ⟨Kind.ticketVoid, 20, 1, e2 3 ++ eList e1 [3]⟩ day).1 = true ∧
    (sendFrame ⟨Kind.ticketVoid, 20, 1, e2 3 ++ eList e1 [3]⟩
      { day with tx := ⟨List.replicate 24 ⟨⟨Kind.answer, 20, 0, []⟩, 0, 0, false, false⟩, [], 0⟩ }).1 = false ∧
    (takeOffer ownReport noAnswer 10 ⟨1, 1, 0, 0, [⟨1, 101, 1, []⟩]⟩ routing).1.result = .ACCEPT ∧
    (takeOffer ownReport noAnswer 10 ⟨1, 1, 7, 0, [⟨1, 101, 1, []⟩]⟩ routing).1.result ≠ .ACCEPT := by
  decide

theorem test_EventEnds_stock_waits :
    let slot : Slot := ⟨⟨Kind.stock, 127, 0, eStockPayload 101 .low 5⟩, 0, 0, false, false⟩
    (stockItem slot.frame == some 101 && !slot.begun) = true ∧ (stockItem slot.frame == some 102 && !slot.begun) = false ∧
    day.tx.slots = [] := by decide

theorem test_CatalogueTestsComeFirst_met :
    catalogue (.openTab []) = some (.job, some .till) ∧ commandTaken (.openTab []) State.reset = true ∧
    TakenIn.job.holds State.reset.station.state = false ∧
    catalogue (.configure configReq) = some (.offline, none) ∧ TakenIn.offline.holds day.station.state = false ∧
    commandTaken (.configure configReq) day = true ∧ TakenIn.offline.holds (inState day .duplicate).station.state = false ∧
    TakenIn.job.holds day.station.state = true ∧
    hasRole { day with cfg := { shop with till := false } } .till = false := by decide

theorem test_TransactionSettles_met :
    day.station.inReset = false ∧ firstCommand [] = none ∧ firstCommand [0#8, 1#8] = none ∧
    busy { day with port := { day.port with taken := some .status } } = true ∧ busy day = false ∧
    firstCommand [0#8, 1#8, 0#8] = some (1, []) ∧ parseCommand 1 [] = .command .status ∧
    firstCommand [45#8, 0#8] = some (45, []) ∧ parseCommand 45 [] = .unknownCode ∧
    firstCommand [4#8, 1#8, 0#8] = some (4, [0#8]) ∧ parseCommand 4 [0#8] = .badFraming := by decide

theorem test_TransactionSettles_badLoopback :
    firstCommand [6#8, 1#8, 2#8, 0#8] = some (6, [2#8]) ∧ parseCommand 6 [2#8] = .badLoopback ∧
    parseCommand 6 [1#8] = .command .loopbackOn := by decide

theorem test_CommandBytesReadBack_met :
    (Instr.add 20 64 [lineReq] 1).wellFormed = true ∧ (catalogue (.add 20 64 [lineReq] 1)).isSome = true := by decide

theorem test_StatusReportsAndClears_met : commandTaken .status day = true := by decide

theorem test_NoticesMaskAndPages_met :
    commandTaken .nextNotice day = true ∧
    (post (.peerReturned 20) day).port.link = [] ∧ (post (.peerReturned 20) day).port.money = [] ∧
    (post (.peerReturned 20) day).port.kitchen = [] ∧ (post (.peerReturned 20) day).port.peers = [.peerReturned 20] ∧
    (post (.tagStatus .crossed) day).port.link = [.tagStatus .crossed] ∧
    (post (.captureDeferred 3) day).port.money = [.captureDeferred 3] ∧
    (post (.ticketReady 1 1) day).port.kitchen = [.ticketReady 1 1] ∧ day.port.peers = [] ∧
    readReady (.setAttention 15#8) none day = true ∧ readReady (.readPage 1 64) none day = true ∧
    readReady (.readPage 0 1) none day = true ∧
    ({ day with port := { day.port with snapshot := some ⟨1, [0#8, 1#8]⟩ } } : State).port.snapshot = some ⟨1, [0#8, 1#8]⟩ := by
  decide

theorem test_ReadsAndQueriesAnswer_met :
    readReady (.readTab 1) (some .till) day = true ∧ findTab day 1 = some tabA ∧ readReady .readClaims (some .till) day = true ∧
    readReady (.readCapture 1) none day = true ∧ readReady (.readCapture 2) none day = true ∧
    ({ day with takings := { day.takings with slot1 := some ⟨0, 0, false, .zero⟩ } } : State).takings.slot1 =
      some ⟨0, 0, false, .zero⟩ ∧
    readReady .readPeers none day = true ∧ readReady .readTickets (some .till) day = true ∧
    readReady .readQueue (some .kitchen) day = true ∧ readReady .nextNew (some .kitchen) day = true ∧
    day.kitchen.byRef 1 = some (.queued, kticketOf 1 20 1) ∧ (kticketOf 1 20 1).unread = true ∧
    (∀ u ∈ day.kitchen.all, u.unread = true → u = kticketOf 1 20 1 ∨ (kticketOf 1 20 1).accepted < u.accepted ∨
      ((kticketOf 1 20 1).accepted = u.accepted ∧ (kticketOf 1 20 1).seq < u.seq)) ∧
    readReady (.readPortions none) (some .kitchen) day = true ∧ readReady .readStockView (some .till) day = true ∧
    jobReady (.query 10 1) .till day = true ∧ own day = 10 ∧
    requestReady Kind.tabQuery .till (frameOf Kind.tabQuery 3 (e2 1)) [] (hearing (frameOf Kind.tabQuery 3 (e2 1)) day) = true ∧
    Reader.n2.exact (e2 1) = some 1 := by decide

theorem test_ConfigureTakesItsValues_met :
    let s := State.resetWith false 126
    commandTaken (.configure configReq) s = true ∧ s.station.state = .offline ∧ isStation s.station.number = true ∧
    (configReq.roles.getLsbD 0 || configReq.roles.getLsbD 1) = true ∧ membersOf 0 configReq.prep ≠ [] ∧ configReq.rates.c0 ≤ 2500 ∧
    isStation 1 = true ∧ isStation 127 = false := by decide

theorem test_ConfiguredValuesAreClamped_met :
    configReq.interval = none ∧ ({ configReq with interval := some 2000 } : ConfigReq).interval = some 2000 := by decide

theorem test_StationRowsMoveTheState_met :
    commandTaken .loopbackOn (inState day .configured) = true ∧ (inState day .configured).station.state = .configured ∧
    commandTaken .loopbackOff (inState day .loopback) = true ∧ commandTaken .join (inState day .configured) = true ∧
    ({ inState day .joining with station := ⟨false, 10, .joining, 0, 0, some 0, none⟩ } : State).station.joinWindow.isSome = true ∧
    ({ day with station := ⟨false, 10, .online, 0, 0, none, some 0⟩ } : State).station.isolation.isSome = true := by decide

theorem test_StationLifeRules_met :
    isReset .join = false ∧ ∃ t, exec .join (inState quiet .configured) = .next t ∧ t.station.state = .joining :=
  ⟨rfl, _, rfl, rfl⟩

theorem test_StationLifeRules_configures :
    ∃ t, exec (.configure configReq) (State.resetWith false 10) = .next t ∧ t.cfg ≠ StationCfg.reset :=
  ⟨_, rfl, by decide⟩

theorem test_DuplicateFreezesTheRecords_met :
    (inState day .duplicate).station.state = .duplicate ∧ day.rx = [] ∧ day.tx.slots = [] ∧ (day.portions.map (·.item)).Nodup ∧
    isReset (.fire 1) = false ∧ Instr.fire 1 ≠ .splitCompletion ∧ ∃ t, exec (.fire 1) (inState day .duplicate) = .next t :=
  ⟨rfl, rfl, rfl, by decide, rfl, by decide, _, rfl⟩

theorem test_OpenAndReleaseTabs_met :
    jobReady (.openTab [32#8, 126#8]) .till day = true ∧ day.tabs.length < 64 ∧
    (([32#8, 126#8] : Bytes).take 8).all (fun b => decide (32 ≤ b.toNat) && decide (b.toNat ≤ 126)) = true ∧
    (∀ t ∈ day.tabs, t.number ≠ 6) ∧ (∀ m, m < 6 → 1 ≤ m → ∃ t ∈ day.tabs, t.number = m) ∧
    jobReady (.release 3) .till day = true ∧ findTab day 3 = some (tabOf 3 .closed [] none) ∧
    (tabOf 3 .closed [] none).state = .closed ∧ (∀ k ∈ day.router.tickets, k.tab ≠ 3) := by decide

theorem test_AddAppendsLines_met :
    jobReady (.add 10 1 [{ lineReq with item := 102 }] 1) .till day = true ∧ findTab day 1 = some tabA ∧ tabA.state = .open ∧
    [{ lineReq with item := 102 }].all lineOffered = true ∧ tabA.lines.length + 1 ≤ 48 ∧
    [{ lineReq with item := 102 }].all (fun l => !soldOut day l) = true ∧
    (let f := frameOf Kind.add 3 (eAddPayload 1 0 [{ lineReq with item := 102 }])
     requestReady Kind.add .till f [] (hearing f day) = true ∧
     rAdd.exact f.payload = some ⟨1, 0, [{ lineReq with item := 102 }]⟩) := by decide

theorem test_SoldOutNeedsEveryKitchenOut_met :
    (∀ p ∈ day.dir.entries, p.station ≠ own day) ∧
    soldOut { day with portions := [⟨101, 0, 1, 7, 8, 10, 3, 0, 0, false⟩] } lineReq = true ∧ soldOut day lineReq = false := by decide

theorem test_SendMakesTickets_met :
    jobReady (.send 1) .till day = true ∧ findTab day 1 = some tabA ∧ tabA.state ≠ .splitting ∧
    (sendWalk day tabA).joined = [(8, 8)] ∧ (sendWalk day tabA).full = false := by decide

theorem test_SendWalkGroups_met :
    (day.router.tickets.map (·.number)).Nodup ∧ 1 ≤ day.router.counter ∧ day.router.counter ≤ 65535 ∧ day.router.tickets.length ≤ 96 ∧
    (sendWalk { day with router := { day.router with tickets := List.replicate 96 (ticketOf 1 .pending) } } tabA).full = true := by
  decide

/-- One NEW line more: it joins the record of prep class 0 with room, or, with every record full or of another class, makes one. -/
theorem test_SendWalkGroups_steps :
    (sendWalk day { tabA with lines := [lineOf 1 .new none] }).made = [] ++ ⟨8, 1, 0, false, [1], .pending, 0, [], []⟩ :: [] ∧
    (sendWalk day { tabA with lines := [lineOf 1 .new none, lineOf 2 .new none] }).joined = [(1, 8), (2, 8)] ∧
    (sendWalk day { tabA with lines := [lineOf 1 .new none, { lineOf 2 .new none with rush := true }] }).joined = [(1, 8), (2, 9)] ∧
    (sendWalk day { tabA with lines := (List.range 9).map fun i => lineOf (i + 1) .new none }).made.map (·.lines.length) = [1, 8] ∧
    (sendWalk { day with router := { day.router with counter := 65535 } } { tabA with lines := [lineOf 1 .new none] }).counter = 1 ∧
    (sendWalk { day with router := { day.router with counter := 3 } } { tabA with lines := [lineOf 1 .new none] }).joined = [(1, 8)] ∧
    (lineOf 3 .queued (some 3)).state ≠ .new ∧ (∀ n, (9, n) ∉ (sendWalk day tabA).joined) := by
  refine ⟨by decide, by decide, by decide, by decide, by decide, by decide, by decide, ?_⟩
  intro n
  rw [show (sendWalk day tabA).joined = [(8, 8)] by decide]
  simp

theorem test_VoidsLeaveTheCharge_met :
    jobReady (.lineVoid 10 1 9) .till day = true ∧ tabA.line 9 = some (lineOf 9 .handed none) ∧ tabA.state = .open ∧
    (let f := frameOf Kind.lineVoid 3 (e2 1 ++ e1 9)
     requestReady Kind.lineVoid .till f [] (hearing f day) = true ∧ rTabByte.exact f.payload = some (1, 9)) ∧
    jobReady (.tabVoid 1) .till day = true ∧ findTab day 1 = some tabA ∧ findTab day 5 = some tabE ∧ tabE.state = .split ∧
    tabE.split = some (splitOf [shareOf 1 1080 .available 0]) ∧
    (∀ sh ∈ (splitOf [shareOf 1 1080 .available 0]).shares, sh.state = .available) := by decide

theorem test_VoidsLeaveTheCharge_by_kitchen :
    tabA.line 10 = some (lineOf 10 .void none) ∧ tabA.line 3 = some (lineOf 3 .queued (some 3)) ∧ tabA.state = .open ∧ tabA.line 11 = none ∧
    (tabOf 6 .splitting [lineOf 1 .fired (some 1)] none).state = .splitting ∧ findTab day 2 = some tabB ∧ tabB.state = .split ∧
    tabB.line 1 = some (lineOf 1 .handed none) ∧ (∃ sp, tabB.split = some sp ∧ ∃ sh ∈ sp.shares, sh.state = .settled) ∧
    findTab day 4 = some tabD ∧ tabD.split = some (splitOf [shareOf 1 1080 .claimed 10]) ∧
    (∀ sh ∈ (splitOf [shareOf 1 1080 .claimed 10]).shares, sh.state ≠ .settled) ∧
    (tabOf 3 .closed [lineOf 1 .fired (some 1)] (some (splitOf [shareOf 1 1080 .settled 0]))).state = .closed ∧
    (tabOf 3 .closed [lineOf 1 .fired (some 1)] none).split = none ∧ findTab day 9 = none := by
  refine ⟨by decide, by decide, by decide, by decide, by decide, by decide, by decide, by decide, ?_, by decide, by decide, by decide,
    by decide, by decide, by decide⟩
  exact ⟨_, rfl, by decide⟩

theorem test_VoidDealsWithTheTicket_met :
    findTab day 1 = some tabA ∧ tabA.line 8 = some (lineOf 8 .new none) ∧ tabA.line 9 = some (lineOf 9 .handed none) ∧
    (tabA.line 1).map (·.state) = some .pending ∧ findTicket day 1 = some (ticketOf 1 .pending) ∧
    (ticketOf 1 .pending).isOffered = false ∧ findTicket day 2 = some (ticketOf 2 (.offered 20)) ∧
    (ticketOf 2 (.offered 20)).isOffered = true ∧ (tabA.line 6).map (·.state) = some .unrouted ∧
    findTicket day 3 = some (ticketOf 3 (.placed 20 .queued)) ∧ findTicket day 4 = some (ticketOf 4 (.placed 10 .fired)) ∧
    findTicket day 5 = some (ticketOf 5 (.placed 20 .ready)) ∧ LineState.final .pending = false := by decide

theorem test_VoidDealsWithTheTicket_requests :
    (voidOf 20 .till).kitchen ≠ own day ∧ (voidOf 10 .till).kitchen = own day ∧ (voidOf 20 .till).lines.Nodup ∧
    ({ day with router := { day.router with voids := [voidOf 30 .till, voidOf 20 .till, voidOf 20 .stray] } } : State).router.voids =
      [voidOf 30 .till] ++ voidOf 20 .till :: [voidOf 20 .stray] ∧
    (∀ y ∈ [voidOf 30 .till] ++ [voidOf 20 .stray], ¬(y.kitchen = 20 ∧ y.ticket = 3 ∧ y.purpose = .till)) ∧
    day.router.voids.length < 16 ∧ 16 ≤ (List.replicate 16 (voidOf 20 .stray)).length ∧
    findTicket day 9 = none ∧ (ticketOf 2 (.offered 20)).state = .offered 20 ∧
    lineState day 1 3 = some .queued ∧ LineState.ended .queued = false ∧ lineState day 1 9 = some .handed ∧
    (∀ m ∈ [10], ∀ st, lineState day 1 m = some st → st.ended = true) := by
  refine ⟨by decide, by decide, by decide, by decide, by decide, by decide, by decide, by decide, by decide, by decide, by decide, by decide,
    ?_⟩
  intro m hm st h
  cases List.mem_singleton.mp hm
  cases (show lineState day 1 10 = some .void by decide).symm.trans h
  rfl

theorem test_FinalLinesStay_met :
    lineState quiet 1 1 = none ∧ lineState day 1 10 = some .void ∧ LineState.final .void = true ∧ ∃ t, step day = .next t :=
  ⟨by decide, by decide, rfl, _, rfl⟩

theorem test_StepKeepsTabsCurrent_met : TabsCurrent day ∧ KeysDistinct day ∧ ∃ t, step day = .next t :=
  ⟨by constructor <;> decide, by constructor <;> decide, _, rfl⟩

theorem test_SplitAndWithdraw_met :
    jobReady (.split 10 1 8 [⟨9, 255#8⟩]) .till day = true ∧ jobReady (.split 10 1 1 []) .till day = true ∧
    findTab day 1 = some tabA ∧ day.engine = none ∧ (∃ l ∈ tabA.lines, l.state.charged = true) ∧
    tabA.line 9 = some (lineOf 9 .handed none) ∧ LineState.charged .handed = true ∧ membersOf 1 255#8 ≠ [] ∧
    (∀ n ∈ membersOf 1 255#8, n ≤ 8) ∧
    (let f := frameOf Kind.split 3 (eSplitPayload 1 8 [⟨9, 255#8⟩])
     requestReady Kind.split .till f [] (hearing f day) = true ∧ rSplit.exact f.payload = some ⟨1, 8, [⟨9, 255#8⟩]⟩) ∧
    jobReady (.withdraw 10 5) .till day = true ∧ findTab day 5 = some tabE ∧
    (let f := frameOf Kind.withdraw 3 (e2 5)
     requestReady Kind.withdraw .till f [] (hearing f day) = true ∧ Reader.n2.exact f.payload = some 5) := by decide

/-- An engine record whose one line costs `amount`, split evenly among two shares. -/
def jobOf (amount : Nat) (r : Requester) (stale : Bool) : EngineJob := ⟨1, r, stale, 2, [⟨1, amount, 0, [1, 2], false⟩]⟩

theorem test_SplitCompletionStrikes_met :
    ({ day with engine := some (jobOf 1000 .local false) } : State).engine = some (jobOf 1000 .local false) ∧
    ¬(∀ sh ∈ (struckSplit 10 shop.rates (jobOf 1000 .local false)).shares, sh.state = .settled) ∧
    (∀ sh ∈ (struckSplit 10 shop.rates (jobOf 0 .local false)).shares, sh.state = .settled) ∧
    (jobOf 0 (.remote 20 7) false).requester = .remote 20 7 ∧ (jobOf 0 .local true).stale = true ∧
    day.station.state ≠ .duplicate := by decide

theorem test_DivisionsLoseNothing_met :
    ([1, 8] : List Nat) ≠ [] ∧ [1, 8].Nodup ∧ (∀ n ∈ [1, 8], 1 ≤ n ∧ n ≤ 8) ∧ 0 < [0, 1].sum ∧ 1 < [0, 1].length := by decide

theorem test_SharesSumToTheTotal_met : (jobOf 1001 .local false).valid ∧ (jobOf 0 .local false).valid := by
  constructor <;> (unfold EngineJob.valid; decide)

theorem test_ClaimAndReleaseShare_met :
    jobReady (.claim 10 2 1) .till day = true ∧ findTab day 2 = some tabB ∧ tabB.state = .split ∧
    (tabB.split.bind (·.share 1)) = some (shareOf 1 500 .available 0) ∧ (tabB.split.bind (·.share 2)) = some (shareOf 2 300 .claimed 10) ∧
    (tabB.split.bind (·.share 3)) = some (shareOf 3 200 .claimed 20) ∧
    (let f := frameOf Kind.claim 3 (e2 2 ++ e1 1)
     requestReady Kind.claim .till f [] (hearing f day) = true ∧ rTabByte.exact f.payload = some (2, 1)) ∧
    jobReady (.releaseShare 10 2 2) .till day = true ∧
    (let f := frameOf Kind.release 3 (e2 2 ++ e1 3)
     requestReady Kind.release .till f [] (hearing f day) = true ∧ rTabByte.exact f.payload = some (2, 3) ∧ f.source = 20) := by decide

theorem test_CashRoundsToTheIncrement_met : 2 * (1725 % 50) ≥ 50 ∧ 2 * (1724 % 50) < 50 := by decide

theorem test_SettleTakesTheMoney_met :
    Tender.ofCode 2 = some .voucher ∧ jobReady (.settle 10 2 2 2) .till day = true ∧
    (tabB.split.bind (·.share 2)) = some (shareOf 2 300 .claimed 10) ∧
    ¬(∀ sp, tabB.split = some sp → ∀ x ∈ sp.shares, x.number = 2 ∨ x.state = .settled) ∧
    jobReady (.settle 10 4 1 0) .till day = true ∧ findTab day 4 = some tabD ∧
    tabD.split = some (splitOf [shareOf 1 1080 .claimed 10]) ∧
    (∀ x ∈ (splitOf [shareOf 1 1080 .claimed 10]).shares, x.number = 1 ∨ x.state = .settled) ∧
    (let f := frameOf Kind.settle 3 (e2 2 ++ e1 3 ++ e1 0)
     requestReady Kind.settle .till f [] (hearing f day) = true ∧ rTabShareByte.exact f.payload = some (2, 3, 0) ∧ f.source ≠ own day) := by
  refine ⟨by decide, by decide, by decide, ?_, by decide, by decide, by decide, by decide, by decide⟩
  intro h
  exact absurd (h _ (rfl : tabB.split = some _)) (by decide)

theorem test_ClaimsEnd_met :
    findShare day 2 2 = some (shareOf 2 300 .claimed 10) ∧ findShare day 2 3 = some (shareOf 3 200 .claimed 20) ∧
    (shareOf 2 300 .claimed 10).hold.isSome = true ∧ day.station.inReset = false ∧ day.station.state ≠ .duplicate ∧
    (let f := frameOf Kind.claimEnd 0 (e2 5 ++ e1 1 ++ e1 1)
     requestReady Kind.claimEnd .till f [] (hearing f day) = true ∧ rTabShareByte.exact f.payload = some (5, 1, 1)) ∧
    [1, 2, 3, 4, 5].map (fun n => (findClaim day 20 5 n).map (·.state)) =
      [some .held, some .settling, some .releasing, some .ended, none] ∧
    (day.claims.all (·.expiry.isSome)) = true := by decide

theorem test_PeriodsAdvanceAndCapture_met :
    commandTaken .markPeriod day = true ∧ inService day = true ∧ day.takings.lockout = none ∧
    inService (inState day .offline) = false ∧
    readReady (.releaseCapture 1) none day = true ∧ readReady (.releaseCapture 2) none day = true ∧
    ({ day with takings := { day.takings with slot1 := some ⟨0, 0, false, .zero⟩ } } : State).takings.slot1.isSome = true := by decide

/-- The room and the home that a request to peer 20 needs. -/
theorem test_RemoteRequestsStart_room :
    day.exch.entries.length < 8 ∧ day.tx.slots.length < 24 ∧ lowCount day.tx.slots < 20 ∧ day.exch.counter < 256 ∧
    (∀ e ∈ day.exch.entries, e.tag ≠ day.exch.counter) ∧ isStation 20 = true ∧ 20 ≠ own day ∧ day.station.state = .online ∧
    isLost day 20 = false ∧ isLost day 40 = false ∧ isLost day 30 = true := by decide

theorem test_RemoteRequestsStart_met :
    jobReady (.add 20 5 [lineReq] 0) .till day = true ∧ jobReady (.lineVoid 20 5 1) .till day = true ∧
    jobReady (.query 20 5) .till day = true ∧ jobReady (.split 20 5 2 []) .till day = true ∧
    jobReady (.withdraw 20 5) .till day = true ∧ jobReady (.claim 20 6 1) .till day = true ∧ claimTests 20 6 1 day = none ∧
    jobReady (.settle 20 5 1 2) .till day = true ∧ findClaim day 20 5 1 = some ⟨20, 5, 1, 900, some 9000, .held, none⟩ ∧
    jobReady (.releaseShare 20 5 1) .till day = true ∧ jobReady (.refresh 3) .till day = true ∧
    findTicket day 3 = some (ticketOf 3 (.placed 20 .queued)) ∧ commandTaken (.test 20 [1#8]) day = true ∧
    commandTaken (.test 30 [1#8]) day = true ∧ isLost day 30 = true ∧ isStation 126 = true ∧
    commandTaken (.test 10 []) (inState day .loopback) = true ∧ own (inState day .loopback) = 10 := by decide

theorem test_ExchangesEnd_met :
    (let f := frameOf Kind.test 3 (List.replicate 32 1#8)
     frameReady Kind.test f [] (hearing f day) = true ∧ testable day = true ∧ f.payload.length ≤ 32) ∧
    (let f := frameOf Kind.answer 0 (eAnswerPayload Kind.claim 0 5 7 .GRANTED (e4 900))
     frameReady Kind.answer f [] (hearing f day) = true ∧
     parseAnswer f.source f.payload = some ⟨20, Kind.claim, 0, 5, 7, Result.GRANTED.code, e4 900⟩ ∧
     day.exch.entries = [] ++ ⟨0, Kind.claim, 20, 5, 7, .claims, some 300⟩ :: []) ∧
    (let f := frameOf Kind.answer 9 (eAnswerPayload Kind.ticket 9 5 0 .BUSY [])
     frameReady Kind.answer f [] (hearing f day) = true ∧ isRequest Kind.ticket = true ∧
     parseAnswer f.source f.payload = some ⟨20, Kind.ticket, 9, 5, 0, Result.BUSY.code, []⟩ ∧
     ∀ e ∈ day.exch.entries, e.tag ≠ 9) ∧
    isRequest Kind.claim = true ∧ Kind.claim ≠ Kind.ticket := by decide

/-- An answer of peer 20 to a request of a kind about a subject. -/
def answerTo (kind subject : Nat) (r : Result) (data : Bytes) : AnswerRec := ⟨20, kind, 0, subject, 0, r.code, data⟩

theorem test_ExchangesEnd_command_and_offer :
    let view := answerTo Kind.ticketQuery 3 .OK (e1 1 ++ e1 2 ++ e1 3 ++ eList (fun l => e1 l ++ e1 1) [3])
    (⟨0, Kind.test, 20, 0, 0, .command, none⟩ : ExchEntry).owner = .command ∧ view.result = Result.OK.code ∧
    rQueryAnswer.exact view.data = some (1, 2, 3, [(3, 1)]) ∧ (answerTo Kind.ticketQuery 3 .UNKNOWN []).result = Result.UNKNOWN.code ∧
    findTicket day view.subject = some (ticketOf 3 (.placed view.source .queued)) ∧ findTicket day 9 = none ∧
    findTicket day 4 = some (ticketOf 4 (.placed 10 .fired)) ∧
    (answerTo Kind.ticket 2 .ACCEPT [4#8, 49#8]).result = Result.ACCEPT.code ∧
    rAccept.exact (answerTo Kind.ticket 2 .ACCEPT [4#8, 49#8]).data = some (4, 49) ∧
    (answerTo Kind.ticket 2 .BUSY []).result ≠ Result.ACCEPT.code ∧ findTicket day 2 = some (ticketOf 2 (.offered 20)) ∧
    findTicket day 1 = some (ticketOf 1 .pending) ∧ findTicket day 6 = some (ticketOf 6 .unrouted) ∧
    [lineState day 1 2, lineState day 1 10] = [some .pending, some .void] ∧ (ticketOf 2 (.offered 20)).attempts < 3 ∧
    3 ≤ ({ ticketOf 2 (.offered 20) with attempts := 3 } : Ticket).attempts := by decide

/-- A placement asks for the VOID lines the record lists, or all that bear its number (R83, R86). -/
theorem test_ExchangesEnd_asks_for_voids :
    let asked := fun (t : Ticket) (lines : List Line) (late : Bool) =>
      (lines.filter fun l => l.state == .void && (if late then l.ticket == some t.number else t.lines.contains l.number)).map (·.number)
    asked (ticketOf 2 .pending) [lineOf 2 .void (some 2), lineOf 3 .void (some 2)] false = [2] ∧
    asked (ticketOf 2 .pending) [lineOf 2 .void (some 2), lineOf 3 .void (some 2)] true = [2, 3] ∧
    asked (ticketOf 2 .pending) [lineOf 2 .pending (some 2)] true = [] := by decide

theorem test_ExchangesEnd_voids_and_late :
    (⟨0, Kind.ticketVoid, 20, 3, 0, .void .till 1 [3], none⟩ : ExchEntry).owner = .void .till 1 [3] ∧
    rVoidResults.exact (answerTo Kind.ticketVoid 3 .OK (eList e1 [] ++ [])).data = some [] ∧
    rVoidResults.exact (e1 1 ++ e1 3 ++ e1 Result.RETURNED.code) = some [(3, Result.RETURNED.code)] ∧
    ([(3, 20), (4, 20)] : List (Nat × Nat)) ≠ [] ∧ (∀ r ∈ ([(3, 20), (4, 20)] : List (Nat × Nat)), r.2 = 20) ∧
    (∃ r ∈ ([(3, 20), (4, 21)] : List (Nat × Nat)), ∃ r' ∈ ([(3, 20), (4, 21)] : List (Nat × Nat)), r.2 ≠ r'.2) ∧
    inService day = true ∧ inService (inState day .joining) = false ∧ hasRole day .till = true ∧
    hasRole { day with cfg := { shop with till := false } } .till = false := by decide

/-- The length test of an ANSWER's data follows its request's kind and its result (R164, R179). -/
theorem test_answer_data_layouts :
    [answerTo Kind.add 1 .OK (List.replicate 8 0#8), answerTo Kind.lineVoid 1 .OK (List.replicate 5 0#8),
      answerTo Kind.tabQuery 1 .OK (e1 0 ++ [0#8] ++ eList e1 [65] ++ e1 2 ++ e4 9 ++ e1 1 ++ e4 9 ++ e1 0 ++ e1 0),
      answerTo Kind.split 1 .OK (e1 1 ++ e4 9 ++ e4 9 ++ e1 0 ++ e1 2), answerTo Kind.claim 1 .HELD_BY [30#8],
      answerTo Kind.ticket 1 .SOLD_OUT (e2 101), answerTo Kind.add 1 .SOLD_OUT [1#8], answerTo Kind.split 1 .BAD_LINE [1#8],
      answerTo Kind.withdraw 1 .OK [], answerTo Kind.settle 1 .CLAIM_LOST []].all answerDataOk = true ∧
    [answerTo Kind.add 1 .OK (List.replicate 7 0#8), answerTo Kind.lineVoid 1 .OK [], answerTo Kind.tabQuery 1 .OK [],
      answerTo Kind.split 1 .OK (e1 2 ++ e4 9 ++ e4 9 ++ e1 0 ++ e1 2), answerTo Kind.claim 1 .HELD_BY [], answerTo Kind.ticket 1 .SOLD_OUT [1#8],
      answerTo Kind.withdraw 1 .OK [0#8], answerTo Kind.settle 1 .CLAIM_LOST [0#8]].all (!answerDataOk ·) = true := by decide

theorem test_ClaimAnswersDecideEntries_met :
    let e : ExchEntry := ⟨0, Kind.claim, 20, 5, 7, .claims, some 300⟩
    e.owner = .claims ∧ Reader.n4.exact (e4 900) = some 900 ∧ findClaim day 20 5 7 = none ∧ day.claims.length < 8 ∧
    rSettled.exact (e4 903 ++ e1 0 ++ e4 905 ++ es4 2) = some (903, 0, 905, 2) ∧ Tender.ofCode 0 = some .cash ∧
    (findClaim day 20 5 2).map (·.state) = some .settling ∧ (findClaim day 20 5 4).map (·.state) = some .ended := by decide

theorem test_ClaimAnswersDecideEntries_late :
    inService day = true ∧ hasRole day .till = true ∧ [1, 2, 3, 4].map (fun n => (findClaim day 20 5 n).map (·.state)) =
      [some .held, some .settling, some .releasing, some .ended] ∧ (findClaim day 20 5 4).bind (·.reason) = some .expired ∧
    8 ≤ (List.replicate 8 (⟨20, 6, 1, 900, some 9000, .held, none⟩ : ClaimEntry)).length ∧ Tender.ofCode 3 = none ∧
    rSettled.exact (e4 903 ++ e1 3 ++ e4 905 ++ es4 2) = some (903, 3, 905, 2) ∧ findClaim day 20 5 7 = none ∧
    Result.CLAIM_LOST.code ≠ Result.OK.code ∧ Result.CLAIM_LOST.code ≠ Result.NO_ANSWER.code ∧ Result.UNKNOWN.code ≠ Result.CLAIM_LOST.code ∧
    Kind.settle ≠ Kind.claim ∧ Kind.withdraw ≠ Kind.ticket := by decide

/-- A slot waiting with a frame of the kind. -/
def slotOf (kind : Nat) : Slot := ⟨⟨kind, 20, 0, []⟩, 0, 0, false, false⟩

theorem test_SchedulerDecidesByClass_met :
    ¬(24 ≤ day.tx.slots.length ∨ 20 ≤ lowCount day.tx.slots) ∧
    20 ≤ lowCount (slotOf Kind.test :: List.replicate 19 (slotOf Kind.add)) ∧ kindClass Kind.test = 3 ∧ (slotOf Kind.test).onWire = false ∧
    (∀ y ∈ List.replicate 19 (slotOf Kind.add), ¬(kindClass y.frame.kind = 3 ∧ y.onWire = false)) ∧ kindClass Kind.add = 2 ∧
    kindClass Kind.claim = 1 ∧ 24 ≤ (List.replicate 24 (slotOf Kind.answer)).length ∧ kindClass Kind.answer = 0 := by decide

theorem test_FramesReadBack_met :
    let f : OutFrame := ⟨Kind.test, 127, 255, List.replicate 200 255#8⟩
    126 < 128 ∧ 7 < 8 ∧ f.kind < 256 ∧ f.dest < 256 ∧ f.tag < 256 ∧ f.payload.length ≤ 200 := by decide +kernel

/-- A beacon payload of a till and kitchen serving prep class 0. -/
def beaconOf (interval joinAge period : Nat) : Bytes :=
  [3#8, 1#8] ++ e2 interval ++ e4 joinAge ++ e1 period ++ e1 48 ++ e1 1 ++ e1 48

theorem test_PeerFramesAreRecorded_met :
    (let f := { frameOf Kind.beacon 0 (beaconOf 2000 11 99) with dest := 127 }
     frameReady Kind.beacon f [] (hearing f day) = true ∧ rBeacon.exact f.payload = some ⟨3#8, 1#8, 2000, 11, 99, 48, 1, 48⟩ ∧
     listening day = true ∧ findPeer day f.source = some (peerOf 20 .present) ∧ (peerOf 20 .present).joinAge = some 10) ∧
    (let f := { frameOf Kind.beacon 0 (beaconOf 250 10 0) with dest := 127 }
     frameReady Kind.beacon f [] (hearing f day) = true ∧ rBeacon.exact f.payload = some ⟨3#8, 1#8, 250, 10, 0, 48, 1, 48⟩) ∧
    (let f := { frameOf Kind.period 0 (e1 99) with dest := 127 }
     frameReady Kind.period f [] (hearing f day) = true ∧ Reader.n1.exact f.payload = some 99) ∧
    day.takings.period = 0 ∧ inService day = true ∧ day.takings.slot1 = none ∧
    listening (inState day .joining) = true := by decide

/-- A directory with every place taken, by PRESENT peers from 11 on but for the LOST ones given. -/
def crowded (lost : List Nat) (full : Bool) : State :=
  { day with dir := ⟨(List.range 64).map fun i => peerOf (11 + i) (if lost.contains (11 + i) then .lost else .present), lost, full⟩ }

theorem test_PeerFramesAreRecorded_directory :
    (findPeer day 20).map (·.presence) = some .present ∧ (findPeer day 30).map (·.presence) = some .lost ∧ findPeer day 40 = none ∧
    day.dir.entries.length < 64 ∧ 64 ≤ (crowded [31, 30] false).dir.entries.length ∧ findPeer (crowded [31, 30] false) 120 = none ∧
    (crowded [31, 30] false).dir.lostOrder = 31 :: [30] ∧ (crowded [] true).dir.lostOrder = [] ∧ (crowded [] true).dir.full = true ∧
    (crowded [] false).dir.full = false := by decide

/-- R64 by hand: with 64 entries, station 120 takes the place of the entry LOST the longest, or is left out with PEERS_FULL once. -/
theorem test_full_directory_evicts_or_refuses :
    (let t := refreshPeer 120 false (crowded [31, 30] false)
     (t.dir.entries.length, (findPeer t 31).isSome, (findPeer t 120).map (·.presence), t.dir.lostOrder, t.port.peers) =
       (64, false, some .present, [30], [.peerEvicted 31])) ∧
    (let t := refreshPeer 120 false (crowded [] false)
     (t.dir.full, (findPeer t 120).isSome, t.port.peers, (refreshPeer 121 false t).port.peers) =
       (true, false, [.peersFull 120], [.peersFull 120])) := by decide +kernel

/-- R94, R115 and R131 by hand: a rejoin of peer 20 sends its QUEUED ticket round again, loses its READY one and drops its stock. -/
theorem test_rejoin_is_told_to_the_blocks :
    let t := reportRejoin 20 day
    ([3, 7, 5].map (lineState t 1), (findTicket t 3).map (·.state), (findTicket t 5).isSome, t.stock, t.claims) =
      ([some .pending, some .queued, some .lost], some .pending, false, [], []) ∧
    (t.kitchen.all.map fun k => (k.ref, k.orphan)) = [(1, true), (2, false), (3, true)] := by decide +kernel

theorem test_PeerTimersExpire_met :
    findPeer day 20 = some (peerOf 20 .present) ∧ (peerOf 20 .present).silence.isSome = true ∧ inService day = true ∧
    day.beacon.interval.isSome = true ∧ day.beacon.holdOff.isSome = true ∧ day.beacon.due = true ∧ quiet.beacon.due = true ∧
    (∀ x ∈ day.tx.slots, x.frame.kind ≠ Kind.beacon) ∧ day.tx.slots.length < 24 ∧ lowCount day.tx.slots < 20 ∧
    (∀ p ∈ day.portions, p.resend = false) := by decide

theorem day_directory_sound : DirectorySound day := by
  refine ⟨by decide, by decide, by decide, by decide, ?_, by decide, by decide⟩
  intro k
  simp [day, peerOf, eq_comm]

theorem test_StepKeepsDirectorySound_met : DirectorySound day ∧ ∃ t, step day = .next t := ⟨day_directory_sound, _, rfl⟩

theorem test_RoutingCommandsComplete_met :
    jobReady (.retry 6) .till day = true ∧ findTicket day 6 = some (ticketOf 6 .unrouted) ∧ jobReady (.refresh 4) .till day = true ∧
    findTicket day 4 = some (ticketOf 4 (.placed 10 .fired)) ∧ day.kitchen.byKey 10 4 = some (.fired, kticketOf 2 10 4) ∧
    quiet.kitchen.byKey 10 4 = none ∧ jobReady (.abandon 7) .till day = true ∧
    findTicket day 7 = some (ticketOf 7 (.placed 30 .queued)) ∧ isPresent day 30 = false := by decide

theorem test_RoutingCommandsComplete_views :
    findTicket day 3 = some (ticketOf 3 (.placed 20 .queued)) ∧ findTicket day 1 = some (ticketOf 1 .pending) ∧ findTicket day 9 = none ∧
    ([3, 4] : List Nat).filter (fun n => (ticketOf 3 (.placed 20 .queued)).lines.contains n) = [3] := by decide

/-- A TICKET-STATE from peer 20 about a ticket of this home. -/
def stateFrame (ticket : Nat) (r : Report) : Frame := { frameOf Kind.ticketState 0 (eReportPayload 10 ticket false r) with dest := 127 }

theorem test_PlacementReportsMoveTheTicket_met :
    (∀ r ∈ [Report.state .fired, .state .ready, .state .collected, .state .uncollected, .state .voided, .voids true [3]],
      requestReady Kind.ticketState .till (stateFrame 3 r) [] (hearing (stateFrame 3 r) day) = true) ∧
    rTicketState.exact (stateFrame 3 (.state .fired)).payload = some ⟨10, 3, 0, 0, 0, []⟩ ∧
    rTicketState.exact (stateFrame 5 (.state .fired)).payload = some ⟨10, 5, 0, 0, 0, []⟩ ∧
    rTicketState.exact (stateFrame 3 (.state .voided)).payload = some ⟨10, 3, 0, 0, 4, []⟩ ∧
    rTicketState.exact (stateFrame 3 (.voids true [3])).payload = some ⟨10, 3, 0, 1, 0, [3]⟩ ∧
    findTicket day 3 = some (ticketOf 3 (.placed 20 .queued)) ∧ findTicket day 5 = some (ticketOf 5 (.placed 20 .ready)) := by decide

theorem test_PlacementReportsMoveTheTicket_frames :
    (let f := { stateFrame 3 (.voids false [3]) with payload := e1 20 ++ e2 3 ++ e1 0 ++ e1 1 ++ e1 1 ++ eList e1 [3] }
     requestReady Kind.ticketState .till f [] (hearing f day) = true ∧ rTicketState.exact f.payload = some ⟨20, 3, 0, 1, 1, [3]⟩) ∧
    (let f := { stateFrame 3 (.voids false [3]) with payload := e1 10 ++ e2 3 ++ e1 2 ++ e1 1 ++ e1 1 ++ eList e1 [3] }
     requestReady Kind.ticketState .till f [] (hearing f day) = true ∧ rTicketState.exact f.payload = some ⟨10, 3, 2, 1, 1, [3]⟩) ∧
    isStation (own day) = true := by decide

theorem test_PlacementReportsMoveTheTicket_records :
    findTicket day 9 = none ∧ findTicket day 2 = some (ticketOf 2 (.offered 20)) ∧
    (findTicket (placeTicket ownVoid (ticketOf 2 (.offered 20)) 20 none true day) 2).map (·.state) = some (.placed 20 .queued) ∧
    findTicket (placeTicket ownVoid { ticketOf 2 (.offered 20) with lines := [10] } 20 none true
      { day with router := { day.router with tickets := [{ ticketOf 2 (.offered 20) with lines := [10] }] } }) 2 = none ∧
    20 ∈ ({ ticketOf 1 .pending with tried := [20] } : Ticket).tried ∧ findTicket day 7 = some (ticketOf 7 (.placed 30 .queued)) ∧
    30 ∉ (ticketOf 1 .pending).tried ∧ 30 ∉ (ticketOf 1 .pending).stray ∧
    30 ∈ ({ ticketOf 1 .pending with stray := [30] } : Ticket).stray := by decide

theorem test_RouterChoosesTheBestKitchen_met :
    chooseKitchen day (ticketOf 1 .pending) = some 10 ∧ chooseKitchen day { ticketOf 1 .pending with tried := [10, 20] } = none := by
  decide

theorem test_KitchenMovesTickets_met :
    jobReady (.fire 1) .kitchen day = true ∧ day.kitchen.byRef 1 = some (.queued, kticketOf 1 20 1) ∧
    day.kitchen.fired.length < day.cfg.fireLimit ∧ jobReady (.ready 2) .kitchen day = true ∧
    day.kitchen.byRef 2 = some (.fired, kticketOf 2 10 4) ∧ jobReady (.collect 3) .kitchen day = true ∧
    day.kitchen.byRef 3 = some (.ready, kticketOf 3 20 9) ∧ (kticketOf 1 20 1).home ≠ own day ∧ (kticketOf 2 10 4).home = own day ∧
    ({ kticketOf 2 10 4 with orphan := true } : KTicket).orphan = true ∧ (kticketOf 1 20 1).warnTimer.isSome = true ∧
    (kticketOf 1 20 1).lateTimer.isSome = true ∧ (kticketOf 3 20 9).collectTimer.isSome = true := by decide

theorem test_KitchenVoidsLines_met :
    jobReady (.kitchenVoid 1 [1]) .kitchen day = true ∧ jobReady (.kitchenVoid 2 []) .kitchen day = true ∧
    (∀ n ∈ [1], ∃ l ∈ (kticketOf 1 20 1).lines, l.line = n ∧ l.void = none) ∧
    (let f := frameOf Kind.ticketVoid 3 (e2 1 ++ eList e1 [1, 2, 3, 4, 5, 6, 7, 8])
     requestReady Kind.ticketVoid .kitchen f [] (hearing f day) = true ∧
     rTicketVoid.exact f.payload = some (1, [1, 2, 3, 4, 5, 6, 7, 8]) ∧
     day.kitchen.byKey f.source 1 = some (.queued, kticketOf 1 20 1)) ∧
    (kticketOf 1 20 1).home ≠ own day ∧ [1].Nodup := by decide

/-- An offer of one line of item 102. -/
def offer : Offer := ⟨77, 1, 0, 0, [⟨1, 102, 2, []⟩]⟩

theorem test_KitchenTakesTickets_met :
    (let f := frameOf Kind.ticket 3 (eOfferPayload offer)
     requestReady Kind.ticket .kitchen f [] (hearing f day) = true ∧ rOffer.exact f.payload = some offer ∧
     day.kitchen.byKey f.source offer.ticket = none) ∧
    offer.prep ∈ day.cfg.prep ∧ offer.inRange = true ∧ day.kitchen.all.length < 48 ∧
    (∀ p ∈ day.portions, ((offer.lines.filter (·.item == p.item)).map (·.qty)).sum ≤ p.remaining) ∧
    (∀ t ∈ day.kitchen.all, t.ref ≠ 4) ∧ (∀ m, m < 4 → 1 ≤ m → ∃ t ∈ day.kitchen.all, t.ref = m) ∧
    (let f := frameOf Kind.ticketQuery 3 (e2 9)
     requestReady Kind.ticketQuery .kitchen f [] (hearing f day) = true ∧ Reader.n2.exact f.payload = some 9 ∧
     day.kitchen.byKey f.source 9 = some (.ready, kticketOf 3 20 9)) := by decide

theorem test_StepKeepsKitchenSound_met : KitchenSound day ∧ ∃ t, step day = .next t := ⟨by constructor <;> decide, _, rfl⟩

theorem test_RefillReloadRecount_met :
    101 ≤ 4095 ∧ findPortion day 101 = some ⟨101, 5, 1, 2, 8, 10, 3, 0, 0, false⟩ ∧ jobReady (.refill 101 9999) .kitchen day = true ∧
    jobReady (.reloadToPreset 101) .kitchen day = true ∧ jobReady (.recount 101 0) .kitchen day = true := by decide

theorem test_PortionAndStockRecords_met :
    jobReady (.load 4095 9999 999) .kitchen day = true ∧ findPortion day 4095 = none ∧ day.portions.length < 64 ∧
    findPortion day 101 = some ⟨101, 5, 1, 2, 8, 10, 3, 0, 0, false⟩ ∧ jobReady (.remove 101) .kitchen day = true ∧
    findPortion { day with portions := [⟨101, 5, 0, 3, 8, 10, 3, 0, 0, false⟩] } 101 = some ⟨101, 5, 0, 3, 8, 10, 3, 0, 0, false⟩ ∧
    readReady (.readPortions (some 101)) (some .kitchen) day = true ∧
    (let f := { frameOf Kind.stock 0 (eStockPayload 4095 .out 9999) with dest := 127 }
     frameReady Kind.stock f [] (hearing f day) = true ∧ rStock.exact f.payload = some ⟨4095, 2, 9999⟩ ∧ listening day = true ∧
     hasRole day .till = true) ∧
    32 ≤ (List.replicate 32 (⟨101, 20, .out, 0, 0⟩ : StockEntry)).length := by decide

theorem test_StepKeepsPortionsBalanced_met : PortionsBalance day ∧ ∃ t, step day = .next t := by
  refine ⟨⟨by constructor <;> decide, by decide, by decide, by decide, by decide, by decide, by decide, by decide, by decide, by decide,
    by decide, ?_⟩, _, rfl⟩
  decide

/-- Lane A in another receiver state. -/
def laneA (r : Receiver) (s : State) : State := { s with link := { s.link with a := r } }

theorem test_LaneRowsMoveReceivers_met :
    hearsPeers day = true ∧ hearsPeers State.reset = true ∧ (State.reset.link.rx .A).state = .down ∧ (day.link.rx .A).state = .locked ∧
    (day.link.rx .A).silence.isSome = true ∧ ((laneA { Receiver.reset with state := .stuck } day).link.rx .A).state = .stuck ∧
    commandTaken (.laneRestart 0) day = true ∧ commandTaken (.laneRestart 1) day = true ∧ day.station.state ≠ .loopback ∧
    (day.link.rx .A).state ≠ .hunt ∧
    ((laneA { Receiver.reset with state := .hunt } (inState day .isolated)).link.rx .A).state ≠ .locked := by decide

/-- A CLAIM from peer 20 to this station, as lane A carries it. -/
def claimBits : List Bool := wireBits .A 20 0 ⟨Kind.claim, 10, 3, e2 2 ++ e1 1⟩

theorem test_FrameEndsAtTheReceiver_met :
    hearsPeers day = true ∧ receive [] = none ∧ (receive claimBits).map (·.frame) = some (frameOf Kind.claim 3 (e2 2 ++ e1 1)) ∧
    (receive claimBits).map (·.tag) = (day.link.rx .A).tagSeen ∧ (day.link.rx .A).state = .locked ∧ day.link.miswired .A = false ∧
    (day.link.rx .B).window = none ∧ inService day = true ∧ findPeer day 20 = some (peerOf 20 .present) ∧ isStation 20 = true ∧
    day.rx.length < 16 ∧ deliverable (frameOf Kind.claim 3 (e2 2 ++ e1 1)) = true ∧ 1 + 1 ≥ shop.lockCount ∧ 0 + 1 < shop.lockCount := by
  decide +kernel

/-- A beacon from a station of no entry, and one from LOST peer 30, as lane A carries them. -/
def beaconBits (source joinAge : Nat) : List Bool := wireBits .A source 0 ⟨Kind.beacon, 127, 0, beaconOf 500 joinAge 0⟩

theorem test_FrameEndsAtTheReceiver_sources :
    hearsPeers (inState day .loopback) = false ∧ (receive (beaconBits 40 9)).map (·.frame.source) = some 40 ∧
    (receive (beaconBits 30 9)).map (fun r => (rBeacon.exact r.frame.payload).map (·.joinAge)) = some (some 9) ∧
    findPeer day 40 = none ∧ findPeer day 30 = some (peerOf 30 .lost) ∧ isStation 40 = true ∧ isStation 0 = false ∧
    inService (inState day .joining) = false ∧ (inState day .joining).station.state = .joining ∧ 138 % 128 = own day ∧
    (receive (beaconBits 20 9)).map (·.frame.source) = some 20 ∧ (findPeer day 20).bind (·.joinAge) = some 10 ∧
    (receive claimBits).map (·.frame.kind) = some Kind.claim ∧ Kind.claim ≠ Kind.beacon ∧
    ({ day.link.rx .B with window := some 5 } : Receiver).window = some 5 := by decide +kernel

theorem test_FrameEndsAtTheReceiver_tags :
    (modRx .A (fun x => { x with tagSeen := some .A }) day).link.tagStatus = day.link.tagStatus ∧
    (modRx .A (fun x => { x with tagSeen := some .B }) day).link.tagStatus ≠ day.link.tagStatus ∧
    (laneA { lockedRx .B with badRun := 3 } day).link.miswired .A = true := by decide

/-- R137 and R155: what the cable carried ends with either Loopback move, and with a frame's end while peers are not heard. -/
theorem test_carrying_ends :
    let carried := laneA { lockedRx .A with carrying := true } (inState quiet .configured)
    after .loopbackOn carried (fun t => t.link.a.carrying) = some false ∧
    after .loopbackOff (inState carried .loopback) (fun t => t.link.a.carrying) = some false ∧
    after (.laneFrameEnd .A []) (inState carried .loopback) (fun t => t.link.a.carrying) = some false := by decide +kernel

theorem test_TransmitterWorksTheQueue_met :
    let waiting := { day with tx := ⟨[slotOf Kind.add, slotOf Kind.answer, slotOf Kind.claim], [], 0⟩ }
    waiting.tx.slots = [slotOf Kind.add] ++ slotOf Kind.answer :: [slotOf Kind.claim] ∧
    (∀ y ∈ [slotOf Kind.add] ++ [slotOf Kind.claim], y.onWire = false) ∧ (slotOf Kind.answer).onWire = false ∧
    (∀ y ∈ [slotOf Kind.add], kindClass Kind.answer < kindClass y.frame.kind) ∧
    (∀ y ∈ [slotOf Kind.claim], kindClass Kind.answer ≤ kindClass y.frame.kind) ∧ watchedLanes waiting = [.A, .B] ∧
    (∀ l ∈ watchedLanes waiting, (waiting.link.rx l).carrying = false) ∧
    ({ slotOf Kind.answer with onWire := true, faults := 3 } : Slot).onWire = true := by decide

theorem test_StepKeepsCapacities_met : CapacitiesHold day ∧ ∃ t, step day = .next t := by
  refine ⟨?_, _, rfl⟩
  constructor
  case directory => exact day_directory_sound
  case loads =>
    have h : ∀ p ∈ day.dir.entries, p.load = some ⟨0, false, 0, 0⟩ := by decide
    intro p hp l hl
    rw [h p hp] at hl
    cases hl
    exact ⟨by decide, by decide, by decide⟩
  case accums => unfold Accums.inRange; decide
  case captures => rintro c (h | h) <;> exact absurd h (by simp [day, State.resetWith, Takings.reset])
  all_goals decide

theorem test_StepKeepsKeysDistinct_met : KeysDistinct day ∧ ∃ t, step day = .next t := ⟨by constructor <;> decide, _, rfl⟩

/-- The same station with its engine at work on tab 6. -/
def splitting : State :=
  { day with
    tabs := [tabOf 2 .split [lineOf 1 .handed none] (some (splitOf [shareOf 1 500 .available 0, shareOf 2 580 .claimed 20])),
      tabOf 6 .splitting [lineOf 1 .handed none] none]
    engine := some ⟨6, .local, false, 2, [⟨1, 1000, 0, [1, 2], false⟩]⟩ }

theorem test_StepKeepsSplitsSound_met : SplitsSound splitting ∧ ∃ t, step splitting = .next t := by
  refine ⟨⟨by decide, by decide, ?_, ?_, ?_, ?_, ?_, ?_⟩, _, rfl⟩ <;>
    simp [splitting, tabOf, Tab.recompute, Tab.splitFits, splitOf, shareOf, Share.sound, EngineJob.valid, shareNumbers, isStation,
      List.range_succ]

/-! ## One step each, by hand from the rules -/

/-- Result and data of the answer a command leaves. -/
def answerOf (s : State) : Option (Result × Bytes) := s.port.answer.map fun a => (a.result, a.data)

/-- R2, R7: the lowest number free of 1..64 is 6. -/
theorem test_open_takes_lowest_number : after (.openTab [65#8]) day answerOf = some (some (.OK, [10#8, 0#8, 6#8])) := by decide +kernel

/-- R40: a granted claim answers with the share's amount, 500. -/
theorem test_claim_grants : after (.claim 10 2 1) day answerOf = some (some (.GRANTED, [0#8, 2#8, 1#8, 0#8, 0#8, 1#8, 244#8])) := by
  decide +kernel

/-- R43: the last share's settlement closes the tab and TAB_CLOSED tells it. -/
theorem test_last_settlement_closes :
    after (.settle 10 4 1 0) day (fun t => ((findTab t 4).map (·.state), t.port.money)) =
      some (some .closed, [.tabClosed 10 4 .paid]) := by decide +kernel

/-- R28 to R32: a line of 1000 taxed at 8 per cent and split in two makes two shares of 540. -/
theorem test_completion_strikes :
    after .splitCompletion splitting (fun t => t.port.money) =
      some [.splitStruck 6 2 1080 [(540, false), (540, false)] .split] := by decide +kernel

/-- R39: a peer's claim that expires is told by CLAIM-END with reason EXPIRED. -/
theorem test_expired_claim_is_told :
    after (.holdTimerExpiry 2 3) { quiet with tabs := day.tabs } (fun t => t.tx.slots.map (·.frame)) =
      some [⟨Kind.claimEnd, 20, 0, [0#8, 2#8, 3#8, 0#8]⟩] := by decide +kernel

/-- R103: a fired ticket's portion passes from held to used. -/
theorem test_fire_uses_the_portion :
    after (.fire 1) { quiet with kitchen := day.kitchen, portions := day.portions }
      (fun t => (t.portions.map fun p => (p.remaining, p.held, p.used), t.kitchen.fired.map (·.ref))) =
      some ([(5, 0, 3)], [2, 1]) := by decide +kernel

/-- R150, R152: a good frame of a LOCKED lane for this station joins the receive queue. -/
theorem test_frame_is_received : after (.laneFrameEnd .A claimBits) quiet (fun t => t.rx) = some [frameOf Kind.claim 3 (e2 2 ++ e1 1)] := by
  decide +kernel

/-- R65, R131: a peer whose silence timer runs out goes LOST and its stock entries go. -/
theorem test_silence_loses_the_peer :
    after (.silenceTimerExpiry 20) { quiet with stock := day.stock }
      (fun t => (t.dir.entries.map (·.presence), t.dir.lostOrder, t.stock, t.port.peers)) =
      some ([.lost, .lost], [30, 20], [], [.peerLost 20 true true]) := by decide +kernel

/-- R56, R58: the PERIOD pin takes period 0 to 1, captures it in slot 1 and locks out for 2000 ms. -/
theorem test_period_pin_captures :
    after .periodPinEdge quiet (fun t => (t.takings.period, t.takings.slot1.map fun c => (c.first, c.last), t.takings.lockout)) =
      some (1, some (0, 0), some 2000) := by decide +kernel

/-- R172: the bytes of Status are taken whole, and the next step with nothing waiting carries it out. -/
theorem test_port_takes_status :
    after (.portTransaction [1#8, 0#8]) quiet (fun t => (busy t, after .status t (fun u => (busy u, u.port.answer.isSome)))) =
      some (true, some (false, true)) := by decide +kernel

/-! ## The hypotheses of the statements' refusals and figures are met -/

/-- The same station with every notice queue full. -/
def flooded : State :=
  { day with
    port :=
      { day.port with
        link := List.replicate 8 (.tagStatus .crossed)
        money := List.replicate 16 (.captureDeferred 3)
        kitchen := List.replicate 24 (.ticketReady 1 1)
        peers := List.replicate 8 (.peerReturned 20) } }

/-- R174 by hand: the first and last kinds of the four rows of the table, and the full and the empty queue of each. -/
theorem test_NoticesMaskAndPages_posting :
    ([.stationState .online none, .txFaultDiscard 1 2, .tabClosed 10 1 .paid, .captureDeferred 3, .addResult ⟨20, 16, 0, 5, 0, 1, []⟩,
      .portionLow 101 1, .peerLost 20 true true, .peersFull 20] : List Notice).map (fun n => (n.code, n.level)) =
      [(1, .link), (4, .link), (5, .money), (18, .money), (20, .kitchen), (39, .kitchen), (40, .peers), (44, .peers)] ∧
    [Kind.claim, Kind.ticket].map (fun k => (Notice.lateAnswer ⟨20, k, 0, 5, 0, 1, []⟩).level) = [.money, .kitchen] ∧
    (8 ≤ flooded.port.link.length ∧ 16 ≤ flooded.port.money.length ∧ 24 ≤ flooded.port.kitchen.length ∧ 8 ≤ flooded.port.peers.length) ∧
    (day.port.link.length < 8 ∧ day.port.money.length < 16 ∧ day.port.kitchen.length < 24 ∧ day.port.peers.length < 8) ∧
    (post (.peersFull 30) flooded).port.overflow = ⟨false, false, false, true⟩ ∧
    attn day = false ∧ attn (post (.peerReturned 20) day) = true ∧
    attn { flooded with port := { flooded.port with mask := ⟨false, false, false, false⟩ } } = false := by decide +kernel

/-- R135 and R136 by hand: without the KITCHEN role its parameters are not taken; with it, an auto-fire of 2 is on and CLAMPED. -/
theorem test_ConfiguredValuesAreClamped_roles :
    let q := { configReq with fireLimit := some 99, autoFire := some 2 }
    configReq.roles.getLsbD 1 = true ∧ ({ q with roles := 1#8 } : ConfigReq).roles.getLsbD 1 = false ∧
    ((configured (withoutKitchen q)).autoFire, clampedAny (withoutKitchen q) (configured (withoutKitchen q))) = (true, true) ∧
    (let r := withoutKitchen { q with roles := 1#8 }
     ((configured r).autoFire, (configured r).fireLimit, (configured r).prep, clampedAny r (configured r)) = (false, 6, [], false)) := by
  decide

/-- A tab the engine computes a split of beside the tabs of the day, which fill the store up to the number given. -/
def crowdedTabs (n : Nat) : State :=
  { day with tabs := day.tabs ++ [tabOf 6 .splitting [lineOf 1 .handed none] none] ++ (List.range n).map fun i => tabOf (7 + i) .open [] none }

theorem test_OpenAndReleaseTabs_refused :
    jobReady (.openTab []) .till (crowdedTabs 58) = true ∧ 64 ≤ (crowdedTabs 58).tabs.length ∧ day.tabs.length < 64 ∧
    (∃ b ∈ ([31#8] : Bytes).take 8, b.toNat < 32 ∨ 126 < b.toNat) ∧ jobReady (.release 9) .till day = true ∧ findTab day 9 = none ∧
    tabA.state ≠ .closed ∧ (findTab day 3).map (·.state) = some .closed ∧
    (∃ k ∈ [{ ticketOf 9 .unrouted with tab := 3 }], k.tab = 3) := by decide

/-- The four states of a tab, in which Add, Line void, Split, Claim, Settle and Send are refused. -/
theorem test_refused_by_tab_state :
    [1, 2, 3, 6, 9].map (fun n => (findTab (crowdedTabs 0) n).map (·.state)) =
      [some .open, some .split, some .closed, some .splitting, none] ∧
    jobReady (.send 6) .till (crowdedTabs 0) = true ∧ jobReady (.lineVoid 10 6 1) .till (crowdedTabs 0) = true ∧
    jobReady (.tabVoid 6) .till (crowdedTabs 0) = true ∧ jobReady (.add 10 6 [] 0) .till (crowdedTabs 0) = true ∧
    jobReady (.split 10 6 2 []) .till (crowdedTabs 0) = true ∧ jobReady (.withdraw 10 6) .till (crowdedTabs 0) = true ∧
    jobReady (.claim 10 6 1) .till (crowdedTabs 0) = true ∧ jobReady (.settle 10 6 1 0) .till (crowdedTabs 0) = true ∧
    jobReady (.releaseShare 10 6 1) .till (crowdedTabs 0) = true := by decide

/-- The frames of a tab's requests are ready whatever they ask for. -/
theorem test_refused_frames :
    [(Kind.add, eAddPayload 6 0 []), (Kind.lineVoid, e2 6 ++ e1 1), (Kind.split, eSplitPayload 6 2 []), (Kind.withdraw, e2 6),
      (Kind.claim, e2 6 ++ e1 1), (Kind.settle, e2 6 ++ e1 1 ++ e1 3), (Kind.release, e2 6 ++ e1 1)].all
        (fun r => let f := frameOf r.1 3 r.2; requestReady r.1 .till f [] (hearing f (crowdedTabs 0))) = true := by decide

/-- The tests of R8 after those on the tab's state: the ranges, the room for 48 lines, a sold-out line behind one that is not. -/
theorem test_AddAppendsLines_refused :
    [[], [{ lineReq with qty := 0 }], [{ lineReq with item := 4096 }]].all (fun l => l.all lineOffered && !l.isEmpty) = false ∧
    48 < (tabOf 1 .open ((List.range 48).map fun i => lineOf (i + 1) .handed none) none).lines.length + 1 ∧
    (let s := { day with portions := [⟨101, 0, 1, 7, 8, 10, 3, 0, 0, false⟩] }
     soldOut s { lineReq with item := 102 } = false ∧ soldOut s lineReq = true) := by decide

theorem test_VoidsLeaveTheCharge_refused :
    tabA.line 11 = none ∧ (tabA.line 10).map (·.state) = some .void ∧
    (∃ sp, tabB.split = some sp ∧ ∃ sh ∈ sp.shares, sh.state = .settled) ∧
    (∃ sp, tabD.split = some sp ∧ (∀ sh ∈ sp.shares, sh.state ≠ .settled) ∧ ∃ sh ∈ sp.shares, sh.state = .claimed) :=
  ⟨by decide, by decide, ⟨_, rfl, by decide⟩, ⟨_, rfl, by decide, by decide⟩⟩

/-- The tests of R24 on an OPEN tab: the ranges, no charged line, a VOID or repeated line, no sharer or one beyond N, a busy engine. -/
theorem test_SplitAndWithdraw_refused :
    ¬(1 ≤ 0 ∧ 0 ≤ 8) ∧ (∃ l ∈ tabA.lines, l.state.charged = true) ∧ (∀ l ∈ [lineOf 10 .void none], l.state.charged = false) ∧
    (tabA.line 10).map (·.state.charged) = some false ∧ (tabA.line 9).map (·.state.charged) = some true ∧ tabA.line 11 = none ∧
    (∃ x ∈ [(⟨9, 1#8⟩ : SplitEntry)], x.line = 9) ∧ membersOf 1 0#8 = [] ∧ (∃ n ∈ membersOf 1 255#8, 2 < n) ∧
    (membersOf 1 3#8 ≠ [] ∧ ∀ n ∈ membersOf 1 3#8, n ≤ 2) ∧
    ({ day with engine := some (jobOf 1000 .local false) } : State).engine.isSome = true := by decide

theorem test_ClaimAndReleaseShare_refused :
    (tabB.split.bind (·.share 9)) = none ∧ (tabB.split.bind (·.share 4)).map (·.state) = some .settled ∧
    (shareOf 3 200 .claimed 20).claimant ≠ own day ∧ (shareOf 1 500 .available 0).state = .available ∧
    (tabOf 3 .closed [] none).split = none ∧
    (tabOf 7 .closed [] (some (splitOf [shareOf 1 1080 .settled 0]))).split = some (splitOf [shareOf 1 1080 .settled 0]) := by decide

/-- Share 4 of tab 2 was settled by this station, so a Settle of it is a repeated one here and refused SETTLED to peer 20 (R41). -/
theorem test_SettleTakesTheMoney_refused :
    (tabB.split.bind (·.share 4)) = some (shareOf 4 80 .settled 0) ∧ (shareOf 4 80 .settled 0).settlement = some ⟨.card, 80, 10⟩ ∧
    own day = 10 ∧ (∀ p, (shareOf 4 80 .settled 0).settlement = some p → p.station ≠ 20) ∧ jobReady (.settle 10 2 4 0) .till day = true ∧
    (let f := { frameOf Kind.settle 3 (e2 2 ++ e1 4 ++ e1 0) with source := 10 }
     requestReady Kind.settle .till f [] (hearing f day) = true) ∧
    after (.settle 10 2 4 0) { day with router := quiet.router } (fun t => (answerOf t, t.takings)) =
      some (some (.OK, e2 2 ++ e1 4 ++ e4 80 ++ e1 1 ++ e4 80 ++ e4 0), day.takings) := by
  refine ⟨by decide, by decide, by decide, ?_, by decide, by decide, by decide +kernel⟩
  rintro p ⟨rfl⟩
  decide

/-- R55 at the ends of the ranges. -/
theorem test_SettleTakesTheMoney_figures :
    let s := { day with takings := { day.takings with accums := { day.takings.accums with
      cashAmount := ⟨4294967290, false⟩, rounding := ⟨2147483646, false⟩ } } }
    let a := (countSettlement .cash 4 0 s).takings.accums
    let b := (countSettlement .cash 5 1 s).takings.accums
    (a.cashAmount, a.rounding, b.cashAmount, b.rounding) =
      (⟨4294967294, false⟩, ⟨2147483646, false⟩, ⟨4294967295, true⟩, ⟨2147483647, true⟩) := by decide

/-- The eight entries of a full exchange table. -/
def exchangesFull : State := { day with exch := ⟨(List.range 8).map fun i => ⟨i, Kind.tabQuery, 20, 5, 0, .command, some 300⟩, 8⟩ }

theorem test_RemoteRequestsStart_refused :
    jobReady (.query 20 5) .till (inState day .isolated) = true ∧ jobReady (.query 30 5) .till day = true ∧ isLost day 30 = true ∧
    isStation 30 = true ∧ 30 ≠ own day ∧ 8 ≤ exchangesFull.exch.entries.length ∧ isLost exchangesFull 20 = false ∧
    jobReady (.claim 20 6 1) .till exchangesFull = true ∧ claimTests 20 6 1 exchangesFull = none ∧
    (findClaim exchangesFull 20 5 1).map (·.state) = some .held ∧ findClaim day 20 6 1 = none ∧
    8 ≤ ([1, 2, 3, 4, 5, 6, 7, 8].map fun n => (⟨20, 5, n, 900, some 9000, .held, none⟩ : ClaimEntry)).length + 0 ∧
    (findClaim day 20 5 2).map (·.state) = some .settling ∧ jobReady (.settle 20 6 1 0) .till day = true ∧
    jobReady (.settle 20 5 1 3) .till day = true ∧ jobReady (.releaseShare 20 6 1) .till day = true := by decide

theorem test_KitchenMovesTickets_refused :
    jobReady (.fire 9) .kitchen day = true ∧ jobReady (.ready 9) .kitchen day = true ∧ jobReady (.collect 9) .kitchen day = true ∧
    day.kitchen.byRef 9 = none ∧ [1, 2, 3].map (fun n => (day.kitchen.byRef n).map (·.1)) = [some .queued, some .fired, some .ready] ∧
    ({ day with cfg := { day.cfg with fireLimit := 1 } } : State).cfg.fireLimit ≤ day.kitchen.fired.length := by decide

/-- R103 and R122 by hand: a line that took 2 portions and one that took none, returned and wasted. -/
theorem test_KitchenMovesTickets_figures :
    let lines : List KLine := [⟨1, 101, 2, [], none, true⟩, ⟨2, 101, 7, [], none, false⟩]
    [Portion.take, Portion.fire, Portion.giveBack, Portion.addWaste].map (fun f =>
        (transferAll f lines day).portions.map fun p => (p.remaining, p.held, p.used, p.loaded, p.waste)) =
      [[(3, 3, 2, 8, 0)], [(5, 0, 4, 8, 0)], [(7, 0, 2, 8, 0)], [(5, 1, 2, 8, 2)]] ∧
    (countWaste 3 day).takings.accums.wastePortions = ⟨3, false⟩ := by decide

theorem test_KitchenVoidsLines_refused :
    jobReady (.kitchenVoid 9 [1]) .kitchen day = true ∧ day.kitchen.byRef 9 = none ∧
    day.kitchen.byRef 3 = some (.ready, kticketOf 3 20 9) ∧ 8 < [1, 1, 1, 1, 1, 1, 1, 1, 1].length ∧
    (∃ l ∈ (kticketOf 1 20 1).lines, l.line = 1 ∧ l.void = none) ∧ ¬(∃ l ∈ (kticketOf 1 20 1).lines, l.line = 2 ∧ l.void = none) ∧
    day.kitchen.byKey 20 5 = none ∧
    [[1, 1, 1, 1, 1, 1, 1, 1, 1], [1]].all (fun l =>
      let f := frameOf Kind.ticketVoid 3 (e2 5 ++ eList e1 l)
      requestReady Kind.ticketVoid .kitchen f [] (hearing f day)) = true := by decide

/-- Each answer of R100 and R101 that changes nothing: repeated, not served, out of range, full, sold out. -/
theorem test_KitchenTakesTickets_refused :
    let ask := fun (o : Offer) (s : State) => (takeOffer ownReport noAnswer 20 o s).1
    (day.kitchen.byKey 20 1 = some (.queued, kticketOf 1 20 1) ∧ ask { offer with ticket := 1 } day = ⟨.ACCEPT, [1#8, 2#8]⟩) ∧
    (5 ∉ day.cfg.prep ∧ ask { offer with prep := 5 } day = .bare .NOT_SERVED) ∧
    [{ offer with tab := 1000 }, { offer with lines := [] }, { offer with lines := offer.lines ++ offer.lines },
      { offer with rush := 2 }].all (fun o => decide (ask o day = .bare .BAD_PARAM)) = true ∧
    (let s := { day with kitchen := { day.kitchen with queued := (List.range 46).map fun i => kticketOf (4 + i) 20 (100 + i) } }
     48 ≤ s.kitchen.all.length ∧ ask offer s = .bare .FULL) ∧
    (findPortion day 101).map (·.remaining) = some 5 ∧
    ask { offer with lines := [⟨1, 101, 3, []⟩, ⟨2, 101, 3, []⟩] } day = ⟨.SOLD_OUT, [0#8, 101#8]⟩ ∧
    day.kitchen.byKey 20 77 = none ∧
    (let f := frameOf Kind.ticketQuery 3 (e2 77)
     requestReady Kind.ticketQuery .kitchen f [] (hearing f day) = true) ∧
    [1, 2].map day.kitchen.position = [1, 0] := by decide

/-- R109 and R105 by hand: the flag turns at its marks, and auto-fire fires the head while the fired list has room. -/
theorem test_KitchenTakesTickets_hold_and_auto_fire :
    (let s := fun (hold : Bool) (mark release : Nat) =>
       { day with cfg := { day.cfg with holdMark := mark, releaseMark := release }, kitchen := { day.kitchen with hold := hold } }
     [holdTest (s false 3 1), holdTest (s false 2 1), holdTest (s true 3 1), holdTest (s true 3 2)].map (fun t =>
         (t.kitchen.hold, t.port.kitchen)) =
       [(false, []), (true, [.kitchenHold true 2]), (true, []), (false, [.kitchenHold false 2])]) ∧
    (let s := { quiet with
       cfg := { day.cfg with autoFire := true, fireLimit := 3 }
       kitchen := { day.kitchen with queued := [kticketOf 1 20 1, kticketOf 4 20 2, kticketOf 5 20 3] } }
     let t := autoFire ownReport s
     (t.kitchen.queued.map (·.ref), t.kitchen.fired.map (·.ref)) = ([5], [2, 1, 4])) := by decide

theorem test_PeriodsAdvanceAndCapture_full_slots :
    let c : Capture := ⟨0, 0, false, .zero⟩
    let one := { day with takings := { day.takings with slot1 := some c } }
    let two := { day with takings := { day.takings with slot1 := some c, slot2 := some c } }
    day.takings.period < 1 ∧ inService one = true ∧ one.takings.slot1.isSome = true ∧ one.takings.slot2 = none ∧
    two.takings.slot1.isSome = true ∧ two.takings.slot2.isSome = true ∧ inService (inState day .configured) = false ∧
    (inState day .configured).station.state ≠ .joining ∧
    (heardPeriod 7 one).takings.slot2 = some ⟨0, 0, false, .zero⟩ ∧ (heardPeriod 7 two).takings.deferral = true := by decide

/-- The station in LOOPBACK with one frame for the destination on the wire. -/
def looping (kind dest : Nat) : State :=
  { inState quiet .loopback with
    tx := ⟨[{ slotOf kind with frame := ⟨kind, dest, 7, [1#8]⟩, begun := true, onWire := true }], [.A, .B], 0⟩
    link := { quiet.link with a := { lockedRx .A with tagSeen := none } } }

theorem test_TransmitterWorksTheQueue_loopback :
    (looping Kind.test 10).tx.slots = [] ++ { slotOf Kind.test with frame := ⟨Kind.test, 10, 7, [1#8]⟩, begun := true, onWire := true } :: [] ∧
    own (looping Kind.test 10) < 128 ∧ (looping Kind.test 10).link.a.tagSeen = none ∧ (looping Kind.test 10).link.b.tagSeen = some .B ∧
    (looping Kind.test 10).link.a.window = none ∧ (looping Kind.test 10).link.b.state = .locked ∧ 10 % 128 = own day ∧
    127 % 128 = 127 ∧ ¬(20 % 128 = own day ∨ 20 % 128 = 127) ∧ (looping Kind.test 10).rx.length < 16 ∧
    16 ≤ (List.replicate 16 (frameOf Kind.test 0 [])).length ∧
    ({ slotOf Kind.test with faults := 2 } : Slot).faults < 3 ∧ 3 ≤ ({ slotOf Kind.test with faults := 3 } : Slot).faults := by decide

/-- Every kind of frame but TEST and ANSWER can wait at the head of the receive queue in LOOPBACK. -/
theorem test_TransmitterWorksTheQueue_discards :
    [(Kind.beacon, beaconOf 500 9 0), (Kind.period, e1 1), (Kind.stock, eStockPayload 101 .out 0), (Kind.add, eAddPayload 6 0 [lineReq]),
      (Kind.lineVoid, e2 6 ++ e1 1), (Kind.tabQuery, e2 6), (Kind.split, eSplitPayload 6 2 []), (Kind.withdraw, e2 6),
      (Kind.claim, e2 6 ++ e1 1), (Kind.settle, e2 6 ++ e1 1 ++ e1 0), (Kind.release, e2 6 ++ e1 1), (Kind.claimEnd, e2 6 ++ e1 1 ++ e1 1),
      (Kind.ticket, eOfferPayload offer), (Kind.ticketVoid, e2 1 ++ eList e1 [1]), (Kind.ticketQuery, e2 9),
      (Kind.ticketState, eReportPayload 10 3 false (.state .fired))].all (fun r =>
        let f := frameOf r.1 0 r.2
        frameReady r.1 f [] (hearing f (inState day .loopback))) = true := by decide

/-- R137 by hand: a TEST sent to this station's own number comes round once, and one broken off counts at both receivers, still LOCKED. -/
theorem test_loopback_frames :
    after .transmitComplete (looping Kind.test 10) (fun t => (t.rx, t.tx.slots, t.station.state, t.link.a.goodRun, t.link.b.goodRun)) =
      some ([⟨3, 0, 10, Kind.test, 10, 7, [1#8]⟩], [], .loopback, 1, 1) ∧
    after .transmitFault (looping Kind.test 10) (fun t => (t.rx, t.link.a.badRun, t.link.b.errors, t.link.b.state)) =
      some ([], 1, 1, .locked) := by decide +kernel

/-- A snapshot of two bytes holds no page at 2 or beyond, of no bytes or of more than 64. -/
theorem test_NoticesMaskAndPages_refused :
    readReady (.readPage 2 1) none day = true ∧ readReady (.readPage 0 0) none day = true ∧ readReady (.readPage 0 65) none day = true ∧
    day.port.snapshot = none ∧
    ({ day with port := { day.port with snapshot := some ⟨1, [0#8, 1#8]⟩ } } : State).port.snapshot = some ⟨1, [0#8, 1#8]⟩ ∧
    ([0#8, 1#8] : Bytes).length ≤ 2 := by decide

theorem test_ReadsAndQueriesAnswer_refused :
    findTab day 9 = none ∧ readReady (.readTab 9) (some .till) day = true ∧ jobReady (.query (own day) 9) .till day = true ∧
    (let f := frameOf Kind.tabQuery 3 (e2 9)
     requestReady Kind.tabQuery .till f [] (hearing f day) = true ∧ Reader.n2.exact f.payload = some 9 ∧ findTab (hearing f day) 9 = none) ∧
    [1, 2, 3].all (fun n => readReady (.readCapture n) none day && readReady (.releaseCapture n) none day) = true ∧
    day.takings.slot1 = none ∧ day.takings.slot2 = none ∧
    readReady .nextNew (some .kitchen) quiet = true ∧ (∀ t ∈ quiet.kitchen.all, t.unread = false) := by decide

/-- Each value beyond its range in turn, with the station number in and out of 1..126 (R135). -/
theorem test_ConfigureTakesItsValues_refused :
    commandTaken (.configure configReq) (State.resetWith false 0) = true ∧ (State.resetWith false 0).station.state = .offline ∧
    isStation (State.resetWith false 0).station.number = false ∧ isStation (State.resetWith false 127).station.number = false ∧
    isStation (State.resetWith false 1).station.number = true ∧
    [{ configReq with roles := 4#8 }, { configReq with rates := ⟨2501, 0, 0, 0⟩ }, { configReq with rates := ⟨0, 0, 0, 2501⟩ },
      { configReq with rounding := 2 }, { configReq with prep := 0#8 }].all
        (fun q => decide (after (.configure q) (State.resetWith false 1) (fun t => (answerOf t, t.station.state, t.cfg)) =
          some (some (.BAD_PARAM, []), .offline, StationCfg.reset))) = true := by decide

/-- R30 by hand: a tax of 10 over bases 1, 2 and 4 leaves 3/7, 6/7 and 5/7, so shares 2 and 3 get the units left over; a tax of 1 over two
equal bases goes to the lower share. -/
theorem test_DivisionsLoseNothing_remainders :
    taxAllocation 10 7 [1, 2, 4] = [1, 3, 6] ∧ [10 * 1 % 7, 10 * 2 % 7, 10 * 4 % 7] = [3, 6, 5] ∧ taxAllocation 1 2 [1, 1] = [1, 0] ∧
    taxAllocation 1 0 [0, 0] = [0, 0] := by decide

/-- R28 to R32 by hand: a line of 1001 in class 0 among two shares at 8 percent, and one of nothing. -/
theorem test_SharesSumToTheTotal_figures :
    (struckSplit 10 shop.rates (jobOf 1001 .local false)).shares.map (fun sh => (sh.bases.c0, sh.taxes.c0, sh.amount, sh.state)) =
      [(501, 40, 541, .available), (500, 40, 540, .available)] ∧
    (struckSplit 10 shop.rates (jobOf 0 .local false)).shares.map (fun sh => (sh.amount, sh.settlement)) =
      [(0, some ⟨.none, 0, 10⟩), (0, some ⟨.none, 0, 10⟩)] := by decide

/-- A transmit queue that refuses every request, with the exchange table free. -/
def linkFull : State := { day with tx := ⟨List.replicate 20 (slotOf Kind.add), [], 0⟩ }

theorem test_RemoteRequestsStart_link_busy :
    jobReady (.query 0 5) .till day = true ∧ isStation 0 = false ∧ isStation 127 = false ∧ 0 ≠ own day ∧
    jobReady (.query 20 5) .till linkFull = true ∧ isStation 20 = true ∧ isLost linkFull 20 = false ∧
    linkFull.exch.entries.length < 8 ∧ (∀ e ∈ linkFull.exch.entries, e.tag ≠ linkFull.exch.counter) ∧ 20 ≤ lowCount linkFull.tx.slots ∧
    (∀ x ∈ linkFull.tx.slots, ¬(kindClass x.frame.kind = 3 ∧ x.onWire = false)) ∧
    jobReady (.settle 20 5 1 0) .till linkFull = true ∧ (findClaim linkFull 20 5 1).map (·.state) = some .held ∧
    jobReady (.releaseShare 20 5 1) .till linkFull = true ∧ claimTests 20 6 1 linkFull = none := by decide

theorem test_RemoteRequestsStart_test_and_refresh :
    [day, inState day .isolated, exchangesFull, linkFull].all (fun s => commandTaken (.test 20 []) s && inService s) = true ∧
    32 < (List.replicate 33 0#8 : Bytes).length ∧ ¬(10 ≠ own day ∨ day.station.state = .loopback) ∧
    commandTaken (.test 20 []) (inState exchangesFull .loopback) = true ∧ 8 ≤ (inState exchangesFull .loopback).exch.entries.length ∧
    [day, inState day .isolated, exchangesFull, linkFull].all (fun s => jobReady (.refresh 3) .till s && jobReady (.refresh 7) .till s) = true ∧
    findTicket day 3 = some (ticketOf 3 (.placed 20 .queued)) ∧ findTicket day 7 = some (ticketOf 7 (.placed 30 .queued)) ∧
    isLost day 20 = false ∧ isLost day 30 = true ∧ 8 ≤ exchangesFull.exch.entries.length := by decide

/-- R121 by hand: a STOCK frame that is evicted or refused marks its item, and the next beacon has it reported again. -/
theorem test_resend_marks :
    let stock : OutFrame := ⟨Kind.stock, 127, 0, eStockPayload 101 .low 5⟩
    let claim : OutFrame := ⟨Kind.claim, 20, 0, []⟩
    let waiting : State := { day with tx := ⟨⟨stock, 0, 0, false, false⟩ :: List.replicate 19 (slotOf Kind.add), [], 0⟩ }
    let marked : State := { day with portions := [⟨101, 5, 1, 2, 8, 10, 3, 0, 0, true⟩] }
    stockItem stock = some 101 ∧ 20 ≤ lowCount waiting.tx.slots ∧
    ((sendFrame claim waiting).2.portions.map (·.resend), (sendFrame claim waiting).2.tx.dropped) = ([true], 1) ∧
    ((sendFrame stock linkFull).1, (sendFrame stock linkFull).2.portions.map (·.resend)) = (false, [true]) ∧
    ((genBeacon marked).portions.map (·.resend), (genBeacon marked).tx.slots.map (·.frame.kind)) =
      ([false], [Kind.beacon, Kind.stock]) := by decide

theorem test_PeerTimersExpire_generations :
    let waits : Slot := slotOf Kind.beacon
    let s : State := { day with tx := ⟨[slotOf Kind.add, waits], [], 0⟩ }
    (waits.frame.kind == Kind.beacon && !waits.begun) = true ∧ waits ∈ s.tx.slots ∧
    (∀ x ∈ day.tx.slots, (x.frame.kind == Kind.beacon && !x.begun) = false) ∧
    ([⟨101, 5, 1, 2, 8, 10, 3, 0, 0, true⟩, ⟨102, 5, 1, 2, 8, 10, 3, 0, 0, true⟩] : List Portion).Pairwise (·.item < ·.item) ∧
    ((genBeacon s).tx.slots.map (·.frame.kind), (genBeacon s).tx.slots.map (·.frame.payload.length)) =
      ([Kind.add, Kind.beacon], [0, (beaconPayload s).length]) := by decide

theorem test_RoutingCommandsComplete_refused :
    [1, 3, 4, 5, 9].all (fun n => jobReady (.retry n) .till day && jobReady (.refresh n) .till day && jobReady (.abandon n) .till day) = true ∧
    findTicket day 9 = none ∧ findTicket day 1 = some (ticketOf 1 .pending) ∧ (ticketOf 1 .pending).state ≠ .unrouted ∧
    (∀ k ks, (ticketOf 1 .pending).state ≠ .placed k ks) ∧ isPresent day 20 = true ∧ own day = 10 ∧
    findTicket day 3 = some (ticketOf 3 (.placed 20 .queued)) ∧ findTicket day 4 = some (ticketOf 4 (.placed 10 .fired)) :=
  ⟨by decide, by decide, by decide, by decide, (fun _ _ h => nomatch h), by decide, by decide, by decide, by decide⟩

/-- A ticket of this station at its own kitchen: its report is handed to the router's record, which is placed here (R110, R87). -/
theorem test_own_kitchen_reports :
    let t := kticketOf 2 10 4
    let s := { day with cfg := { day.cfg with autoFire := false } }
    t.home = own s ∧ t.orphan = false ∧ findTicket s t.number = some (ticketOf 4 (.placed 10 .fired)) ∧ own s = 10 ∧
    findTicket s 77 = none ∧ { t with orphan := true }.orphan = true ∧
    lineState (makeReport ownReport t (.state .ready) s) 1 4 = some .ready ∧
    lineState (voidKLines ownReport .fired { t with lines := [⟨4, 101, 1, [], none, true⟩] } [4] true s) 1 4 = some .kvoid ∧
    [4].Nodup ∧ (voidKLines ownReport .fired t [1] true s).kitchen.byRef 2 = none ∧
    s.kitchen.byKey 10 4 = some (.fired, t) ∧ s.kitchen.byKey 10 77 = none := by decide +kernel

theorem test_RefillReloadRecount_refused :
    [4095, 4096, 5000, 102].all (fun n => jobReady (.refill n 1) .kitchen day && jobReady (.reloadToPreset n) .kitchen day &&
      jobReady (.recount n 1) .kitchen day) = true ∧ jobReady (.refill 101 10000) .kitchen day = true ∧
    findPortion day 102 = none ∧ findPortion day 4095 = none ∧ ¬(4096 ≤ 4095) ∧
    (let p : Portion := ⟨101, 5, 1, 2, 4294967295, 10, 3, 0, 0, false⟩
     let s : State := { day with portions := [p] }
     findPortion s 101 = some p ∧ jobReady (.refill 101 1) .kitchen s = true ∧ jobReady (.reloadToPreset 101) .kitchen s = true ∧
     jobReady (.recount 101 6) .kitchen s = true ∧ 4294967295 < p.loaded + min 1 (9999 - p.remaining) ∧
     (4294967295 : Int) < p.loaded + ((p.preset : Int) - p.remaining) ∧ (4294967295 : Int) < p.loaded + (6 - (p.remaining : Int))) := by
  decide

theorem test_PortionAndStockRecords_refused :
    [(4096, 1, 1), (102, 10000, 1), (102, 1, 1000), (102, 9999, 999)].all (fun q => jobReady (.load q.1 q.2.1 q.2.2) .kitchen day) = true ∧
    (let s : State := { day with portions := (List.range 64).map fun i => ⟨200 + i, 5, 1, 2, 8, 10, 3, 0, 0, false⟩ }
     findPortion s 102 = none ∧ 64 ≤ s.portions.length ∧ jobReady (.load 102 9999 999) .kitchen s = true) ∧
    [4096, 102, 101].all (fun n => jobReady (.remove n) .kitchen day && readReady (.readPortions (some n)) (some .kitchen) day) = true ∧
    findPortion day 102 = none ∧ (findPortion day 101).map (·.held) = some 1 := by decide

theorem test_LaneRowsMoveReceivers_refused :
    1 < 2 ∧ commandTaken (.laneRestart 2) day = true ∧ day.station.state ≠ .loopback ∧ day.station.state ≠ .duplicate := by decide

/-! ## Time, turned-away rows, discards and boundaries -/

/-- What is read from the state a step leaves. -/
def stepped {α : Type} (s : State) (f : State → α) : Option α :=
  match step s with
  | .next t => some (f t)
  | _ => none

/-- Station time, join age and a timer of each of four blocks. -/
def clocks (t : State) : List Nat × List Timer :=
  ([t.station.clock, t.station.online],
    [t.link.a.silence, t.beacon.holdOff] ++ t.claims.map (·.expiry) ++ t.exch.entries.map (·.timer))

/-- R72, R143 and R147 by hand: a millisecond of a day in service, in DUPLICATE, in LOOPBACK and on a STUCK lane. -/
theorem test_EmptyQueueStep_millisecond :
    let stuck := laneA { Receiver.reset with state := .stuck, silence := some 9 } quiet
    let spent := { quiet with beacon := ⟨some 0, none, false, true⟩ }
    day.pending = [] ∧ day.port.taken = none ∧ day.station.inReset = false ∧
    stepped day clocks = some ([60001, 60001], [4999, 99, 8999, 8999, 8999, 8999, 299].map some) ∧
    stepped (inState day .duplicate) clocks = some ([60001, 60000], [4999, 100, 9000, 9000, 9000, 9000, 300].map some) ∧
    stepped (inState day .loopback) clocks = some ([60001, 60000], [5000, 99, 8999, 8999, 8999, 8999, 299].map some) ∧
    stepped stuck (fun t => (t.link.a.silence, t.link.b.silence)) = some (some 9, some 4999) ∧
    stepped spent (fun t => (t.beacon.interval, t.beacon.holdOff)) = some (some 0, none) := by decide +kernel

/-- A station with nothing for any timer's or transmitter's row to act on (log entries 6 and 12). -/
def idleStation : State := { quiet with beacon := ⟨none, none, false, true⟩, link := { quiet.link with a := Receiver.reset } }

theorem test_TurnedAwayCommandsChangeNothing_idle :
    idleStation.station.inReset = false ∧ findPeer idleStation 30 = some (peerOf 30 .lost) ∧ findPeer idleStation 40 = none ∧
    (findShare day 2 1).map (·.state) = some .available ∧ findClaim day 20 5 7 = none ∧
    (∀ e ∈ day.exch.entries, e.tag ≠ 9) ∧ day.kitchen.byRef 9 = none ∧ day.kitchen.byRef 1 = some (.queued, kticketOf 1 20 1) ∧
    [Instr.periodLockoutExpiry, .joinWindowExpiry, .isolationTimerExpiry, .intervalTimerExpiry, .holdOffExpiry, .splitCompletion,
      .arbitrationLost, .transmitFault, .transmitComplete, .laneSilenceExpiry .A, .twinWindowExpiry .A, .silenceTimerExpiry 30,
      .silenceTimerExpiry 40, .holdTimerExpiry 2 1, .localExpiry 20 5 7, .exchangeTimeout 9, .warnTimerExpiry 9, .lateTimerExpiry 9,
      .collectTimerExpiry 9, .beaconFrame, .answerFrame].all (fun c => decide (after c idleStation id = some idleStation)) = true := by
  decide +kernel

theorem test_TurnedAwayCommandsChangeNothing_heads :
    let claim := frameOf Kind.claim 3 (e2 2 ++ e1 1)
    let toAll := { claim with dest := 127 }
    (hearing claim idleStation).rx = claim :: [] ∧ claim.kind ≠ Kind.add ∧ deliverable toAll = false ∧
    after .addFrame (hearing claim idleStation) (fun t => t.rx) = some [claim] ∧
    after .claimFrame (hearing toAll idleStation) (fun t => (t.rx, t.tx.slots)) = some ([], []) := by decide +kernel

/-- R166 by hand: tags 0 and 1 are held, so the counter's 0 gives 2; tags 255 and 0 are held, so 255 gives 1. -/
theorem test_RemoteRequestsStart_draws :
    let held := fun (tags : List Nat) (counter : Nat) =>
      ({ day with exch := ⟨tags.map fun n => ⟨n, Kind.claim, 20, 6, n + 1, .claims, some 300⟩, counter⟩ } : State)
    let drawn := fun (t : State) => (t.exch.entries.map (·.tag), t.exch.counter)
    (∀ e ∈ (held [0, 1] 0).exch.entries, e.tag ≠ 2) ∧ 2 = (0 + 2) % 256 ∧ (held [0, 1] 0).exch.entries.length < 8 ∧
    (∀ j, j < 2 → ∃ e ∈ (held [0, 1] 0).exch.entries, e.tag = if j = 0 then 0 else (0 + j) % 256) ∧
    jobReady (.query 20 5) .till (held [0, 1] 0) = true ∧
    drawn (openExchange Kind.tabQuery 20 5 0 .command (e2 5) (held [0, 1] 0)).2 = ([0, 1, 2], 3) ∧
    drawn (openExchange Kind.tabQuery 20 5 0 .command (e2 5) (held [255, 0] 255)).2 = ([255, 0, 1], 2) ∧
    drawn (openExchange Kind.tabQuery 20 5 0 .command (e2 5) (held [1, 2, 3, 4, 5, 6, 7] 1)).2 = ([1, 2, 3, 4, 5, 6, 7, 8], 9) := by
  decide

/-- R154 by hand: with 20 frames of classes 1 to 3 a request takes the place of the one TEST frame. -/
theorem test_RemoteRequestsStart_evicts :
    let s : State := { linkFull with tx := ⟨slotOf Kind.test :: List.replicate 19 (slotOf Kind.add), [], 0⟩ }
    jobReady (.query 20 5) .till s = true ∧ ¬(lowCount s.tx.slots < 20) ∧ kindClass (slotOf Kind.test).frame.kind = 3 ∧
    (slotOf Kind.test).onWire = false ∧
    (let r := openExchange Kind.tabQuery 20 5 0 .command (e2 5) s
     (r.1, r.2.tx.slots.map (·.frame.kind), r.2.tx.dropped, r.2.exch.entries.length)) =
      (.STARTED, List.replicate 19 Kind.add ++ [Kind.tabQuery], 1, 2) := by decide

/-- R172 and R180 by hand: zeros alone, a command cut short, and one with bytes before and after it. -/
theorem test_TransactionSettles_first_command :
    firstCommand [0#8, 0#8] = none ∧ firstCommand [0#8, 12#8] = none ∧ firstCommand [12#8, 2#8, 1#8] = none ∧
    firstCommand [0#8, 0#8, 12#8, 2#8, 1#8, 5#8, 9#8, 9#8] = some (12, [1#8, 5#8]) ∧
    firstCommand [255#8, 0#8, 7#8] = some (255, []) := by decide

/-- R180 by hand: codes 0, 1, 44 and 45; parameters short and long; a presence byte of 2; and bytes up to the longest layout. -/
theorem test_TransactionSettles_framing :
    [0, 45, 255].map (fun n => parseCommand n []) = List.replicate 3 .unknownCode ∧
    [parseCommand 12 [0#8], parseCommand 12 [0#8, 1#8, 2#8], parseCommand 1 [0#8], parseCommand 44 [2#8, 0#8, 0#8],
      parseCommand 44 [0#8, 9#8, 9#8, 9#8], parseCommand 6 [], parseCommand 6 [0#8, 0#8]] = List.replicate 7 .badFraming ∧
    parseCommand 44 [0#8] = .command (.readPortions none) ∧ parseCommand 44 [0#8, 9#8, 9#8] = .command (.readPortions none) ∧
    parseCommand 44 [1#8, 0#8, 5#8] = .command (.readPortions (some 5)) ∧ parseCommand 6 [0#8] = .command .loopbackOff ∧
    (eConfigReq configReq).length = 21 ∧ (Instr.configure configReq).wellFormed = true ∧
    parseCommand 5 (eConfigReq configReq ++ List.replicate 15 7#8) = .command (.configure configReq) ∧
    parseCommand 5 (eConfigReq configReq ++ List.replicate 16 7#8) = .badFraming ∧
    parseCommand 5 ((eConfigReq configReq).take 11 ++ [2#8] ++ List.replicate 9 0#8) = .badFraming ∧
    parseCommand 5 ((eConfigReq configReq).take 20 ++ [2#8]) = .badFraming := by decide +kernel

/-- R25 and R143 by hand: in DUPLICATE a peer's split is struck, closed or thrown away, and no ANSWER goes out. -/
theorem test_SplitCompletionStrikes_duplicate :
    let remote := fun (amount : Nat) (stale : Bool) =>
      ({ inState splitting .duplicate with engine := some ⟨6, .remote 20 3, stale, 2, [⟨1, amount, 0, [1, 2], false⟩]⟩ } : State)
    let read := fun (t : State) => ((findTab t 6).map (·.state), t.engine, t.tx.slots)
    after .splitCompletion (remote 1000 false) read = some (some .split, none, []) ∧
    after .splitCompletion (remote 0 false) read = some (some .closed, none, []) ∧
    after .splitCompletion (remote 1000 true) read = some (some .open, none, []) ∧
    (struckSplit 10 shop.rates ⟨6, .remote 20 3, false, 2, [⟨1, 0, 0, [1, 2], false⟩]⟩).shares.all (·.state == .settled) = true := by
  decide +kernel

/-- R179 by hand: the first undefined code, home or count of each report frame; the frame leaves the queue and nothing else changes. -/
theorem test_undefined_reports_are_discarded :
    let state := fun (p : Bytes) => { frameOf Kind.ticketState 0 p with dest := 127 }
    let stock := fun (p : Bytes) => { frameOf Kind.stock 0 p with dest := 127 }
    [(Kind.claimEnd, Instr.claimEndFrame, frameOf Kind.claimEnd 0 (e2 5 ++ e1 1 ++ e1 2)),
      (Kind.ticketState, .ticketStateFrame, state (e1 0 ++ e2 3 ++ e1 0 ++ e1 0 ++ e1 0)),
      (Kind.ticketState, .ticketStateFrame, state (e1 127 ++ e2 3 ++ e1 0 ++ e1 0 ++ e1 0)),
      (Kind.ticketState, .ticketStateFrame, state (e1 10 ++ e2 3 ++ e1 0 ++ e1 0 ++ e1 5)),
      (Kind.ticketState, .ticketStateFrame, state (e1 10 ++ e2 3 ++ e1 0 ++ e1 1 ++ e1 2 ++ eList e1 [3])),
      (Kind.ticketState, .ticketStateFrame, state (e1 10 ++ e2 3 ++ e1 0 ++ e1 1 ++ e1 0 ++ eList e1 [])),
      (Kind.stock, .stockFrame, stock (e2 101 ++ e1 3 ++ e2 0)), (Kind.stock, .stockFrame, stock (e2 4096 ++ e1 2 ++ e2 0)),
      (Kind.stock, .stockFrame, stock (e2 101 ++ e1 1 ++ e2 10000))].all (fun r =>
        frameReady r.1 r.2.2 [] (hearing r.2.2 idleStation) && decide (after r.2.1 (hearing r.2.2 idleStation) id = some idleStation)) =
      true ∧
    rStock.exact (e2 101 ++ e1 3 ++ e2 0) = some ⟨101, 3, 0⟩ ∧ listening (inState day .configured) = false ∧
    rTicketState.exact (e1 127 ++ e2 3 ++ e1 0 ++ e1 0 ++ e1 0) = some ⟨127, 3, 0, 0, 0, []⟩ ∧
    rTabShareByte.exact (e2 5 ++ e1 1 ++ e1 2) = some (5, 1, 2) := by decide +kernel

/-- The station with neither role, or with one of them. -/
def without (till kitchen : Bool) : State := { idleStation with cfg := { shop with till := till, kitchen := kitchen } }

/-- R163 by hand: each request kind at a station without its role is answered NOT_SERVED with subject 6 and, for a share's, share 1; out of
service it is dropped. -/
theorem test_ExchangesEnd_not_served :
    [(Kind.add, Instr.addFrame, 0, eAddPayload 6 0 []), (Kind.lineVoid, .lineVoidFrame, 0, e2 6 ++ e1 1), (Kind.tabQuery, .tabQueryFrame, 0, e2 6),
      (Kind.split, .splitFrame, 0, eSplitPayload 6 2 []), (Kind.withdraw, .withdrawFrame, 0, e2 6), (Kind.claim, .claimFrame, 1, e2 6 ++ e1 1),
      (Kind.settle, .settleFrame, 1, e2 6 ++ e1 1 ++ e1 2), (Kind.release, .releaseFrame, 1, e2 6 ++ e1 1),
      (Kind.ticket, .ticketFrame, 0, eOfferPayload { offer with ticket := 6 }), (Kind.ticketVoid, .ticketVoidFrame, 0, e2 6 ++ eList e1 [1]),
      (Kind.ticketQuery, .ticketQueryFrame, 0, e2 6)].all (fun r =>
        let f := frameOf r.1 9 r.2.2.2
        let s := hearing f (without (isKitchenRequest r.1) (!isKitchenRequest r.1))
        frameReady r.1 f [] s && f.payload.take 2 == [0#8, 6#8] &&
        decide (after r.2.1 s (fun t => (t.rx, t.tx.slots.map (·.frame))) =
          some ([], [⟨Kind.answer, 20, 9, eAnswerPayload r.1 9 6 r.2.2.1 .NOT_SERVED []⟩])) &&
        decide (after r.2.1 (inState s .configured) (fun t => (t.rx, t.tx.slots)) = some ([], []))) = true := by decide +kernel

theorem test_ExchangesEnd_dropped :
    let long := frameOf Kind.test 3 (List.replicate 33 1#8)
    let odd := frameOf Kind.answer 9 (eAnswerPayload Kind.beacon 9 5 0 .OK [1#8])
    frameReady Kind.test long [] (hearing long idleStation) = true ∧
    after .testFrame (hearing long idleStation) (fun t => t.tx.slots.map (·.frame)) =
      some [⟨Kind.answer, 20, 3, eAnswerPayload Kind.test 3 0 0 .BAD_PARAM []⟩] ∧
    testable (inState day .configured) = false ∧ hasRole (without false true) .till = false ∧
    frameReady Kind.answer odd [] (hearing odd idleStation) = true ∧ isRequest Kind.beacon = false ∧ isRequest Kind.answer = false ∧
    parseAnswer 20 odd.payload = some ⟨20, Kind.beacon, 9, 5, 0, Result.OK.code, [1#8]⟩ ∧
    after .answerFrame (hearing odd idleStation) id = some idleStation ∧
    [(Kind.ticketState, Instr.ticketStateFrame, eReportPayload 10 3 false (.state .fired)), (Kind.stock, .stockFrame, eStockPayload 101 .out 0),
      (Kind.claimEnd, .claimEndFrame, e2 5 ++ e1 1 ++ e1 0)].all (fun r =>
        let s := hearing (frameOf r.1 0 r.2.2) (without false true)
        frameReady r.1 (frameOf r.1 0 r.2.2) [] s && decide (after r.2.1 s id = some (without false true))) = true := by decide +kernel

/-- A beacon from a peer with any interval, period, depth, hold and late count. -/
def anyBeacon (source interval joinAge period depth hold late : Nat) : Frame :=
  { frameOf Kind.beacon 0 ([3#8, 1#8] ++ e2 interval ++ e4 joinAge ++ e1 period ++ e1 depth ++ e1 hold ++ e1 late) with
    source := source, dest := 127 }

/-- What the entry of peer 20 holds of its beacons, and the period number. -/
def heardOf (t : State) : List (Option Nat) × Option KitchenLoad × Nat :=
  match findPeer t 20 with
  | some p => ([p.interval, p.silence, p.period], p.load, t.takings.period)
  | none => ([], none, t.takings.period)

/-- R66, R68 and R179 by hand: values out of range are taken to the nearest; a period of 100 goes no further than the entry. -/
theorem test_PeerFramesAreRecorded_clamps :
    let heard := fun (interval period depth hold late : Nat) =>
      after .beaconFrame (hearing (anyBeacon 20 interval 11 period depth hold late) idleStation) heardOf
    frameReady Kind.beacon (anyBeacon 20 249 11 100 49 2 49) [] (hearing (anyBeacon 20 249 11 100 49 2 49) idleStation) = true ∧
    heard 249 100 49 2 49 = some ([some 250, some 1000, some 99], some ⟨48, true, 48, 0⟩, 0) ∧
    heard 2001 99 48 0 0 = some ([some 2000, some 8000, some 99], some ⟨48, false, 0, 0⟩, 99) ∧
    heard 300 0 0 0 0 = some ([some 250, some 1000, some 0], some ⟨0, false, 0, 0⟩, 0) := by decide +kernel

/-- R57, R63 and R67 by hand: a beacon of a LOST peer, with and without a restart, of no entry, and frames that are discarded. -/
theorem test_PeerFramesAreRecorded_presence :
    let read := fun (t : State) => ((findPeer t 30).map (·.presence), t.dir.lostOrder, t.port.peers)
    let beacon := fun (source joinAge : Nat) => hearing (anyBeacon source 500 joinAge 0 0 0 0) idleStation
    let period := hearing { frameOf Kind.period 0 (e1 100) with dest := 127 } idleStation
    findPeer idleStation 30 = some (peerOf 30 .lost) ∧ findPeer idleStation 40 = none ∧ listening idleStation = true ∧
    after .beaconFrame (beacon 30 11) read = some (some .present, [], [.peerReturned 30]) ∧
    after .beaconFrame (beacon 30 10) read = some (some .present, [], [.peerRejoined 30 true true 10]) ∧
    after .beaconFrame (beacon 40 9) id = some idleStation ∧
    after .beaconFrame (hearing (anyBeacon 40 500 9 1 0 0 0) idleStation) (·.takings.period) = some 1 ∧
    after .beaconFrame (inState (beacon 30 11) .configured) id = some (inState idleStation .configured) ∧
    after .periodFrame period id = some idleStation := by decide +kernel

/-- R80 and R81 by hand: peer 20 is a candidate with 3 tickets and 2 placed since its beacon, this station with its own 2. -/
theorem test_RouterChoosesTheBestKitchen_figures :
    let p := { peerOf 20 .present with load := some ⟨3, true, 0, 2⟩ }
    let s := { day with dir := { day.dir with entries := [p, peerOf 30 .lost] } }
    let t := ticketOf 1 .pending
    candidates s t = [20, 10] ∧ candidates s { t with prep := 1 } = [] ∧ candidates s { t with tried := [20] } = [10] ∧
    [20, 10, 40].map (projectedLoad s) = [5, 2, 0] ∧ [20, 10].map (onHold s) = [true, false] ∧ ticketItems s t = [101] ∧
    [20, 10].map (judgedOut s · 101) = [true, false] ∧ chooseKitchen s t = some 10 ∧
    chooseKitchen s { t with tried := [10] } = some 20 := by decide

/-- R102 by hand: a hand-off accepted behind the one ticket QUEUED and the one FIRED. -/
theorem test_KitchenTakesTickets_hand_off :
    let s := { day with cfg := { shop with autoFire := false } }
    s.kitchen.byKey 10 77 = none ∧ offer.prep ∈ s.cfg.prep ∧ offer.inRange = true ∧
    (takeOffer ownReport noAnswer 10 offer s).1 = ⟨.ACCEPT, [2#8, 3#8]⟩ ∧
    (takeOffer ownReport noAnswer 10 offer s).2.kitchen.queued.map (fun k => (k.ref, k.home, k.number)) = [(1, 20, 1), (4, 10, 77)] := by
  decide +kernel

/-- R137 and R146 by hand: while this station drives, and in LOOPBACK, the cable is not heard; a frame start in DOWN and STUCK. -/
theorem test_LaneRowsMoveReceivers_unheard :
    let drives : State := { idleStation with tx := ⟨[{ slotOf Kind.add with onWire := true }], [.A, .B], 0⟩ }
    let stuck := laneA { Receiver.reset with state := .stuck } idleStation
    hearsPeers drives = false ∧ hearsPeers (inState idleStation .loopback) = false ∧ idleStation.link.a.state = .down ∧
    hearsPeers idleStation = true ∧
    [drives, inState idleStation .loopback].all (fun s => decide (after (.laneActivity .A) s id = some s ∧
      after (.laneFrameStart .A) s id = some s ∧ after (.laneFrameStart .B) s id = some s)) = true ∧
    after (.laneFrameStart .A) idleStation (fun t => (t.link.a.state, t.link.a.carrying, t.link.a.silence)) = some (.down, true, none) ∧
    after (.laneFrameStart .A) stuck id = some stuck ∧ after (.laneSilenceExpiry .A) stuck id = some stuck ∧
    after (.laneRecessive .B) idleStation id = some idleStation ∧
    after (.laneStuck .A) (inState stuck .loopback) id = some (inState stuck .loopback) ∧ moveLane .B .locked idleStation = idleStation := by
  decide +kernel

/-- R145, R162 and R179 by hand: each test of a delivered frame at its boundary. -/
theorem test_FrameEndsAtTheReceiver_deliverable :
    let claim := frameOf Kind.claim 3 (e2 2 ++ e1 1)
    let ans := frameOf Kind.answer 3 (eAnswerPayload Kind.withdraw 3 6 0 .OK [])
    [claim, { claim with source := 1 }, { claim with source := 126 }, ans].all deliverable = true ∧
    [{ claim with source := 0 }, { claim with source := 127 }, { claim with dest := 127 }, { ans with dest := 127 }, { claim with cls := 2 },
      { claim with dest := 128 }, { claim with payload := e2 2 }, { claim with payload := e2 2 ++ e1 1 ++ e1 0 }, { ans with tag := 4 },
      { ans with payload := ans.payload ++ [0#8] }, { ans with payload := ans.payload.take 5 }, { frameOf Kind.test 3 [] with dest := 127 },
      { claim with kind := 0, cls := 2 }, { claim with kind := 19, cls := 2 }].all (!deliverable ·) = true ∧
    [deliverable { claim with dest := 0 }, deliverable { frameOf Kind.claimEnd 0 (e2 2 ++ e1 1 ++ e1 0) with dest := 127 }] = [true, true] := by
  decide

/-- Frame layouts by hand: the right length, one byte less, and counts that say more than there is (R179, chapter Formats). -/
theorem test_FrameEndsAtTheReceiver_layouts :
    [(Kind.beacon, 12), (Kind.period, 1), (Kind.stock, 5), (Kind.lineVoid, 3), (Kind.tabQuery, 2), (Kind.withdraw, 2), (Kind.claim, 3),
      (Kind.settle, 4), (Kind.release, 3), (Kind.claimEnd, 4), (Kind.ticketQuery, 2)].all (fun r =>
        layoutOk r.1 0 (List.replicate r.2 0#8) && !layoutOk r.1 0 (List.replicate (r.2 - 1) 0#8) &&
        !layoutOk r.1 0 (List.replicate (r.2 + 1) 0#8)) = true ∧
    [layoutOk Kind.add 0 (eAddPayload 1 0 [lineReq]), layoutOk Kind.split 0 (eSplitPayload 1 2 [⟨1, 3#8⟩]),
      layoutOk Kind.ticket 0 (eOfferPayload offer), layoutOk Kind.ticketVoid 0 (e2 1 ++ eList e1 [1]),
      layoutOk Kind.ticketState 0 (e1 1 ++ e2 1 ++ e1 2 ++ e1 0 ++ e1 9), layoutOk Kind.test 0 []] = List.replicate 6 true ∧
    [layoutOk Kind.add 0 (e2 1 ++ e1 0 ++ e1 1), layoutOk Kind.split 0 (e2 1 ++ e1 2 ++ e1 0 ++ e1 0),
      layoutOk Kind.ticket 0 (e2 1 ++ e2 1 ++ e1 0 ++ e1 0), layoutOk Kind.ticketVoid 0 (e2 1 ++ e1 2 ++ e1 1),
      layoutOk Kind.ticketState 0 (e1 1 ++ e2 1 ++ e1 0 ++ e1 2 ++ e1 0)] = List.replicate 5 false := by decide

/-- R155 by hand: the LOCKED lanes, else those DOWN or HUNT; and the ways in which nothing begins. -/
theorem test_TransmitterWorksTheQueue_idle :
    let rx := fun (st : RxState) => ({ Receiver.reset with state := st } : Receiver)
    let lanes := fun (a b : RxState) => ({ quiet with link := { quiet.link with a := rx a, b := rx b } } : State)
    let waiting := fun (s : State) => ({ s with tx := ⟨[slotOf Kind.add], [], 0⟩ } : State)
    [lanes .locked .hunt, lanes .hunt .locked, lanes .hunt .stuck, lanes .down .hunt, lanes .stuck .stuck,
      inState (lanes .stuck .stuck) .loopback].map watchedLanes = [[.A], [.B], [.A], [.A, .B], [], [.A, .B]] ∧
    [inState (waiting quiet) .isolated, inState (waiting quiet) .joining, quiet, { quiet with tx := ⟨[{ slotOf Kind.add with onWire := true }], [.A], 0⟩ },
      waiting (lanes .stuck .stuck), waiting (laneA { lockedRx .A with carrying := true } quiet)].all (fun s =>
        decide (after .transmitStart s id = some s)) = true ∧
    after .transmitStart (waiting quiet) (fun t => (t.tx.slots.map (·.onWire), t.tx.watched)) = some ([true], [.A, .B]) := by
  decide +kernel

/-! ## The worked sequences of the spec -/

/-- A Split Among Three (02_splitting_a_tab.md): amounts, total, taxes, cash rounding and a line's refund. -/
theorem test_worked_split_among_three :
    let j : EngineJob :=
      ⟨5, .local, false, 3, [⟨1, 2500, 0, [1, 2], true⟩, ⟨2, 910, 0, [1, 2, 3], false⟩, ⟨3, 2940, 1, [1, 2, 3], false⟩, ⟨4, 300, 2, [3], true⟩]⟩
    let sp := struckSplit 12 ⟨800, 1250, 0, 0⟩ j
    sp.shares.map (·.amount) = [2782, 2780, 1729] ∧ sp.total = 7291 ∧ sp.shares.map (·.taxes.c0) = [125, 124, 24] ∧
    sp.shares.map (·.taxes.c1) = [123, 123, 122] ∧ [2782, 2780, 1729].map (tenderedAmount 5 .cash) = [2780, 2780, 1730] ∧
    [2782, 2780, 1729].map (tenderedAmount 50 .cash) = [2800, 2800, 1750] ∧ refundAmount 1250 980 = 1103 := by decide +kernel

/-- A Share That Owes Nothing (02_splitting_a_tab.md). -/
theorem test_worked_share_that_owes_nothing :
    ((struckSplit 12 ⟨800, 1250, 0, 0⟩ ⟨6, .local, false, 2, [⟨1, 2000, 0, [1], true⟩]⟩).shares.map fun sh =>
      (sh.amount, sh.state, sh.settlement.map (·.tender))) = [(2160, .available, none), (0, .settled, some .none)] := by decide +kernel

/-- The 9999 Limit (07_portions_and_stock.md): the refill's row and the returned line's. -/
theorem test_worked_portion_limit :
    let before : Portion := ⟨630, 9990, 6, 200, 10196, 0, 0, 0, 0, false⟩
    after (.refill 630 20) { quiet with portions := [before] } (fun t => (answerOf t, t.portions.map fun p => (p.remaining, p.loaded))) =
      some (some (.OK, e2 9 ++ e2 9999), [(9999, 10205)]) ∧
    (before.giveBack 4).remaining = 9994 ∧
    ((⟨630, 9999, 6, 200, 10205, 0, 0, 0, 0, false⟩ : Portion).giveBack 4) = ⟨630, 9999, 2, 200, 10201, 0, 0, 0, 0, false⟩ := by
  decide +kernel

/-- Kiosk 44's Queue at Half-time (09_the_concourse_link.md): each request's outcome, the frames queued and TX_DROPPED after it. -/
theorem test_worked_half_time_queue :
    let f := fun kind => (⟨kind, 20, 0, e2 101 ++ e1 2 ++ e2 0⟩ : OutFrame)
    let slot := fun kind => (⟨f kind, 0, 0, false, false⟩ : Slot)
    let start : State := { quiet with
      tx := ⟨List.replicate 3 (slot Kind.answer) ++ List.replicate 12 (slot Kind.ticketState) ++ List.replicate 6 (slot Kind.claim) ++
        [slot Kind.beacon, slot Kind.stock], [], 0⟩ }
    let ask := fun (acc : State × List (Bool × Nat × Nat)) (kind : Nat) =>
      let r := sendFrame (f kind) acc.1
      (r.2, acc.2 ++ [(r.1, r.2.tx.slots.length, r.2.tx.dropped)])
    ([Kind.ticketState, Kind.ticketState, Kind.ticketState, Kind.claim, Kind.answer, Kind.answer, Kind.beacon].foldl ask (start, [])).2 =
      [(true, 23, 1), (true, 23, 2), (false, 23, 3), (false, 23, 3), (true, 24, 3), (false, 24, 4), (false, 24, 5)] := by
  decide +kernel

end Sys2Proof.Tests
end

section
/-! The walk of a Send (R12, R13): the ticket numbers it draws, what it does with one line, what holds after any lines. -/

namespace Sys2Proof.Machine

/-! ## The ticket counter's numbers (R13) -/

theorem nextNumber_range (c : Nat) : 1 ≤ nextNumber c ∧ nextNumber c ≤ 65535 := by
  unfold nextNumber
  split <;> omega

theorem nextNumber_eq {c : Nat} (h : c ≤ 65535) : nextNumber c = if c = 65535 then 1 else c + 1 := by
  unfold nextNumber
  split <;> split <;> omega

/-- The numbers from a counter on, in the order `freeNumber` tries them. -/
def numberFrom (c : Nat) : Nat → Nat
  | 0 => c
  | i + 1 => numberFrom (nextNumber c) i

theorem numberFrom_eq {c : Nat} (hc : 1 ≤ c ∧ c ≤ 65535) (i : Nat) : numberFrom c i = (c - 1 + i) % 65535 + 1 := by
  induction i generalizing c with
  | zero => rw [numberFrom]; omega
  | succ i ih =>
    rw [numberFrom, ih (nextNumber_range c), nextNumber_eq hc.2]
    split <;> omega

/-- The numbers that a walk can try are distinct, from any counter on: one out of range is not come back to. -/
theorem numberFrom_ne (c : Nat) {i j : Nat} (hij : i < j) (hj : j < 96) : numberFrom c i ≠ numberFrom c j := by
  by_cases hc : 1 ≤ c ∧ c ≤ 65535
  · rw [numberFrom_eq hc, numberFrom_eq hc]; omega
  · have tail (m : Nat) : numberFrom c (m + 1) = m % 65535 + 1 := by
      have hnext : nextNumber c = 1 := by unfold nextNumber; split <;> omega
      rw [numberFrom, hnext, numberFrom_eq (by omega), Nat.sub_self, Nat.zero_add]
    obtain ⟨j, rfl⟩ := Nat.exists_eq_succ_of_ne_zero (by omega : j ≠ 0)
    cases i with
    | zero => rw [tail, numberFrom]; omega
    | succ i => rw [tail, tail]; omega

/-- Where a number within the fuel is not in use, the walk draws the first such. -/
theorem freeNumber_first {used : List Nat} {fuel c : Nat} (h : ∃ i < fuel, numberFrom c i ∉ used) :
    ∃ j < fuel, numberFrom c j ∉ used ∧ (∀ i < j, numberFrom c i ∈ used) ∧ freeNumber fuel c used = numberFrom c j := by
  induction fuel generalizing c with
  | zero => obtain ⟨i, hi, -⟩ := h; omega
  | succ fuel ih =>
    by_cases hc : c ∈ used
    · have htail : ∃ i < fuel, numberFrom (nextNumber c) i ∉ used := by
        obtain ⟨i, hi, hfree⟩ := h
        cases i with
        | zero => exact absurd hc hfree
        | succ i => exact ⟨i, by omega, hfree⟩
      obtain ⟨j, hj, hfree, hbefore, heq⟩ := ih htail
      refine ⟨j + 1, by omega, hfree, fun i hi => ?_, ?_⟩
      · cases i with
        | zero => exact hc
        | succ i => exact hbefore i (by omega)
      · rw [freeNumber, if_pos (List.contains_iff_mem.2 hc), heq, numberFrom]
    · exact ⟨0, by omega, hc, fun i hi => absurd hi (Nat.not_lt_zero i),
        by rw [freeNumber, if_neg (mt List.contains_iff_mem.1 hc), numberFrom]⟩

/-- Of 96 distinct numbers one is not in use while fewer than 96 are. -/
theorem exists_free_number {used : List Nat} (c : Nat) (h : used.length < 96) : ∃ i < 96, numberFrom c i ∉ used := by
  refine Classical.byContradiction fun hnone => ?_
  have hnodup : ((List.range 96).map (numberFrom c)).Nodup :=
    List.pairwise_map.2 (List.pairwise_lt_range.imp_of_mem fun _ hj hij => numberFrom_ne c hij (List.mem_range.1 hj))
  have hsub : (List.range 96).map (numberFrom c) ⊆ used := fun n hn => by
    obtain ⟨i, hi, rfl⟩ := List.mem_map.1 hn
    exact Classical.byContradiction fun hfree => hnone ⟨i, List.mem_range.1 hi, hfree⟩
  have hlength := hnodup.length_le_of_subset hsub
  rw [List.length_map, List.length_range] at hlength
  omega

theorem freeNumber_range {used : List Nat} {fuel c : Nat} (hc : 1 ≤ c ∧ c ≤ 65535) :
    1 ≤ freeNumber fuel c used ∧ freeNumber fuel c used ≤ 65535 := by
  induction fuel generalizing c with
  | zero => exact hc
  | succ fuel ih =>
    unfold freeNumber
    split
    · exact ih (nextNumber_range c)
    · exact hc

/-! ## One NEW line (R12, R13) -/

/-- A group that a line may join: its prep class and rush flag, with room. -/
def Ticket.OpenTo (l : Line) (k : Ticket) : Prop := k.prep = l.prep.getD 0 ∧ k.rush = l.rush ∧ k.lines.length < 8

/-- The model's test for such a group. -/
def Ticket.opensTo (l : Line) : Ticket → Bool := fun k =>
  k.prep == l.prep.getD 0 && k.rush == l.rush && decide (k.lines.length < Config.groupCapacity)

theorem Ticket.opensTo_iff (l : Line) (k : Ticket) : k.opensTo l = true ↔ k.OpenTo l := by
  simp only [Ticket.opensTo, Bool.and_eq_true, beq_iff_eq, decide_eq_true_eq, and_assoc]
  rfl

/-- The ticket that starts with a line. -/
def Ticket.startedBy (n tab : Nat) (l : Line) : Ticket := ⟨n, tab, l.prep.getD 0, l.rush, [l.number], .pending, 0, [], []⟩

/-- The walk after a line joined the group `k`. -/
def SendWalk.joinTo (newer : List Ticket) (k : Ticket) (older : List Ticket) (l : Line) (w : SendWalk) : SendWalk :=
  { w with
    made := newer ++ { k with lines := k.lines ++ [l.number] } :: older
    joined := w.joined ++ [(l.number, k.number)] }

/-- The walk after a line made ticket `n`. -/
def SendWalk.makeFor (n tab : Nat) (l : Line) (w : SendWalk) : SendWalk :=
  { w with made := .startedBy n tab l :: w.made, counter := nextNumber n, joined := w.joined ++ [(l.number, n)] }

/-- The numbers no new ticket may take. -/
def usedNumbers (held : List Ticket) (w : SendWalk) : List Nat := (held ++ w.made).map (·.number)

theorem mem_usedNumbers {held : List Ticket} {w : SendWalk} {n : Nat} :
    n ∈ usedNumbers held w ↔ ∃ k ∈ held ++ w.made, k.number = n := List.mem_map

theorem length_usedNumbers (held : List Ticket) (w : SendWalk) :
    (usedNumbers held w).length = held.length + w.made.length := by
  simp [usedNumbers]

section
variable {held : List Ticket} {tab : Nat} {w : SendWalk} {l : Line}

theorem find_opensTo_none (h : ∀ x ∈ w.made, ¬x.OpenTo l) : w.made.find? (Ticket.opensTo l) = none :=
  List.find?_eq_none.2 fun x hx => by rw [Ticket.opensTo_iff]; exact h x hx

/-- Where numbers are distinct, an update by number changes the one record. -/
theorem mapIf_number_eq {newer older : List Ticket} {k : Ticket} (f : Ticket → Ticket)
    (h : ((newer ++ k :: older).map (·.number)).Nodup) :
    mapIf (·.number == k.number) f (newer ++ k :: older) = newer ++ f k :: older := by
  rw [List.map_append, List.map_cons, List.nodup_append, List.nodup_cons] at h
  obtain ⟨-, ⟨hk, -⟩, hcross⟩ := h
  have hnewer : ∀ x ∈ newer, x.number ≠ k.number := fun x hx => hcross _ (List.mem_map_of_mem hx) _ List.mem_cons_self
  have holder : ∀ x ∈ older, x.number ≠ k.number := fun x hx heq => hk (heq ▸ List.mem_map_of_mem hx)
  have hsplit : mapIf (·.number == k.number) f (newer ++ k :: older) =
      mapIf (·.number == k.number) f newer ++ f k :: mapIf (·.number == k.number) f older := by simp [mapIf]
  rw [hsplit, mapIf_none _ f newer fun x hx => beq_eq_false_iff_ne.2 (hnewer x hx),
    mapIf_none _ f older fun x hx => beq_eq_false_iff_ne.2 (holder x hx)]

theorem sendLine_of_full (hfull : w.full = true) : sendLine held tab w l = w := by
  simp [sendLine, hfull]

theorem sendLine_joins {newer older : List Ticket} {k : Ticket} (hfull : w.full = false) (hdist : (w.made.map (·.number)).Nodup)
    (hmade : w.made = newer ++ k :: older) (hk : k.OpenTo l) (hnewer : ∀ x ∈ newer, ¬x.OpenTo l) :
    sendLine held tab w l = w.joinTo newer k older l := by
  have hfind : w.made.find? (Ticket.opensTo l) = some k :=
    List.find?_eq_some_iff_append.2 ⟨(Ticket.opensTo_iff l k).2 hk, newer, older, hmade, fun x hx => by
      rw [Bool.not_eq_true', ← Bool.not_eq_true, Ticket.opensTo_iff]; exact hnewer x hx⟩
  unfold Ticket.opensTo at hfind
  simp only [sendLine, hfull, hfind, Bool.false_eq_true, if_false, SendWalk.joinTo]
  rw [hmade, mapIf_number_eq _ (hmade ▸ hdist)]

theorem sendLine_fills (hfull : w.full = false) (hnone : ∀ x ∈ w.made, ¬x.OpenTo l) (hcap : 96 ≤ held.length + w.made.length) :
    sendLine held tab w l = { w with full := true } := by
  have hfind := find_opensTo_none hnone
  unfold Ticket.opensTo at hfind
  simp [sendLine, hfull, hfind, Config.ticketCapacity, hcap]

theorem sendLine_makes (hfull : w.full = false) (hnone : ∀ x ∈ w.made, ¬x.OpenTo l) (hcap : held.length + w.made.length < 96) :
    sendLine held tab w l = w.makeFor (freeNumber 96 w.counter (usedNumbers held w)) tab l := by
  have hfind := find_opensTo_none hnone
  unfold Ticket.opensTo at hfind
  simp [sendLine, hfull, hfind, Config.ticketCapacity, Nat.not_le.2 hcap, SendWalk.makeFor, Ticket.startedBy, usedNumbers]

end

/-- What the walk can do at a NEW line. -/
inductive SendMove (held : List Ticket) (tab : Nat) (w : SendWalk) (l : Line) : SendWalk → Prop
  | ended (hfull : w.full = true) : SendMove held tab w l w
  | joins (newer : List Ticket) (k : Ticket) (older : List Ticket) (hfull : w.full = false) (hmade : w.made = newer ++ k :: older)
      (hk : k.OpenTo l) : SendMove held tab w l (w.joinTo newer k older l)
  | fills (hfull : w.full = false) (hcap : 96 ≤ held.length + w.made.length) : SendMove held tab w l { w with full := true }
  | makes (n : Nat) (hfull : w.full = false) (hcap : held.length + w.made.length < 96)
      (hn : n = freeNumber 96 w.counter (usedNumbers held w)) (hfree : n ∉ usedNumbers held w) :
      SendMove held tab w l (w.makeFor n tab l)

/-- Either no group is open to a line, or a most recently made one is. -/
theorem newest_open_or_none (l : Line) (made : List Ticket) :
    (∀ x ∈ made, ¬x.OpenTo l) ∨ ∃ newer k older, made = newer ++ k :: older ∧ k.OpenTo l ∧ ∀ x ∈ newer, ¬x.OpenTo l := by
  induction made with
  | nil => exact .inl (by simp)
  | cons a made ih =>
    by_cases ha : a.OpenTo l
    · exact .inr ⟨[], a, made, rfl, ha, by simp⟩
    · rcases ih with hnone | ⟨newer, k, older, rfl, hk, hnewer⟩
      · exact .inl (List.forall_mem_cons.2 ⟨ha, hnone⟩)
      · exact .inr ⟨a :: newer, k, older, rfl, hk, List.forall_mem_cons.2 ⟨ha, hnewer⟩⟩

theorem sendMove_sendLine (held : List Ticket) (tab : Nat) {w : SendWalk} (l : Line) (hdist : (w.made.map (·.number)).Nodup) :
    SendMove held tab w l (sendLine held tab w l) := by
  cases hfull : w.full with
  | true => rw [sendLine_of_full hfull]; exact .ended hfull
  | false =>
    rcases newest_open_or_none l w.made with hnone | ⟨newer, k, older, hmade, hk, hnewer⟩
    · rcases Nat.lt_or_ge (held.length + w.made.length) 96 with hcap | hcap
      · rw [sendLine_makes hfull hnone hcap]
        obtain ⟨j, -, hfree, -, heq⟩ := freeNumber_first (exists_free_number w.counter (length_usedNumbers held w ▸ hcap))
        exact .makes _ hfull hcap rfl (heq ▸ hfree)
      · rw [sendLine_fills hfull hnone hcap]; exact .fills hfull hcap
    · rw [sendLine_joins hfull hdist hmade hk hnewer]; exact .joins newer k older hfull hmade hk

/-! ## What holds after any lines -/

/-- A ticket a walk over the lines `ls` has made. -/
structure MadeFrom (tab : Nat) (ls : List Line) (joined : List (Nat × Nat)) (k : Ticket) : Prop where
  one_le : 1 ≤ k.lines.length
  le_eight : k.lines.length ≤ 8
  tab_eq : k.tab = tab
  pending : k.state = .pending
  attempts : k.attempts = 0
  tried : k.tried = []
  stray : k.stray = []
  line : ∀ n ∈ k.lines, (n, k.number) ∈ joined ∧ ∃ l ∈ ls, l.number = n ∧ l.prep.getD 0 = k.prep ∧ l.rush = k.rush

/-- The walk `w` over the lines `ls`, from a list that holds `held`. -/
structure WalkSound (held : List Ticket) (tab : Nat) (ls : List Line) (w : SendWalk) : Prop where
  distinct : (w.made.map (·.number)).Nodup
  apart : ∀ m ∈ held.map (·.number), ∀ n ∈ w.made.map (·.number), m ≠ n
  groups : ∀ k ∈ w.made, MadeFrom tab ls w.joined k
  ordered : w.joined.map (·.1) <+: ls.map (·.number)
  whole : w.full = false → w.joined.map (·.1) = ls.map (·.number)
  filled : w.full = true → 96 ≤ held.length + w.made.length
  room : held.length ≤ 96 → held.length + w.made.length ≤ 96

section
variable {held : List Ticket} {tab : Nat} {ls : List Line} {w w' : SendWalk} {l : Line} {k : Ticket} {joined : List (Nat × Nat)}

theorem MadeFrom.mono (h : MadeFrom tab ls joined k) (l : Line) (more : List (Nat × Nat)) :
    MadeFrom tab (ls ++ [l]) (joined ++ more) k :=
  { h with
    line := fun n hn => by
      obtain ⟨hj, x, hx, hfacts⟩ := h.line n hn
      exact ⟨List.mem_append_left _ hj, x, List.mem_append_left _ hx, hfacts⟩ }

theorem MadeFrom.join (h : MadeFrom tab ls joined k) (hk : k.OpenTo l) :
    MadeFrom tab (ls ++ [l]) (joined ++ [(l.number, k.number)]) { k with lines := k.lines ++ [l.number] } := by
  obtain ⟨hprep, hrush, hroom⟩ := hk
  refine { h with one_le := by simp, le_eight := by simp; omega, line := fun n hn => ?_ }
  rcases List.mem_append.1 hn with hold | hnew
  · exact (h.mono l _).line n hold
  · obtain rfl := List.mem_singleton.1 hnew
    exact ⟨by simp, l, by simp, rfl, hprep.symm, hrush.symm⟩

theorem madeFrom_startedBy (n tab : Nat) (ls : List Line) (l : Line) (joined : List (Nat × Nat)) :
    MadeFrom tab (ls ++ [l]) (joined ++ [(l.number, n)]) (.startedBy n tab l) := by
  constructor <;> simp [Ticket.startedBy]

theorem WalkSound.ended (h : WalkSound held tab ls w) (hfull : w.full = true) : WalkSound held tab (ls ++ [l]) w where
  distinct := h.distinct
  apart := h.apart
  groups k hk := by simpa using (h.groups k hk).mono l []
  ordered := by rw [List.map_append]; exact h.ordered.trans (List.prefix_append _ _)
  whole hf := by simp [hfull] at hf
  filled := h.filled
  room := h.room

theorem WalkSound.fills (h : WalkSound held tab ls w) (hcap : 96 ≤ held.length + w.made.length) :
    WalkSound held tab (ls ++ [l]) { w with full := true } :=
  WalkSound.ended { h with whole := by simp, filled := fun _ => hcap } rfl

theorem WalkSound.joins {newer older : List Ticket} (h : WalkSound held tab ls w) (hfull : w.full = false)
    (hmade : w.made = newer ++ k :: older) (hk : k.OpenTo l) : WalkSound held tab (ls ++ [l]) (w.joinTo newer k older l) := by
  have hnumbers : (w.joinTo newer k older l).made.map (·.number) = w.made.map (·.number) := by simp [SendWalk.joinTo, hmade]
  have hlength : (w.joinTo newer k older l).made.length = w.made.length := by simp [SendWalk.joinTo, hmade]
  have hall : (w.joinTo newer k older l).joined.map (·.1) = (ls ++ [l]).map (·.number) := by
    simp [SendWalk.joinTo, h.whole hfull]
  exact {
    distinct := by rw [hnumbers]; exact h.distinct
    apart := by rw [hnumbers]; exact h.apart
    groups := fun x hx => by
      rcases List.mem_append.1 hx with hx | hx
      · exact (h.groups x (by simp [hmade, hx])).mono l _
      · rcases List.mem_cons.1 hx with rfl | hx
        · exact (h.groups k (by simp [hmade])).join hk
        · exact (h.groups x (by simp [hmade, hx])).mono l _
    ordered := hall ▸ List.prefix_rfl
    whole := fun _ => hall
    filled := fun hf => by simp [SendWalk.joinTo, hfull] at hf
    room := by rw [hlength]; exact h.room }

theorem WalkSound.makes {n : Nat} (h : WalkSound held tab ls w) (hfull : w.full = false) (hcap : held.length + w.made.length < 96)
    (hfree : n ∉ usedNumbers held w) : WalkSound held tab (ls ++ [l]) (w.makeFor n tab l) := by
  have hall : (w.makeFor n tab l).joined.map (·.1) = (ls ++ [l]).map (·.number) := by
    simp [SendWalk.makeFor, h.whole hfull]
  rw [usedNumbers, List.map_append, List.mem_append, not_or] at hfree
  obtain ⟨hheld, hmade⟩ := hfree
  exact {
    distinct := List.nodup_cons.2 ⟨hmade, h.distinct⟩
    apart := fun m hm => List.forall_mem_cons.2 ⟨fun heq : m = n => hheld (heq ▸ hm), h.apart m hm⟩
    groups := List.forall_mem_cons.2 ⟨madeFrom_startedBy n tab ls l _, fun x hx => (h.groups x hx).mono l _⟩
    ordered := hall ▸ List.prefix_rfl
    whole := fun _ => hall
    filled := fun hf => by simp [SendWalk.makeFor, hfull] at hf
    room := fun _ => by simp only [SendWalk.makeFor, List.length_cons]; omega }

theorem WalkSound.move (h : WalkSound held tab ls w) (hmove : SendMove held tab w l w') : WalkSound held tab (ls ++ [l]) w' := by
  cases hmove with
  | ended hfull => exact h.ended hfull
  | joins newer k older hfull hmade hk => exact h.joins hfull hmade hk
  | fills hfull hcap => exact h.fills hcap
  | makes n hfull hcap hn hfree => exact h.makes hfull hcap hfree

/-- The counter and the numbers drawn from it are ticket numbers (R13). -/
def NumbersInRange (w : SendWalk) : Prop :=
  (1 ≤ w.counter ∧ w.counter ≤ 65535) ∧ ∀ k ∈ w.made, 1 ≤ k.number ∧ k.number ≤ 65535

theorem NumbersInRange.move (h : NumbersInRange w) (hmove : SendMove held tab w l w') : NumbersInRange w' := by
  obtain ⟨hcounter, hmade⟩ := h
  cases hmove with
  | ended | fills => exact ⟨hcounter, hmade⟩
  | joins newer k older hfull heq hk =>
    refine ⟨hcounter, fun x hx => ?_⟩
    simp only [SendWalk.joinTo, List.mem_append, List.mem_cons] at hx
    rcases hx with hx | rfl | hx
    · exact hmade x (by simp [heq, hx])
    · exact hmade k (by simp [heq])
    · exact hmade x (by simp [heq, hx])
  | makes n hfull hcap hn hfree =>
    exact ⟨nextNumber_range n, List.forall_mem_cons.2 ⟨hn ▸ freeNumber_range hcounter, hmade⟩⟩

end

/-! ## The walk over a tab (R12, R13) -/

theorem sendWalk_append (s : State) (t : Tab) (pre : List Line) (l : Line) :
    sendWalk s { t with lines := pre ++ [l] } =
      if l.state = .new then sendLine s.router.tickets t.number (sendWalk s { t with lines := pre }) l
      else sendWalk s { t with lines := pre } := by
  by_cases hl : l.state = .new <;> simp [sendWalk, newLines, List.filter_append, hl]

theorem walkSound_start (held : List Ticket) (tab counter : Nat) : WalkSound held tab [] ⟨[], counter, [], false⟩ where
  distinct := List.nodup_nil
  apart _ _ _ hn := absurd hn List.not_mem_nil
  groups _ hk := absurd hk List.not_mem_nil
  ordered := List.prefix_rfl
  whole _ := rfl
  filled hf := absurd hf Bool.false_ne_true
  room h := h

theorem WalkSound.foldl {held : List Ticket} {tab : Nat} {before : List Line} {w : SendWalk} (h : WalkSound held tab before w)
    (ls : List Line) : WalkSound held tab (before ++ ls) (ls.foldl (sendLine held tab) w) := by
  induction ls generalizing before w with
  | nil => rw [List.append_nil]; exact h
  | cons l ls ih =>
    rw [List.foldl_cons, List.append_cons]
    exact ih (h.move (sendMove_sendLine held tab l h.distinct))

theorem NumbersInRange.foldl {held : List Ticket} {tab : Nat} {before : List Line} {w : SendWalk} (hs : WalkSound held tab before w)
    (h : NumbersInRange w) (ls : List Line) : NumbersInRange (ls.foldl (sendLine held tab) w) := by
  induction ls generalizing before w with
  | nil => exact h
  | cons l ls ih =>
    have hmove := sendMove_sendLine held tab l hs.distinct
    exact ih (hs.move hmove) (h.move hmove)

theorem walkSound_sendWalk (s : State) (t : Tab) : WalkSound s.router.tickets t.number (newLines t) (sendWalk s t) :=
  (walkSound_start _ _ _).foldl (newLines t)

theorem numbersInRange_sendWalk {s : State} (hc : 1 ≤ s.router.counter ∧ s.router.counter ≤ 65535) (t : Tab) :
    NumbersInRange (sendWalk s t) :=
  .foldl (walkSound_start s.router.tickets t.number _) ⟨hc, fun _ hk => absurd hk List.not_mem_nil⟩ (newLines t)

theorem nodup_usedNumbers {s : State} {t : Tab} (h : (s.router.tickets.map (·.number)).Nodup) :
    (usedNumbers s.router.tickets (sendWalk s t)).Nodup := by
  rw [usedNumbers, List.map_append, List.nodup_append]
  exact ⟨h, (walkSound_sendWalk s t).distinct, (walkSound_sendWalk s t).apart⟩

/-- A ticket made takes the first number from the counter on that no record holds, and the counter passes it. -/
theorem sendLine_draws {held : List Ticket} {tab : Nat} {w : SendWalk} {l : Line} (hc : 1 ≤ w.counter ∧ w.counter ≤ 65535)
    (hfull : w.full = false) (hnone : ∀ x ∈ w.made, ¬x.OpenTo l) (hcap : held.length + w.made.length < 96) :
    let heldNumber := fun (n : Nat) => ∃ k ∈ held ++ w.made, k.number = n
    let numberAt := fun (i : Nat) => (w.counter - 1 + i) % 65535 + 1
    ∃ j, j < 96 ∧ ¬heldNumber (numberAt j) ∧ (∀ i, i < j → heldNumber (numberAt i)) ∧
      sendLine held tab w l =
        { w with
          made := .startedBy (numberAt j) tab l :: w.made
          counter := if numberAt j = 65535 then 1 else numberAt j + 1
          joined := w.joined ++ [(l.number, numberAt j)] } := by
  intro heldNumber numberAt
  obtain ⟨j, hj, hfree, hbefore, heq⟩ := freeNumber_first (exists_free_number w.counter (length_usedNumbers held w ▸ hcap))
  simp only [numberFrom_eq hc, mem_usedNumbers] at hfree hbefore heq
  refine ⟨j, hj, hfree, hbefore, ?_⟩
  rw [sendLine_makes hfull hnone hcap, heq, SendWalk.makeFor, nextNumber_eq (by omega)]

/-! ## What the walk leaves (R12, R13) -/

theorem groupLine_of_not_joined {joined : List (Nat × Nat)} {l : Line} (h : ∀ n, (l.number, n) ∉ joined) : groupLine joined l = l := by
  have hnone : joined.find? (·.1 == l.number) = none :=
    List.find?_eq_none.2 fun ⟨m, n⟩ hp hm => h n (by simpa [← beq_iff_eq.1 hm] using hp)
  simp [groupLine, hnone]

theorem findTab_applyWalk {s : State} {t : Tab} (w : SendWalk) (h : findTab s t.number = some t) :
    findTab (applyWalk t.number w s) t.number = some { t with lines := t.lines.map (groupLine w.joined) } := by
  refine (findTab_modTab _ _ ?_ _).trans (congrArg _ h)
  exact fun _ => rfl

/-- Settles O22: the walk's invariant gives what it makes, `sendLine`'s equations give one line more, `applyWalk` what it leaves. -/
theorem sendWalkGroups : Obligations.SendWalkGroups := by
  refine ⟨rfl, fun s t => ?_, fun _ _ => rfl, fun s t pre l hl => ?_, fun s t pre l hl hlow hhigh => ?_, fun s t hfind => ?_⟩
  · obtain ⟨-, -, hgroups, hordered, hwhole, hfilled, hroom⟩ := walkSound_sendWalk s t
    refine ⟨fun k hk => ?_, hordered, hwhole, hfilled, hroom, fun hnodup hlow hhigh => ?_⟩
    · obtain ⟨hone, height, htab, hpending, hattempts, htried, hstray, hline⟩ := hgroups k hk
      exact ⟨hone, height, htab, hpending, hattempts, htried, hstray, hline⟩
    · obtain ⟨⟨hclow, hchigh⟩, hmade⟩ := numbersInRange_sendWalk ⟨hlow, hhigh⟩ t
      exact ⟨nodup_usedNumbers hnodup, hmade, hclow, hchigh⟩
  · rw [sendWalk_append, if_neg hl]
  · have hdist := (walkSound_sendWalk s { t with lines := pre }).distinct
    obtain ⟨hcounter, -⟩ := numbersInRange_sendWalk ⟨hlow, hhigh⟩ { t with lines := pre }
    rw [sendWalk_append, if_pos hl]
    exact ⟨sendLine_of_full, fun hfull =>
      ⟨fun newer k older hmade hk hnewer => sendLine_joins hfull hdist hmade hk hnewer,
        fun hnone => ⟨sendLine_fills hfull hnone, sendLine_draws hcounter hfull hnone⟩⟩⟩
  · refine ⟨rfl, _, findTab_applyWalk _ hfind, List.length_map _, fun l hl hnot => ?_⟩
    exact List.mem_map.2 ⟨l, hl, groupLine_of_not_joined hnot⟩

end Sys2Proof.Machine
end

section
/-! Refill, Reload to preset and Recount (R123, R125 to R127): what a command on one portion entry answers, and what it leaves. -/

namespace Sys2Proof.Machine

/-! ## A command on one portion entry (R123) -/

/-- `t` is `s` with the portion entry of `item` now `p'`: every other entry, and every other part of the block, is as it was. -/
def EntryBecomes (s : State) (item : Nat) (p' : Portion) (t : State) : Prop :=
  findPortion t item = some p' ∧ (∀ i, i ≠ item → findPortion t i = findPortion s i) ∧ t = { s with portions := t.portions }

theorem entryBecomes_modPortion {s : State} {item : Nat} {p : Portion} {f : Portion → Portion} (hp : findPortion s item = some p)
    (hf : ∀ q, q.item = item → (f q).item = item) : EntryBecomes s item (f p) (modPortion item f s) := by
  refine ⟨?_, fun i hi => find_mapIf_other _ _ f (fun q hq => ?_) s.portions, rfl⟩
  · calc findPortion (modPortion item f s) item
        = (findPortion s item).map f := find_mapIf _ f (fun q hq => by simpa using hf q (by simpa using hq)) s.portions
      _ = some (f p) := by rw [hp]; rfl
  · have hq' : q.item = item := by simpa using hq
    simp [hq', hf q hq', Ne.symm hi]

theorem withPortion_out_of_range {item : Nat} {ok : Bool} (rule : Portion → Body) (s : State) (h : ¬(item ≤ 4095 ∧ ok = true)) :
    withPortion item ok rule s = refuse .BAD_PARAM s := by
  refine if_pos ?_
  rwa [Classical.not_and_iff_not_or_not, Nat.not_le, Bool.not_eq_true] at h

theorem withPortion_in_range {item : Nat} {ok : Bool} (rule : Portion → Body) (s : State) (h : item ≤ 4095 ∧ ok = true) :
    withPortion item ok rule s = (findPortion s item).elim (refuse .NO_ENTRY s) (rule · s) := by
  obtain ⟨hitem, rfl⟩ := h
  cases hfind : findPortion s item <;> simp [withPortion, Nat.not_lt.2 hitem, hfind]

/-! The lemmas below hold of every command `c` whose row is a job of the kitchen with `withPortion`. -/

section
variable {c : Instr} {s : State} {item : Nat} {ok : Bool} {rule : Portion → Body}

/-- The command carried out on an entry that its rule changes. -/
theorem exec_changes_entry {p p' : Portion} {r : Reply} (f : Portion → Portion)
    (hexec : exec c s = carryOut c (job (some .kitchen) (withPortion item ok rule)) s) (hready : jobReady c .kitchen s = true)
    (hranged : item ≤ 4095 ∧ ok = true) (hp : findPortion s item = some p) (hrule : rule p s = (r, modPortion item f s))
    (hf : ∀ q, q.item = item → (f q).item = item) (hnew : f p = p') :
    ∃ t, exec c s = .next (afterCommand c s r t) ∧ EntryBecomes s item p' t := by
  refine ⟨modPortion item f s, ?_, hnew ▸ entryBecomes_modPortion hp hf⟩
  rw [hexec, carryOut_job _ hready, withPortion_in_range _ _ hranged, hp, Option.elim_some, hrule]

/-- The refusals in the order of R123, each of which changes nothing. -/
theorem exec_refusals {ranged : Prop} {full : Portion → Prop}
    (hexec : exec c s = carryOut c (job (some .kitchen) (withPortion item ok rule)) s) (hready : jobReady c .kitchen s = true)
    (hranged : ranged ↔ item ≤ 4095 ∧ ok = true) (hfull : ∀ p, full p → rule p s = refuse .FULL s) :
    (¬ranged → exec c s = .next (afterCommand c s (.bare .BAD_PARAM) s)) ∧
    (ranged → findPortion s item = none → exec c s = .next (afterCommand c s (.bare .NO_ENTRY) s)) ∧
    (∀ p, ranged → findPortion s item = some p → full p → exec c s = .next (afterCommand c s (.bare .FULL) s)) := by
  rw [hexec, carryOut_job _ hready, hranged]
  refine ⟨fun hr => ?_, fun hr hnone => ?_, fun p hr hp hp' => ?_⟩
  · rw [withPortion_out_of_range rule s hr, refuse]
  · rw [withPortion_in_range rule s hr, hnone, Option.elim_none, refuse]
  · rw [withPortion_in_range rule s hr, hp, Option.elim_some, hfull p hp', refuse]

end

/-! ## The new figures (R125 to R127) -/

theorem le_portionLimit_iff (n : Nat) : n ≤ Config.portionLimit ↔ n ≤ 9999 := Iff.rfl

theorem loadedFits_eq_false_iff (v : Int) : loadedFits v = false ↔ (4294967295 : Int) < v := by
  rw [loadedFits, decide_eq_false_iff_not, Int.not_le]
  rfl

/-- While remaining is within loaded, loaded moves with remaining (R126, R127). -/
theorem Portion.setRemaining_of_le {p : Portion} (v : Nat) (h : p.remaining ≤ p.loaded) :
    p.setRemaining v = { p with remaining := v, loaded := p.loaded - p.remaining + v } := by
  have hloaded : ((p.loaded : Int) + ((v : Int) - (p.remaining : Int))).toNat = p.loaded - p.remaining + v := by omega
  rw [Portion.setRemaining, hloaded]

theorem loadedFits_of_le {p : Portion} {v : Nat} (h : p.remaining ≤ p.loaded) (hv : p.loaded - p.remaining + v ≤ 4294967295) :
    ¬loadedFits ((p.loaded : Int) + ((v : Int) - (p.remaining : Int))) = false := by
  rw [loadedFits_eq_false_iff]
  omega

section
variable {s : State} {item n : Nat} {p : Portion}

theorem exec_refill_ok (hready : jobReady (.refill item n) .kitchen s = true) (hitem : item ≤ 4095) (hn : n ≤ 9999)
    (hp : findPortion s item = some p) (hfits : p.loaded + min n (9999 - p.remaining) ≤ 4294967295) :
    let taken := min n (9999 - p.remaining)
    ∃ t, exec (.refill item n) s = .next (afterCommand (.refill item n) s ⟨.OK, e2 taken ++ e2 (p.remaining + taken)⟩ t) ∧
      EntryBecomes s item { p with remaining := p.remaining + taken, loaded := p.loaded + taken } t := by
  have hkey : p.item = item := item_of_findPortion hp
  exact exec_changes_entry (fun _ => { p with remaining := _, loaded := _ }) rfl hready ⟨hitem, decide_eq_true hn⟩ hp
    (if_neg (Nat.not_lt.2 hfits)) (fun _ _ => hkey) rfl

theorem exec_reloadToPreset_ok (hready : jobReady (.reloadToPreset item) .kitchen s = true) (hitem : item ≤ 4095)
    (hp : findPortion s item = some p) (hle : p.remaining ≤ p.loaded) (hfits : p.loaded - p.remaining + p.preset ≤ 4294967295) :
    ∃ t, exec (.reloadToPreset item) s =
        .next (afterCommand (.reloadToPreset item) s ⟨.OK, e2 p.preset ++ es4 ((p.preset : Int) - (p.remaining : Int))⟩ t) ∧
      EntryBecomes s item { p with remaining := p.preset, loaded := p.loaded - p.remaining + p.preset } t :=
  exec_changes_entry (fun q => q.setRemaining q.preset) rfl hready ⟨hitem, rfl⟩ hp (if_neg (loadedFits_of_le hle hfits))
    (fun _ hq => hq) (Portion.setRemaining_of_le p.preset hle)

theorem exec_recount_ok (hready : jobReady (.recount item n) .kitchen s = true) (hitem : item ≤ 4095) (hn : n ≤ 9999)
    (hp : findPortion s item = some p) (hle : p.remaining ≤ p.loaded) (hfits : p.loaded - p.remaining + n ≤ 4294967295) :
    ∃ t, exec (.recount item n) s =
        .next (afterCommand (.recount item n) s ⟨.OK, es4 ((n : Int) - (p.remaining : Int)) ++ e2 n⟩ t) ∧
      EntryBecomes s item
        { p with
          remaining := n
          loaded := p.loaded - p.remaining + n
          adjust := clampAdjust (p.adjust + ((n : Int) - (p.remaining : Int))) } t := by
  refine exec_changes_entry
    (fun q => { q.setRemaining n with adjust := clampAdjust (q.adjust + ((n : Int) - (p.remaining : Int))) })
    rfl hready ⟨hitem, decide_eq_true hn⟩ hp (if_neg (loadedFits_of_le hle hfits)) (fun _ hq => hq) ?_
  rw [Portion.setRemaining_of_le n hle]

end

/-- Settles O52: each command's rule on an entry gives its figures, and `withPortion` the refusals the three share. -/
theorem refillReloadRecount : Obligations.RefillReloadRecount := by
  refine ⟨fun item n p s hitem hp _ hn => ⟨?_, ?_, ?_⟩, fun item n c s hc hready => ?_⟩
  · exact fun hready hfits => exec_refill_ok hready hitem hn hp hfits
  · exact fun hready hle hfits => exec_reloadToPreset_ok hready hitem hp hle hfits
  · exact fun hready hle hfits => exec_recount_ok hready hitem hn hp hle hfits
  · rcases hc with rfl | rfl | rfl
    case inl =>
      refine exec_refusals rfl hready (by simp [le_portionLimit_iff]) fun p hfull => if_pos ?_
      simpa [Config.max32, Config.portionLimit] using hfull
    case inr.inl =>
      refine exec_refusals rfl hready (by simp) fun p hfull => if_pos ?_
      simpa [loadedFits_eq_false_iff] using hfull
    case inr.inr =>
      refine exec_refusals rfl hready (by simp [le_portionLimit_iff]) fun p hfull => if_pos ?_
      simpa [loadedFits_eq_false_iff] using hfull

end Sys2Proof.Machine
end

section
/-! What one step can do to the parts of the block that the invariants speak of (Sys2Proof/Safety.lean): a relation between two states,
one field for each part, kept by every operation of the model. -/

namespace Sys2Proof.Machine

/-! ## Lists

The model's files import nothing, and this file nothing but them: what the proofs need about lists beyond the core library stands here. -/

theorem nodup_map {α β : Type} {f : α → β} {l : List α} (h : l.Nodup) (hinj : ∀ a ∈ l, ∀ b ∈ l, f a = f b → a = b) :
    (l.map f).Nodup :=
  List.pairwise_map.2 (List.Pairwise.imp_of_mem (fun ha hb hne heq => hne (hinj _ ha _ hb heq)) h)

/-- Distinct names: two members under one name are one. -/
theorem eq_of_nodup_map {α β : Type} {f : α → β} {l : List α} (h : (l.map f).Nodup) {a b : α} (ha : a ∈ l) (hb : b ∈ l)
    (hab : f a = f b) : a = b := by
  induction l with
  | nil => exact absurd ha List.not_mem_nil
  | cons x l ih =>
    obtain ⟨hx, hl⟩ := List.nodup_cons.1 h
    rcases List.mem_cons.1 ha with rfl | hal <;> rcases List.mem_cons.1 hb with rfl | hbl
    · rfl
    · exact absurd (hab ▸ List.mem_map_of_mem hbl) hx
    · exact absurd (hab ▸ List.mem_map_of_mem hal) hx
    · exact ih hl hal hbl

theorem nodup_singleton {α : Type} (a : α) : [a].Nodup := List.nodup_cons.2 ⟨List.not_mem_nil, List.Pairwise.nil⟩

theorem length_filter_mono {α : Type} {p q : α → Bool} {l : List α} (h : ∀ a ∈ l, p a = true → q a = true) :
    (l.filter p).length ≤ (l.filter q).length := by
  rw [← List.countP_eq_length_filter, ← List.countP_eq_length_filter]
  exact List.countP_mono_left h

theorem sum_perm {l m : List Nat} (h : l.Perm m) : l.sum = m.sum := by
  induction h with
  | nil => rfl
  | cons x _ ih => rw [List.sum_cons, List.sum_cons, ih]
  | swap x y l => simp only [List.sum_cons]; omega
  | trans _ _ h1 h2 => exact h1.trans h2

/-- Distinct members of a list that has no more of them are all its members. -/
theorem perm_of_subset {α : Type} {l m : List α} (hl : l.Nodup) (hm : m.Nodup) (hsub : l ⊆ m) (hlen : m.length ≤ l.length) :
    l.Perm m := by
  refine (List.perm_ext_iff_of_nodup hl hm).2 fun a => ⟨fun ha => hsub ha, fun ha => Classical.byContradiction fun hno => ?_⟩
  have hle : (a :: l).length ≤ m.length :=
    (List.nodup_cons.2 ⟨hno, hl⟩).length_le_of_subset (List.cons_subset.2 ⟨ha, hsub⟩)
  exact Nat.not_succ_le_self _ (Nat.le_trans hle hlen)

/-! ## The invariants by their parts -/

/-- The four notice queues within their capacities (R174). -/
structure PortFits (p : Port) : Prop where
  link : p.link.length ≤ Level.link.capacity
  money : p.money.length ≤ Level.money.capacity
  kitchen : p.kitchen.length ≤ Level.kitchen.capacity
  peers : p.peers.length ≤ Level.peers.capacity

/-- The transmit queue within its capacity and its counts within their ranges (R153, R154). -/
structure TxFits (x : Transmit) : Prop where
  transmit : x.slots.length ≤ Config.txCapacity
  low : lowCount x.slots ≤ Config.txLowCapacity
  slots : ∀ y ∈ x.slots, y.age ≤ 7 ∧ y.faults ≤ 3
  wire : (x.slots.filter (·.onWire)).length ≤ 1
  dropped : x.dropped ≤ 65535

/-- The counts of the lane front end within their ranges. -/
structure LinkFits (l : Link) : Prop where
  disagree : l.disagree ≤ 255
  errorsA : l.a.errors ≤ 255
  errorsB : l.b.errors ≤ 255

/-- The takings unit's figures within their ranges (R55 to R58). -/
structure TakingsFit (t : Takings) : Prop where
  period : t.period ≤ Config.maxPeriod
  span : t.spanStart ≤ t.period
  accums : t.accums.inRange
  captures : ∀ c, t.slot1 = some c ∨ t.slot2 = some c → c.accums.inRange

/-- Live exchange entries under distinct tags of one byte (R165). -/
structure ExchKeys (x : Exchange) : Prop where
  entries : x.entries.length ≤ Config.exchangeCapacity
  tags : (x.entries.map (·.tag)).Nodup
  tagRange : ∀ e ∈ x.entries, e.tag < 256
  tagCounter : x.counter < 256

/-- Ticket numbers distinct and in range, the counter in range (R13). -/
structure TicketKeys (r : Router) : Prop where
  tickets : (r.tickets.map (·.number)).Nodup
  range : ∀ t ∈ r.tickets, 1 ≤ t.number ∧ t.number ≤ 65535
  counter : 1 ≤ r.counter ∧ r.counter ≤ 65535

/-- Tab numbers ascending and in range (R2). -/
structure TabKeys (l : List Tab) : Prop where
  tabs : (l.map (·.number)).Pairwise (· < ·)
  range : ∀ t ∈ l, 1 ≤ t.number ∧ t.number ≤ Config.tabCapacity

/-- What a claims list entry is named by. -/
def ClaimEntry.key (e : ClaimEntry) : Nat × Nat × Nat := (e.home, e.tab, e.share)

/-- What a stock view entry is named by. -/
def StockEntry.key (e : StockEntry) : Nat × Nat := (e.item, e.kitchen)

/-- `DirectorySound` of a directory and this station's number alone. -/
structure DirSound (number : Nat) (d : Directory) : Prop where
  fits : d.entries.length ≤ Config.peerCapacity
  ordered : (d.entries.map (·.station)).Pairwise (· < ·)
  stations : ∀ p ∈ d.entries, isStation p.station = true ∧ p.station ≠ number
  lostOnce : d.lostOrder.Nodup
  lost : ∀ k, k ∈ d.lostOrder ↔ ∃ p ∈ d.entries, p.station = k ∧ p.presence = .lost
  silence : ∀ p ∈ d.entries, p.presence = .present ↔ p.silence.isSome = true
  load : ∀ p ∈ d.entries, p.load.isSome = true → p.kitchen = true

theorem directorySound_iff {s : State} : DirectorySound s ↔ DirSound (own s) s.dir :=
  ⟨fun ⟨h1, h2, h3, h4, h5, h6, h7⟩ => ⟨h1, h2, h3, h4, h5, h6, h7⟩,
    fun ⟨h1, h2, h3, h4, h5, h6, h7⟩ => ⟨h1, h2, h3, h4, h5, h6, h7⟩⟩

/-- The load fields of every entry within their ranges (R62). -/
def LoadsFit (d : Directory) : Prop := ∀ p ∈ d.entries, ∀ l, p.load = some l → l.inRange

/-- Every ticket under a reference has all its lines VOID. -/
def AllVoid (ref : Nat) (k : Kitchen) : Prop := ∀ t ∈ k.all, t.ref = ref → t.active = []

/-- No tab under a number is SPLITTING. -/
def NotSplitting (n : Nat) (l : List Tab) : Prop := ∀ t ∈ l, t.number = n → t.state ≠ .splitting

/-! ## What a step keeps -/

/-- `t` keeps what the invariants say of `s`, part by part, the directory's apart; no tab is made. -/
structure KeepsBlocks (s t : State) : Prop where
  number : own t = own s
  state : t.station.state = s.station.state
  inReset : t.station.inReset = s.station.inReset
  cfg : t.cfg = s.cfg
  pending : t.pending = s.pending
  port : PortFits s.port → PortFits t.port
  tx : TxFits s.tx → TxFits t.tx
  rx : s.rx.length ≤ Config.rxCapacity → t.rx.length ≤ Config.rxCapacity
  exch : s.exch.entries.length ≤ Config.exchangeCapacity → t.exch.entries.length ≤ Config.exchangeCapacity
  exchKeys : ExchKeys s.exch → ExchKeys t.exch
  tabCount : t.tabs.length ≤ s.tabs.length
  tabKeys : TabKeys s.tabs → TabKeys t.tabs
  noTab : ∀ n, findTab s n = none → findTab t n = none
  finals : ∀ tab line st, lineState s tab line = some st → st.final = true →
    findTab t tab = none ∨ lineState t tab line = some st
  tabsCurrent : TabKeys s.tabs → TabsCurrent s → TabsCurrent t
  splits : SplitsSound s → SplitsSound t
  tickets : s.router.tickets.length ≤ Config.ticketCapacity → t.router.tickets.length ≤ Config.ticketCapacity
  ticketKeys : TicketKeys s.router → TicketKeys t.router
  voids : s.router.voids.length ≤ Config.voidCapacity → t.router.voids.length ≤ Config.voidCapacity
  claims : s.claims.length ≤ Config.claimCapacity → t.claims.length ≤ Config.claimCapacity
  claimKeys : (s.claims.map ClaimEntry.key).Nodup → (t.claims.map ClaimEntry.key).Nodup
  kitchenCount : s.kitchen.all.length ≤ Config.kitchenCapacity → t.kitchen.all.length ≤ Config.kitchenCapacity
  kitchen : KitchenSound s → KitchenSound t
  balance : PortionsBalance s → PortionsBalance t
  portions : s.portions.length ≤ Config.portionCapacity → t.portions.length ≤ Config.portionCapacity
  portionKeys : (s.portions.map (·.item)).Pairwise (· < ·) → (t.portions.map (·.item)).Pairwise (· < ·)
  stock : s.stock.length ≤ Config.stockCapacity → t.stock.length ≤ Config.stockCapacity
  stockKeys : (s.stock.map StockEntry.key).Nodup → (t.stock.map StockEntry.key).Nodup
  link : LinkFits s.link → LinkFits t.link
  takings : TakingsFit s.takings → TakingsFit t.takings

/-- `t` keeps the directory's part too. -/
structure Keeps (s t : State) : Prop extends KeepsBlocks s t where
  dir : DirSound (own s) s.dir → DirSound (own t) t.dir
  loads : LoadsFit s.dir → LoadsFit t.dir

/-- `t` has no new line at work on a voided ticket and no new SPLITTING tab: what the blocks hand over to each other within an event. -/
structure KeepsInner (s t : State) : Prop extends Keeps s t where
  voided : ∀ ref, AllVoid ref s.kitchen → AllVoid ref t.kitchen
  notSplitting : ∀ n, NotSplitting n s.tabs → NotSplitting n t.tabs

section
variable {s t u : State}

theorem KeepsBlocks.refl (s : State) : KeepsBlocks s s := by
  constructor <;> first | exact rfl | exact id | exact Nat.le_refl _ | exact fun _ => id | exact fun _ _ _ h _ => .inr h

theorem KeepsBlocks.trans (h : KeepsBlocks s t) (k : KeepsBlocks t u) : KeepsBlocks s u where
  number := k.number.trans h.number
  state := k.state.trans h.state
  inReset := k.inReset.trans h.inReset
  cfg := k.cfg.trans h.cfg
  pending := k.pending.trans h.pending
  port := k.port ∘ h.port
  tx := k.tx ∘ h.tx
  rx := k.rx ∘ h.rx
  exch := k.exch ∘ h.exch
  exchKeys := k.exchKeys ∘ h.exchKeys
  tabCount := Nat.le_trans k.tabCount h.tabCount
  tabKeys := k.tabKeys ∘ h.tabKeys
  noTab n := k.noTab n ∘ h.noTab n
  finals tab line st hs hf := (h.finals tab line st hs hf).elim (fun hn => .inl (k.noTab tab hn)) fun ht => k.finals tab line st ht hf
  tabsCurrent hk ht := k.tabsCurrent (h.tabKeys hk) (h.tabsCurrent hk ht)
  splits := k.splits ∘ h.splits
  tickets := k.tickets ∘ h.tickets
  ticketKeys := k.ticketKeys ∘ h.ticketKeys
  voids := k.voids ∘ h.voids
  claims := k.claims ∘ h.claims
  claimKeys := k.claimKeys ∘ h.claimKeys
  kitchenCount := k.kitchenCount ∘ h.kitchenCount
  kitchen := k.kitchen ∘ h.kitchen
  balance := k.balance ∘ h.balance
  portions := k.portions ∘ h.portions
  portionKeys := k.portionKeys ∘ h.portionKeys
  stock := k.stock ∘ h.stock
  stockKeys := k.stockKeys ∘ h.stockKeys
  link := k.link ∘ h.link
  takings := k.takings ∘ h.takings

theorem Keeps.refl (s : State) : Keeps s s := ⟨.refl s, id, id⟩

theorem Keeps.trans (h : Keeps s t) (k : Keeps t u) : Keeps s u :=
  ⟨h.toKeepsBlocks.trans k.toKeepsBlocks, k.dir ∘ h.dir, k.loads ∘ h.loads⟩

theorem KeepsInner.refl (s : State) : KeepsInner s s := ⟨.refl s, fun _ => id, fun _ => id⟩

theorem KeepsInner.trans (h : KeepsInner s t) (k : KeepsInner t u) : KeepsInner s u :=
  ⟨h.toKeeps.trans k.toKeeps, fun r => k.voided r ∘ h.voided r, fun n => k.notSplitting n ∘ h.notSplitting n⟩

theorem Keeps.ite {p : Prop} [Decidable p] {a b : State} (ha : Keeps s a) (hb : Keeps s b) : Keeps s (if p then a else b) := by
  split
  · exact ha
  · exact hb

theorem KeepsInner.ite {p : Prop} [Decidable p] {a b : State} (ha : KeepsInner s a) (hb : KeepsInner s b) :
    KeepsInner s (if p then a else b) := by
  split
  · exact ha
  · exact hb

theorem Keeps.foldl {α : Type} {f : State → α → State} (hf : ∀ s a, Keeps s (f s a)) (l : List α) (s : State) :
    Keeps s (l.foldl f s) := by
  induction l generalizing s with
  | nil => exact .refl s
  | cons a l ih => exact (hf s a).trans (ih (f s a))

theorem KeepsInner.foldl {α : Type} {f : State → α → State} (hf : ∀ s a, KeepsInner s (f s a)) (l : List α) (s : State) :
    KeepsInner s (l.foldl f s) := by
  induction l generalizing s with
  | nil => exact .refl s
  | cons a l ih => exact (hf s a).trans (ih (f s a))

end

/-! ## Updates of one part

Where an update names one part alone, every other part's invariant is carried over as it stands. -/

section
variable {s : State}

theorem TabsCurrent.congr {s t : State} (h : TabsCurrent s) (hst : t.station.state = s.station.state) (ht : t.tabs = s.tabs)
    (hc : t.cfg = s.cfg) : TabsCurrent t := by
  obtain ⟨h1, h2, h3, h4⟩ := h
  exact ⟨by rwa [hst, ht], by rwa [ht], by rwa [ht], by rwa [ht, hc]⟩

theorem SplitsSound.congr {s t : State} (h : SplitsSound s) (hst : t.station.state = s.station.state) (hn : own t = own s)
    (ht : t.tabs = s.tabs) (he : t.engine = s.engine) : SplitsSound t := by
  obtain ⟨h1, h2, h3, h4, h5, h6, h7, h8⟩ := h
  exact ⟨by rwa [hst, hn], by rwa [ht], by rwa [ht], by rwa [ht], by rwa [ht], by rwa [ht], by rwa [ht, he], by rwa [ht, he]⟩

theorem KitchenSound.congr {s t : State} (h : KitchenSound s) (hst : t.station.state = s.station.state) (hk : t.kitchen = s.kitchen)
    (hc : t.cfg.fireLimit = s.cfg.fireLimit) : KitchenSound t := by
  obtain ⟨h1, h2, h3, h4, h5, h6, h7⟩ := h
  exact ⟨by rwa [hst, hk], by rwa [hk], by rwa [hk], by rwa [hk], by rwa [hk], by rwa [hk], by rwa [hk, hc]⟩

theorem PortionsBalance.congr {s t : State} (h : PortionsBalance s) (hs : KitchenSound s → KitchenSound t)
    (hk : t.kitchen = s.kitchen) (hp : t.portions = s.portions) : PortionsBalance t := by
  obtain ⟨h1, h2, h3, h4, h5, h6, h7, h8, h9, h10, h11, h12⟩ := h
  exact ⟨hs h1, by rwa [hp], by rwa [hp], by rwa [hp], by rwa [hp], by rwa [hp], by rwa [hk], by rwa [hp, hk], by rwa [hp], by rwa [hp],
    by rwa [hp, hk], by rwa [hp, hk]⟩

/-- The parts of the state that most updates do not name. -/
structure SameRecords (s t : State) : Prop where
  number : own t = own s
  state : t.station.state = s.station.state
  inReset : t.station.inReset = s.station.inReset
  cfg : t.cfg = s.cfg
  pending : t.pending = s.pending
  tabs : t.tabs = s.tabs
  engine : t.engine = s.engine
  kitchen : t.kitchen = s.kitchen
  portions : t.portions = s.portions
  dir : t.dir = s.dir

/-- An update outside tabs, engine, kitchen, portions and directory keeps all, if it keeps the plain parts. -/
theorem SameRecords.keeps {s t : State} (h : SameRecords s t) (port : PortFits s.port → PortFits t.port)
    (tx : TxFits s.tx → TxFits t.tx) (rx : s.rx.length ≤ Config.rxCapacity → t.rx.length ≤ Config.rxCapacity)
    (exch : s.exch.entries.length ≤ Config.exchangeCapacity → t.exch.entries.length ≤ Config.exchangeCapacity)
    (exchKeys : ExchKeys s.exch → ExchKeys t.exch)
    (tickets : s.router.tickets.length ≤ Config.ticketCapacity → t.router.tickets.length ≤ Config.ticketCapacity)
    (ticketKeys : TicketKeys s.router → TicketKeys t.router)
    (voids : s.router.voids.length ≤ Config.voidCapacity → t.router.voids.length ≤ Config.voidCapacity)
    (claims : s.claims.length ≤ Config.claimCapacity → t.claims.length ≤ Config.claimCapacity)
    (claimKeys : (s.claims.map ClaimEntry.key).Nodup → (t.claims.map ClaimEntry.key).Nodup)
    (stock : s.stock.length ≤ Config.stockCapacity → t.stock.length ≤ Config.stockCapacity)
    (stockKeys : (s.stock.map StockEntry.key).Nodup → (t.stock.map StockEntry.key).Nodup)
    (link : LinkFits s.link → LinkFits t.link) (takings : TakingsFit s.takings → TakingsFit t.takings) : KeepsInner s t := by
  obtain ⟨hn, hst, hr, hc, hp, ht, he, hk, hq, hd⟩ := h
  have hkitchen : KitchenSound s → KitchenSound t := fun h => h.congr hst hk (by rw [hc])
  have hfind : ∀ n, findTab t n = findTab s n := fun n => by rw [findTab, ht, findTab]
  have hline : ∀ tab line, lineState t tab line = lineState s tab line := fun tab line => by simp [lineState, hfind]
  refine ⟨⟨⟨hn, hst, hr, hc, hp, port, tx, rx, exch, exchKeys, Nat.le_of_eq (congrArg List.length ht), by rw [ht]; exact id, fun n h => by rw [hfind, h],
    fun tab line st hs _ => .inr (by rw [hline, hs]), fun _ h => h.congr hst ht hc, fun h => h.congr hst hn ht he, tickets, ticketKeys,
    voids, claims, claimKeys, by rw [hk]; exact id, hkitchen, fun h => h.congr hkitchen hk hq, by rw [hq]; exact id,
    by rw [hq]; exact id, stock, stockKeys, link, takings⟩, by rw [hd, hn]; exact id, by rw [hd]; exact id⟩,
    fun r => by rw [hk]; exact id, fun n => by rw [ht]; exact id⟩

theorem keeps_port {p : Port} (h : PortFits s.port → PortFits p) : KeepsInner s { s with port := p } :=
  SameRecords.keeps ⟨rfl, rfl, rfl, rfl, rfl, rfl, rfl, rfl, rfl, rfl⟩ h id id id id id id id id id id id id id

theorem keeps_tx {x : Transmit} (h : TxFits s.tx → TxFits x) : KeepsInner s { s with tx := x } :=
  SameRecords.keeps ⟨rfl, rfl, rfl, rfl, rfl, rfl, rfl, rfl, rfl, rfl⟩ id h id id id id id id id id id id id id

theorem keeps_rx {l : List Frame} (h : s.rx.length ≤ Config.rxCapacity → l.length ≤ Config.rxCapacity) :
    KeepsInner s { s with rx := l } :=
  SameRecords.keeps ⟨rfl, rfl, rfl, rfl, rfl, rfl, rfl, rfl, rfl, rfl⟩ id id h id id id id id id id id id id id

theorem keeps_exch {x : Exchange} (h : s.exch.entries.length ≤ Config.exchangeCapacity → x.entries.length ≤ Config.exchangeCapacity)
    (hk : ExchKeys s.exch → ExchKeys x) : KeepsInner s { s with exch := x } :=
  SameRecords.keeps ⟨rfl, rfl, rfl, rfl, rfl, rfl, rfl, rfl, rfl, rfl⟩ id id id h hk id id id id id id id id id

theorem keeps_router {r : Router}
    (h : s.router.tickets.length ≤ Config.ticketCapacity → r.tickets.length ≤ Config.ticketCapacity)
    (hk : TicketKeys s.router → TicketKeys r)
    (hv : s.router.voids.length ≤ Config.voidCapacity → r.voids.length ≤ Config.voidCapacity) :
    KeepsInner s { s with router := r } :=
  SameRecords.keeps ⟨rfl, rfl, rfl, rfl, rfl, rfl, rfl, rfl, rfl, rfl⟩ id id id id id h hk hv id id id id id id

theorem keeps_claims {l : List ClaimEntry} (h : s.claims.length ≤ Config.claimCapacity → l.length ≤ Config.claimCapacity)
    (hk : (s.claims.map ClaimEntry.key).Nodup → (l.map ClaimEntry.key).Nodup) : KeepsInner s { s with claims := l } :=
  SameRecords.keeps ⟨rfl, rfl, rfl, rfl, rfl, rfl, rfl, rfl, rfl, rfl⟩ id id id id id id id id h hk id id id id

theorem keeps_stock {l : List StockEntry} (h : s.stock.length ≤ Config.stockCapacity → l.length ≤ Config.stockCapacity)
    (hk : (s.stock.map StockEntry.key).Nodup → (l.map StockEntry.key).Nodup) : KeepsInner s { s with stock := l } :=
  SameRecords.keeps ⟨rfl, rfl, rfl, rfl, rfl, rfl, rfl, rfl, rfl, rfl⟩ id id id id id id id id id id h hk id id

theorem keeps_link {l : Link} (h : LinkFits s.link → LinkFits l) : KeepsInner s { s with link := l } :=
  SameRecords.keeps ⟨rfl, rfl, rfl, rfl, rfl, rfl, rfl, rfl, rfl, rfl⟩ id id id id id id id id id id id id h id

theorem keeps_takings {x : Takings} (h : TakingsFit s.takings → TakingsFit x) : KeepsInner s { s with takings := x } :=
  SameRecords.keeps ⟨rfl, rfl, rfl, rfl, rfl, rfl, rfl, rfl, rfl, rfl⟩ id id id id id id id id id id id id id h

theorem keeps_beacon (b : BeaconUnit) : KeepsInner s { s with beacon := b } :=
  SameRecords.keeps ⟨rfl, rfl, rfl, rfl, rfl, rfl, rfl, rfl, rfl, rfl⟩ id id id id id id id id id id id id id id

/-- The station's clock and timers are named by no invariant. -/
theorem keeps_timers (clock online : Nat) (joinWindow isolation : Timer) :
    KeepsInner s
      { s with
        station :=
          { s.station with clock := clock, online := online, joinWindow := joinWindow, isolation := isolation } } :=
  SameRecords.keeps ⟨rfl, rfl, rfl, rfl, rfl, rfl, rfl, rfl, rfl, rfl⟩ id id id id id id id id id id id id id id

/-- An update of the directory alone keeps the other blocks. -/
theorem keepsBlocks_dir (d : Directory) : KeepsBlocks s { s with dir := d } where
  number := rfl
  state := rfl
  inReset := rfl
  cfg := rfl
  pending := rfl
  port := id
  tx := id
  rx := id
  exch := id
  exchKeys := id
  tabCount := Nat.le_refl _
  tabKeys := id
  noTab _ := id
  finals _ _ _ h _ := .inr h
  tabsCurrent _ h := h.congr rfl rfl rfl
  splits h := h.congr rfl rfl rfl rfl
  tickets := id
  ticketKeys := id
  voids := id
  claims := id
  claimKeys := id
  kitchenCount := id
  kitchen h := h.congr rfl rfl rfl
  balance h := h.congr (fun h => h.congr rfl rfl rfl) rfl rfl
  portions := id
  portionKeys := id
  stock := id
  stockKeys := id
  link := id
  takings := id

theorem keeps_dir {d : Directory} (h : DirSound (own s) s.dir → DirSound (own s) d) (hl : LoadsFit s.dir → LoadsFit d) :
    KeepsInner s { s with dir := d } := ⟨⟨keepsBlocks_dir d, h, hl⟩, fun _ => id, fun _ => id⟩

/-- An update of kitchen queue and portion table, which are kept together (R103). -/
theorem keepsBlocks_kitchen {k : Kitchen} {l : List Portion}
    (hcount : s.kitchen.all.length ≤ Config.kitchenCapacity → k.all.length ≤ Config.kitchenCapacity)
    (hkitchen : KitchenSound s → KitchenSound { s with kitchen := k, portions := l })
    (hbalance : PortionsBalance s → PortionsBalance { s with kitchen := k, portions := l })
    (hportions : s.portions.length ≤ Config.portionCapacity → l.length ≤ Config.portionCapacity)
    (hkeys : (s.portions.map (·.item)).Pairwise (· < ·) → (l.map (·.item)).Pairwise (· < ·)) :
    Keeps s { s with kitchen := k, portions := l } where
  number := rfl
  state := rfl
  inReset := rfl
  cfg := rfl
  pending := rfl
  port := id
  tx := id
  rx := id
  exch := id
  exchKeys := id
  tabCount := Nat.le_refl _
  tabKeys := id
  noTab _ := id
  finals _ _ _ h _ := .inr h
  tabsCurrent _ h := h.congr rfl rfl rfl
  splits h := h.congr rfl rfl rfl rfl
  tickets := id
  ticketKeys := id
  voids := id
  claims := id
  claimKeys := id
  kitchenCount := hcount
  kitchen := hkitchen
  balance := hbalance
  portions := hportions
  portionKeys := hkeys
  stock := id
  stockKeys := id
  link := id
  takings := id
  dir := id
  loads := id

/-- An update of tab store and split engine, which are kept together (R25). -/
theorem keeps_tabs {l : List Tab} {e : Option EngineJob} (hcount : l.length ≤ s.tabs.length) (hkeys : TabKeys s.tabs → TabKeys l)
    (hnone : ∀ n, findTab s n = none → findTab { s with tabs := l, engine := e } n = none)
    (hfinals : ∀ tab line st, lineState s tab line = some st → st.final = true →
      findTab { s with tabs := l, engine := e } tab = none ∨ lineState { s with tabs := l, engine := e } tab line = some st)
    (hcurrent : TabKeys s.tabs → TabsCurrent s → TabsCurrent { s with tabs := l, engine := e })
    (hsplits : SplitsSound s → SplitsSound { s with tabs := l, engine := e }) : Keeps s { s with tabs := l, engine := e } where
  number := rfl
  state := rfl
  inReset := rfl
  cfg := rfl
  pending := rfl
  port := id
  tx := id
  rx := id
  exch := id
  exchKeys := id
  tabCount := hcount
  tabKeys := hkeys
  noTab := hnone
  finals := hfinals
  tabsCurrent := hcurrent
  splits := hsplits
  tickets := id
  ticketKeys := id
  voids := id
  claims := id
  claimKeys := id
  kitchenCount := id
  kitchen h := h.congr rfl rfl rfl
  balance h := h.congr (fun h => h.congr rfl rfl rfl) rfl rfl
  portions := id
  portionKeys := id
  stock := id
  stockKeys := id
  link := id
  takings := id
  dir := id
  loads := id

end

end Sys2Proof.Machine
end

section
/-! The tab store under the invariants: what each of its operations keeps of the lines, the totals and the splits (R4 to R6, R25 to R44). -/

namespace Sys2Proof.Machine

/-! ## One tab -/

/-- The lines of a tab numbered by their places, at most 48, its class bases and total as they give (R4, R6). -/
structure TabCurrent (rates : ClassVec) (t : Tab) : Prop where
  numbered : t.lines.map (·.number) = (List.range t.lines.length).map (· + 1)
  fits : t.lines.length ≤ Config.lineCapacity
  current : t.recompute rates = t

/-- The split of a tab fits its state, adds up, and its shares are sound (R3, R31, R38). -/
structure Tab.Sound (t : Tab) : Prop where
  fits : t.splitFits
  numbered : ∀ sp, t.split = some sp → sp.shares.map (·.number) = shareNumbers sp.count
  sums : ∀ sp, t.split = some sp → (sp.shares.map (·.amount)).sum = sp.total
  shares : ∀ sp, t.split = some sp → ∀ sh ∈ sp.shares, sh.sound

/-- A line that is VOID, KVOID or REFUND in `t` is so in `t'` (R5). -/
def FinalsKept (t t' : Tab) : Prop :=
  ∀ line st, (t.line line).map (·.state) = some st → st.final = true → (t'.line line).map (·.state) = some st

theorem SplitsSound.tab {s : State} (h : SplitsSound s) {t : Tab} (ht : t ∈ s.tabs) : t.Sound :=
  ⟨h.fits t ht, h.numbered t ht, h.sums t ht, h.shares t ht⟩

theorem TabsCurrent.tab {s : State} (h : TabsCurrent s) {t : Tab} (ht : t ∈ s.tabs) : TabCurrent s.cfg.rates t :=
  ⟨h.numbered t ht, h.fits t ht, h.current t ht⟩

theorem Tab.recompute_eq_iff {rates : ClassVec} {t : Tab} :
    t.recompute rates = t ↔ t.bases = (t.recompute rates).bases ∧ t.total = (t.recompute rates).total := by
  refine ⟨fun h => ⟨by rw [h], by rw [h]⟩, fun ⟨h1, h2⟩ => ?_⟩
  calc t.recompute rates = { t with bases := (t.recompute rates).bases, total := (t.recompute rates).total } := rfl
    _ = t := by rw [← h1, ← h2]

theorem Tab.recompute_recompute (rates : ClassVec) (t : Tab) : (t.recompute rates).recompute rates = t.recompute rates := rfl

/-- Only lines, class bases and total bear on whether a tab is current. -/
theorem TabCurrent.congr {rates : ClassVec} {t t' : Tab} (h : TabCurrent rates t) (hl : t'.lines = t.lines)
    (hb : t'.bases = t.bases) (ht : t'.total = t.total) : TabCurrent rates t' := by
  obtain ⟨h1, h2, h3⟩ := h
  refine ⟨by rwa [hl], by rwa [hl], ?_⟩
  obtain ⟨h4, h5⟩ := Tab.recompute_eq_iff.1 h3
  refine Tab.recompute_eq_iff.2 ⟨?_, ?_⟩
  · rw [hb, h4]; simp [Tab.recompute, hl]
  · rw [ht, h5]; simp [Tab.recompute, hl]

theorem classBase_map (c : Nat) {h : Line → Line} {lines : List Line}
    (hh : ∀ l ∈ lines, (h l).tax = l.tax ∧ (h l).state.charged = l.state.charged ∧ (h l).amount = l.amount) :
    classBase c (lines.map h) = classBase c lines := by
  induction lines with
  | nil => rfl
  | cons l lines ih =>
    obtain ⟨htax, hcharged, hamount⟩ := hh l (by simp)
    have htail := ih fun l hl => hh l (by simp [hl])
    unfold classBase at htail ⊢
    by_cases hin : (l.tax == c && l.state.charged) = true
    · simp [htax, hcharged, hin, hamount, htail]
    · simp [htax, hcharged, hin, htail]

/-- A change of lines that moves no charge keeps a tab current. -/
theorem TabCurrent.mapLines {rates : ClassVec} {t t' : Tab} (h : TabCurrent rates t) {g : Line → Line}
    (hl : t'.lines = t.lines.map g) (hb : t'.bases = t.bases) (ht : t'.total = t.total)
    (hn : ∀ l, (g l).number = l.number)
    (hg : ∀ l ∈ t.lines, (g l).tax = l.tax ∧ (g l).state.charged = l.state.charged ∧ (g l).amount = l.amount) :
    TabCurrent rates t' := by
  obtain ⟨h1, h2, h3⟩ := h
  have hbase : ∀ c, classBase c t'.lines = classBase c t.lines := fun c => by rw [hl, classBase_map c hg]
  refine ⟨?_, by rw [hl]; simpa using h2, ?_⟩
  · rw [hl, List.map_map, List.length_map, ← h1]
    exact List.map_congr_left fun l _ => hn l
  · obtain ⟨h4, h5⟩ := Tab.recompute_eq_iff.1 h3
    refine Tab.recompute_eq_iff.2 ⟨?_, ?_⟩
    · rw [hb, h4]; simp [Tab.recompute, hbase]
    · rw [ht, h5]; simp [Tab.recompute, hbase]

/-- A tab whose totals were just worked out is current, if its lines are numbered by place. -/
theorem tabCurrent_recompute {rates : ClassVec} {t : Tab} (h1 : t.lines.map (·.number) = (List.range t.lines.length).map (· + 1))
    (h2 : t.lines.length ≤ Config.lineCapacity) : TabCurrent rates (t.recompute rates) := ⟨h1, h2, rfl⟩

/-- Lines are named by their numbers where these are places. -/
theorem TabCurrent.line_unique {rates : ClassVec} {t : Tab} (h : TabCurrent rates t) {n : Nat} {l x : Line}
    (hl : t.line n = some l) (hx : x ∈ t.lines) (hn : x.number = n) : x = l := by
  have hnodup : (t.lines.map (·.number)).Nodup := by
    rw [h.numbered]
    exact nodup_map List.nodup_range fun _ _ _ _ h => Nat.succ.inj h
  exact eq_of_nodup_map hnodup hx (List.mem_of_find?_eq_some hl) (by rw [hn, number_of_line hl])

/-- Only the state and the split fields bear on a tab's soundness. -/
theorem Tab.Sound.congr {t t' : Tab} (h : t.Sound) (hst : t'.state = t.state) (ho : t'.outcome = t.outcome)
    (hs : t'.split = t.split) : t'.Sound := by
  obtain ⟨h1, h2, h3, h4⟩ := h
  refine ⟨?_, by rwa [hs], by rwa [hs], by rwa [hs]⟩
  unfold Tab.splitFits at h1 ⊢
  rwa [hst, hs, ho]

theorem FinalsKept.congr {t t' : Tab} (h : t'.lines = t.lines) : FinalsKept t t' := by
  intro line st hs _
  simpa [Tab.line, h] using hs

/-- A change of lines that leaves every final line found by its number keeps the finals. -/
theorem FinalsKept.mapLines {t t' : Tab} {g : Line → Line} (hl : t'.lines = t.lines.map g) (hn : ∀ l, (g l).number = l.number)
    (hg : ∀ n l, t.line n = some l → l.state.final = true → (g l).state = l.state) : FinalsKept t t' := by
  intro line st hs hf
  obtain ⟨l, hfind, rfl⟩ := Option.map_eq_some_iff.1 hs
  have hfind' : t'.line line = some (g l) := by
    unfold Tab.line at hfind ⊢
    rw [hl, List.find?_map]
    simp only [Function.comp_def, hn, hfind, Option.map_some]
  rw [hfind', Option.map_some, hg line l hfind hf]

/-! ## Finding a tab -/

theorem find_of_pairwise {l : List Tab} (h : (l.map (·.number)).Pairwise (· < ·)) {t : Tab} (ht : t ∈ l) :
    l.find? (·.number == t.number) = some t := by
  induction l with
  | nil => simp at ht
  | cons x l ih =>
    simp only [List.map_cons, List.pairwise_cons, List.mem_map, forall_exists_index, and_imp] at h
    obtain ⟨hx, hl⟩ := h
    rcases List.mem_cons.1 ht with rfl | ht
    · simp
    · have := hx _ t ht rfl
      rw [List.find?_cons_of_neg (by simp; omega)]
      exact ih hl ht

theorem findTab_of_mem {s : State} (h : (s.tabs.map (·.number)).Pairwise (· < ·)) {t : Tab} (ht : t ∈ s.tabs) :
    findTab s t.number = some t := find_of_pairwise h ht

theorem eq_of_findTab {s : State} (h : (s.tabs.map (·.number)).Pairwise (· < ·)) {n : Nat} {t x : Tab} (ht : findTab s n = some t)
    (hx : x ∈ s.tabs) (hn : x.number = n) : x = t := by
  have := findTab_of_mem h hx
  rw [hn, ht] at this
  exact (Option.some.inj this).symm

theorem findTab_mapTabs (s : State) {g : Tab → Tab} {e : Option EngineJob} (hn : ∀ t, (g t).number = t.number) (n : Nat) :
    findTab { s with tabs := s.tabs.map g, engine := e } n = (findTab s n).map g := by
  unfold findTab
  rw [List.find?_map]
  simp only [Function.comp_def, hn]

/-! ## Every tab changed -/

section
variable {s : State} {g : Tab → Tab} {e : Option EngineJob}

/-- A change of each tab for itself, with the engine's record. -/
theorem keeps_mapTabs (hn : ∀ t, (g t).number = t.number) (hfinal : ∀ n t, findTab s n = some t → FinalsKept t (g t))
    (hcurrent : TabKeys s.tabs → ∀ t ∈ s.tabs, TabCurrent s.cfg.rates t → TabCurrent s.cfg.rates (g t))
    (hsplits : SplitsSound s → SplitsSound { s with tabs := s.tabs.map g, engine := e }) :
    Keeps s { s with tabs := s.tabs.map g, engine := e } := by
  have hnumbers : (s.tabs.map g).map (·.number) = s.tabs.map (·.number) := by
    rw [List.map_map]; exact List.map_congr_left fun t _ => hn t
  refine keeps_tabs (by simp) (fun h => ⟨by rw [hnumbers]; exact h.tabs, ?_⟩) (fun n h => by rw [findTab_mapTabs s hn, h]; rfl)
    (fun tab line st hs hf => ?_) (fun hk h => ?_) hsplits
  · intro t ht
    obtain ⟨x, hx, rfl⟩ := List.mem_map.1 ht
    rw [hn]; exact h.range x hx
  · right
    obtain ⟨t, hfind, hline⟩ := Option.bind_eq_some_iff.1 hs
    exact Option.bind_eq_some_iff.2 ⟨g t, by rw [findTab_mapTabs s hn, hfind]; rfl, hfinal tab t hfind line st hline hf⟩
  · have htab : ∀ t ∈ s.tabs.map g, TabCurrent s.cfg.rates t := by
      intro t ht
      obtain ⟨x, hx, rfl⟩ := List.mem_map.1 ht
      exact hcurrent hk x hx (h.tab hx)
    refine ⟨fun ho => ?_, fun t ht => (htab t ht).numbered, fun t ht => (htab t ht).fits, fun t ht => (htab t ht).current⟩
    rw [show ({ s with tabs := s.tabs.map g, engine := e } : State).tabs = s.tabs.map g from rfl, h.offline ho, List.map_nil]

/-- A sound change of each tab that makes none SPLITTING and none cease to be. -/
theorem splitsSound_mapTabs (h : SplitsSound s) (hn : ∀ t, (g t).number = t.number)
    (hg : ∀ t ∈ s.tabs, t.Sound → (g t).Sound ∧ ((g t).state = .splitting ↔ t.state = .splitting)) :
    SplitsSound { s with tabs := s.tabs.map g } := by
  have htab : ∀ t ∈ s.tabs.map g, t.Sound := by
    intro t ht
    obtain ⟨x, hx, rfl⟩ := List.mem_map.1 ht
    exact (hg x hx (h.tab hx)).1
  have hnumbers : (s.tabs.map g).map (·.number) = s.tabs.map (·.number) := by
    rw [List.map_map]; exact List.map_congr_left fun t _ => hn t
  refine ⟨h.station, by rw [hnumbers]; exact h.tabs, fun t ht => (htab t ht).fits, fun t ht => (htab t ht).numbered,
    fun t ht => (htab t ht).sums, fun t ht => (htab t ht).shares, fun j hj => ?_, fun t ht hst => ?_⟩
  · obtain ⟨hv, t, ht, hnum, hst⟩ := h.job j hj
    exact ⟨hv, g t, List.mem_map_of_mem ht, by rw [hn, hnum], (hg t ht (h.tab ht)).2.2 hst⟩
  · obtain ⟨x, hx, rfl⟩ := List.mem_map.1 ht
    obtain ⟨j, hj, hnum⟩ := h.splitting x hx ((hg x hx (h.tab hx)).2.1 hst)
    exact ⟨j, hj, by rw [hn, hnum]⟩

/-- A change of each tab that keeps its lines' finals, its totals and its split's soundness, and moves none into or out of SPLITTING. -/
theorem inner_mapTabs (hn : ∀ t, (g t).number = t.number) (hfinal : ∀ n t, findTab s n = some t → FinalsKept t (g t))
    (hcurrent : TabKeys s.tabs → ∀ t ∈ s.tabs, TabCurrent s.cfg.rates t → TabCurrent s.cfg.rates (g t))
    (hsplits : SplitsSound s → ∀ t ∈ s.tabs, t.Sound → (g t).Sound ∧ ((g t).state = .splitting ↔ t.state = .splitting))
    (hquiet : ∀ t ∈ s.tabs, (g t).state = .splitting → t.state = .splitting) :
    KeepsInner s { s with tabs := s.tabs.map g } := by
  refine ⟨keeps_mapTabs (e := s.engine) hn hfinal hcurrent fun h => splitsSound_mapTabs h hn (hsplits h), fun _ => id, fun n h t ht hnum => ?_⟩
  obtain ⟨x, hx, rfl⟩ := List.mem_map.1 ht
  rw [hn] at hnum
  exact fun hst => h x hx hnum (hquiet x hx hst)

/-! ## One tab changed -/

variable {n : Nat} {f : Tab → Tab}

theorem modTab_eq (n : Nat) (f : Tab → Tab) (s : State) :
    modTab n f s = { s with tabs := s.tabs.map fun t => if t.number == n then f t else t } := rfl

/-- A change of the tab found under a number: what holds of it holds of every tab of that number where numbers are distinct. -/
theorem keeps_modTab (hn : ∀ t, (f t).number = t.number) (hfinal : ∀ t, findTab s n = some t → FinalsKept t (f t))
    (hcurrent : ∀ t, findTab s n = some t → TabCurrent s.cfg.rates t → TabCurrent s.cfg.rates (f t))
    (hsplits : SplitsSound s → SplitsSound (modTab n f { s with engine := e })) : Keeps s (modTab n f { s with engine := e }) := by
  refine keeps_mapTabs (s := s) (e := e) (fun t => ?_) (fun m t ht => ?_) (fun hk t ht hc => ?_) hsplits
  · dsimp only; split
    · exact hn t
    · rfl
  · split
    · rename_i hm
      have : m = n := by rw [← number_of_findTab ht]; exact beq_iff_eq.1 hm
      exact hfinal t (this ▸ ht)
    · exact .congr rfl
  · split
    · rename_i hm
      exact hcurrent t ((beq_iff_eq.1 hm) ▸ findTab_of_mem hk.tabs ht) hc
    · exact hc

theorem inner_modTab (hn : ∀ t, (f t).number = t.number) (hfinal : ∀ t, findTab s n = some t → FinalsKept t (f t))
    (hcurrent : ∀ t, findTab s n = some t → TabCurrent s.cfg.rates t → TabCurrent s.cfg.rates (f t))
    (hsplits : SplitsSound s → ∀ t, findTab s n = some t → t.Sound → (f t).Sound ∧ ((f t).state = .splitting ↔ t.state = .splitting))
    (hquiet : ∀ t, (f t).state = .splitting → t.state = .splitting) : KeepsInner s (modTab n f s) := by
  rw [modTab_eq]
  refine inner_mapTabs (fun t => ?_) (fun m t ht => ?_) (fun hk t ht hc => ?_) (fun hs t ht hc => ?_) (fun t _ => ?_)
  · split
    · exact hn t
    · rfl
  · split
    · rename_i hm
      have : m = n := by rw [← number_of_findTab ht]; exact beq_iff_eq.1 hm
      exact hfinal t (this ▸ ht)
    · exact .congr rfl
  · split
    · rename_i hm
      exact hcurrent t ((beq_iff_eq.1 hm) ▸ findTab_of_mem hk.tabs ht) hc
    · exact hc
  · split
    · rename_i hm
      exact hsplits hs t ((beq_iff_eq.1 hm) ▸ findTab_of_mem hs.tabs ht) hc
    · exact ⟨hc, Iff.rfl⟩
  · split
    · exact hquiet t
    · exact id

/-- A change of a tab that leaves its state and split fields. -/
theorem inner_modTab_lines (hn : ∀ t, (f t).number = t.number) (hst : ∀ t, (f t).state = t.state) (ho : ∀ t, (f t).outcome = t.outcome)
    (hs : ∀ t, (f t).split = t.split) (hfinal : ∀ t, findTab s n = some t → FinalsKept t (f t))
    (hcurrent : ∀ t, findTab s n = some t → TabCurrent s.cfg.rates t → TabCurrent s.cfg.rates (f t)) : KeepsInner s (modTab n f s) :=
  inner_modTab hn hfinal hcurrent (fun _ t _ h => ⟨h.congr (hst t) (ho t) (hs t), by rw [hst]⟩) fun t h => by rwa [hst] at h

end

/-! ## Lines (R5, R14 to R18) -/

section
variable {s : State} {tab line : Nat}

theorem LineState.charged_of_not_final {st : LineState} (h : st.final = false) : st.charged = true := by
  revert h
  cases st <;> decide

theorem LineState.final_of_ended {st : LineState} (h : st.ended = false) : st.final = false := by
  revert h
  cases st <;> decide

/-- The lines of one number take a state. -/
theorem modLine_lines (n : Nat) (f : Line → Line) (t : Tab) :
    (t.modLine n f).lines = t.lines.map fun l => if l.number == n then f l else l := rfl

theorem setLineState_inner {dst : LineState} (h : ∀ t l, findTab s tab = some t → t.line line = some l → l.state.final = false) :
    KeepsInner s (setLineState tab line dst s) := by
  refine inner_modTab_lines (fun _ => rfl) (fun _ => rfl) (fun _ => rfl) (fun _ => rfl) (fun t ht => ?_) (fun t _ hc => ?_)
  · refine .mapLines (modLine_lines line _ t) (fun l => ?_) (fun n l hl hf => ?_)
    · split <;> rfl
    · split
      · rename_i hm
        have hn : n = line := by rw [← number_of_line hl]; exact beq_iff_eq.1 hm
        rw [h t l ht (hn ▸ hl)] at hf
        exact absurd hf Bool.false_ne_true
      · rfl
  · refine tabCurrent_recompute ?_ ?_
    · rw [modLine_lines, List.map_map, List.length_map, ← hc.numbered]
      exact List.map_congr_left fun l _ => by dsimp only [Function.comp]; split <;> rfl
    · rw [modLine_lines, List.length_map]; exact hc.fits

theorem moveLines_inner {lines : List Nat} {p : LineState → Bool} {dst : LineState} (hp : ∀ st, p st = true → st.final = false)
    (hd : dst.charged = true) : KeepsInner s (moveLines tab lines p dst s) := by
  refine inner_modTab_lines (fun _ => rfl) (fun _ => rfl) (fun _ => rfl) (fun _ => rfl) (fun t _ => ?_) (fun t _ hc => ?_)
  · refine .mapLines rfl (fun l => ?_) (fun n l _ hf => ?_)
    · split <;> rfl
    · split
      · rename_i hm
        rw [hp _ (Bool.and_eq_true_iff.1 hm).2] at hf
        exact absurd hf Bool.false_ne_true
      · rfl
  · refine hc.mapLines rfl rfl rfl (fun l => ?_) (fun l _ => ?_)
    · split <;> rfl
    · split
      · rename_i hm
        exact ⟨rfl, by rw [LineState.charged_of_not_final (hp _ (Bool.and_eq_true_iff.1 hm).2)]; exact hd, rfl⟩
      · exact ⟨rfl, rfl, rfl⟩

theorem refund_inner {l : Line} {refunds : List Refund} (h : ∀ t, findTab s tab = some t → t.line l.number = some l)
    (hf : l.state.final = false) :
    KeepsInner s (modTab tab (fun t =>
      { t.modLine l.number (fun x => { x with state := .refund }) with refunds := t.refunds ++ refunds }) s) := by
  refine inner_modTab_lines (fun _ => rfl) (fun _ => rfl) (fun _ => rfl) (fun _ => rfl) (fun t ht => ?_) (fun t ht hc => ?_)
  · refine .mapLines (modLine_lines l.number _ t) (fun l => ?_) (fun n x hx hfx => ?_)
    · split <;> rfl
    · split
      · rename_i hm
        have hn : n = l.number := by rw [← number_of_line hx]; exact beq_iff_eq.1 hm
        rw [hn, h t ht] at hx
        rw [← Option.some.inj hx, hf] at hfx
        exact absurd hfx Bool.false_ne_true
      · rfl
  · refine hc.mapLines (modLine_lines l.number _ t) rfl rfl (fun l => ?_) (fun x hx => ?_)
    · split <;> rfl
    · split
      · rename_i hm
        have := hc.line_unique (h t ht) hx (beq_iff_eq.1 hm)
        exact ⟨rfl, by rw [this, LineState.charged_of_not_final hf]; rfl, rfl⟩
      · exact ⟨rfl, rfl, rfl⟩

/-! ## Splits (R31 to R44) -/

theorem Tab.Sound.withdrawn {t : Tab} (ho : t.outcome = none) : t.withdrawSplit.Sound :=
  ⟨⟨rfl, ho⟩, fun _ h => by simp [Tab.withdrawSplit] at h, fun _ h => by simp [Tab.withdrawSplit] at h,
    fun _ h => by simp [Tab.withdrawSplit] at h⟩

theorem Tab.Sound.outcome {t : Tab} (h : t.Sound) (hst : t.state ≠ .closed) : t.outcome = none := by
  have hf := h.fits
  unfold Tab.splitFits at hf
  cases hs : t.state <;> rw [hs] at hf
  · exact hf.2
  · exact hf.2
  · exact hf.2
  · exact absurd hs hst

theorem Tab.withdrawSplit_finals (t : Tab) : FinalsKept t t.withdrawSplit := .mapLines rfl (fun _ => rfl) fun _ _ _ _ => rfl

theorem TabCurrent.withdrawn {rates : ClassVec} {t : Tab} (h : TabCurrent rates t) : TabCurrent rates t.withdrawSplit :=
  h.mapLines rfl rfl rfl (fun _ => rfl) fun _ _ => ⟨rfl, rfl, rfl⟩

theorem withdrawSplit_inner (h : ∀ t, findTab s tab = some t → t.state = .open ∨ t.state = .split) :
    KeepsInner s (modTab tab Tab.withdrawSplit s) := by
  refine inner_modTab (fun _ => rfl) (fun t _ => t.withdrawSplit_finals) (fun _ _ hc => hc.withdrawn) (fun _ t ht hs => ?_) (fun t h => nomatch h)
  rcases h t ht with hst | hst <;> exact ⟨.withdrawn (hs.outcome (by simp [hst])), by simp [hst, Tab.withdrawSplit]⟩

/-- Shares changed each for itself, number and amount standing. -/
theorem Tab.Sound.mapShares {t t' : Tab} (h : t.Sound) {g : Share → Share} (hst : t'.state = t.state) (ho : t'.outcome = t.outcome)
    (hs : t'.split = t.split.map fun sp => { sp with shares := sp.shares.map g })
    (hg : ∀ sp, t.split = some sp → ∀ sh ∈ sp.shares, (g sh).number = sh.number ∧ (g sh).amount = sh.amount ∧ (sh.sound → (g sh).sound)) :
    t'.Sound := by
  obtain ⟨h1, h2, h3, h4⟩ := h
  have hsplit : ∀ sp', t'.split = some sp' → ∃ sp, t.split = some sp ∧ sp' = { sp with shares := sp.shares.map g } := by
    intro sp' hsp'
    rw [hs] at hsp'
    obtain ⟨sp, hsp, rfl⟩ := Option.map_eq_some_iff.1 hsp'
    exact ⟨sp, hsp, rfl⟩
  refine ⟨?_, fun sp' hsp' => ?_, fun sp' hsp' => ?_, fun sp' hsp' sh hsh => ?_⟩
  · unfold Tab.splitFits at h1 ⊢
    rw [hst, hs, ho]
    cases hstate : t.state <;> rw [hstate] at h1 <;> simpa using h1
  · obtain ⟨sp, hsp, rfl⟩ := hsplit sp' hsp'
    rw [← h2 sp hsp, List.map_map]
    exact List.map_congr_left fun sh hsh => (hg sp hsp sh hsh).1
  · obtain ⟨sp, hsp, rfl⟩ := hsplit sp' hsp'
    rw [← h3 sp hsp, List.map_map]
    exact congrArg List.sum (List.map_congr_left fun sh hsh => (hg sp hsp sh hsh).2.1)
  · obtain ⟨sp, hsp, rfl⟩ := hsplit sp' hsp'
    obtain ⟨x, hx, rfl⟩ := List.mem_map.1 hsh
    exact (hg sp hsp x hx).2.2 (h4 sp hsp x hx)

theorem shareNumbers_nodup (n : Nat) : (shareNumbers n).Nodup :=
  nodup_map List.nodup_range fun _ _ _ _ h => Nat.succ.inj h

theorem share_unique {t : Tab} (h : t.Sound) {sp : SplitRec} (hsp : t.split = some sp) {n : Nat} {sh x : Share}
    (hsh : sp.share n = some sh) (hx : x ∈ sp.shares) (hn : x.number = n) : x = sh :=
  eq_of_nodup_map (h.numbered sp hsp ▸ shareNumbers_nodup sp.count) hx (List.mem_of_find?_eq_some hsh)
    (by rw [hn, number_of_share hsh])

/-- One share changed, number and amount standing, its fields fitting its state. -/
theorem modShare_inner {share : Nat} {f : Share → Share} (hn : ∀ sh, (f sh).number = sh.number) (ha : ∀ sh, (f sh).amount = sh.amount)
    (hf : SplitsSound s → ∀ sh, findShare s tab share = some sh → sh.sound → (f sh).sound) : KeepsInner s (modShare tab share f s) := by
  refine inner_modTab (fun _ => rfl) (fun t _ => .congr rfl) (fun t _ hc => hc.congr rfl rfl rfl) (fun hss t ht hs => ⟨?_, Iff.rfl⟩)
    (fun _ h => h)
  refine hs.mapShares (g := fun sh => if sh.number == share then f sh else sh) rfl rfl rfl fun sp hsp sh hsh => ?_
  split
  · rename_i hm
    refine ⟨hn sh, ha sh, fun hsound => ?_⟩
    cases hfind : sp.share share with
    | none => exact absurd hm (by simpa using List.find?_eq_none.1 hfind sh hsh)
    | some y =>
      have heq := share_unique hs hsp hfind hsh (beq_iff_eq.1 hm)
      exact hf hss sh (by simp [findShare, ht, hsp, hfind, heq]) hsound
  · exact ⟨rfl, rfl, id⟩

theorem Share.free_sound {sh : Share} (h : sh.sound) (hst : sh.state = .claimed) : sh.free.sound := by
  unfold Share.sound at h
  rw [hst] at h
  exact ⟨rfl, rfl, h.2.2⟩

theorem releaseClaimant_inner (k : Nat) : KeepsInner s (releaseClaimant k s) := by
  refine inner_mapTabs (fun _ => rfl) (fun _ _ _ => .congr rfl) (fun _ t _ hc => hc.congr rfl rfl rfl) (fun _ t _ hs => ⟨?_, Iff.rfl⟩)
    (fun _ _ h => h)
  refine hs.mapShares (g := fun sh => if sh.state == .claimed && sh.claimant == k then Share.free sh else sh) rfl rfl rfl fun sp _ sh _ => ?_
  split
  · rename_i hm
    exact ⟨rfl, rfl, fun h => Share.free_sound h (beq_iff_eq.1 (Bool.and_eq_true_iff.1 hm).1)⟩
  · exact ⟨rfl, rfl, id⟩

/-- A tick of the hold timers. -/
theorem tickTab_inner : KeepsInner s { s with tabs := s.tabs.map tickTab } := by
  refine inner_mapTabs (fun _ => rfl) (fun _ _ _ => .congr rfl) (fun _ t _ hc => hc.congr rfl rfl rfl) (fun _ t _ hs => ⟨?_, Iff.rfl⟩)
    (fun _ _ h => h)
  refine hs.mapShares (g := fun sh => { sh with hold := Timer.tick sh.hold }) rfl rfl rfl fun sp _ sh _ => ⟨rfl, rfl, fun h => ?_⟩
  unfold Share.sound at h ⊢
  dsimp only
  split at h
  · obtain ⟨h1, h2, h3⟩ := h; exact ⟨h1, by rw [h2]; rfl, h3⟩
  · obtain ⟨h1, h2, h3⟩ := h; exact ⟨h1, by simpa [Timer.tick] using h2, h3⟩
  · obtain ⟨h1, h2, h3⟩ := h; exact ⟨h1, by rw [h2]; rfl, h3⟩

/-- The engine's record goes stale (R27). -/
theorem stale_inner (tab : Nat) :
    KeepsInner s { s with engine := s.engine.map fun j => if j.tab = tab then { j with stale := true } else j } := by
  refine ⟨keeps_tabs (l := s.tabs) (Nat.le_refl _) id (fun _ => id) (fun _ _ _ h _ => .inr h) (fun _ h => h.congr rfl rfl rfl) fun h => ?_,
    fun _ => id, fun _ => id⟩
  obtain ⟨h1, h2, h3, h4, h5, h6, h7, h8⟩ := h
  refine ⟨h1, h2, h3, h4, h5, h6, fun j hj => ?_, fun t ht hst => ?_⟩
  · obtain ⟨j', hj', rfl⟩ := Option.map_eq_some_iff.1 hj
    split
    · exact h7 j' hj'
    · exact h7 j' hj'
  · obtain ⟨j, hj, hn⟩ := h8 t ht hst
    refine ⟨_, by rw [hj]; rfl, ?_⟩
    dsimp only
    split <;> exact hn

end

end Sys2Proof.Machine
end

section
/-! The link, the port, the takings unit and the directory's load figures under the invariants. -/

namespace Sys2Proof.Machine

section
variable {s : State}

/-! ## Notices (R174) -/

theorem portFits_post {p : Port} (n : Notice) (h : PortFits p) : PortFits (p.post n) := by
  obtain ⟨h1, h2, h3, h4⟩ := h
  rcases Port.post_cases n p with ⟨hroom, heq⟩ | ⟨-, heq⟩
  · rw [heq]
    have hlen : (p.queue n.level ++ [n]).length ≤ n.level.capacity := by
      rw [List.length_append, List.length_singleton]
      exact hroom
    cases hl : n.level with
    | link => exact ⟨by rw [hl] at hlen; exact hlen, h2, h3, h4⟩
    | money => exact ⟨h1, by rw [hl] at hlen; exact hlen, h3, h4⟩
    | kitchen => exact ⟨h1, h2, by rw [hl] at hlen; exact hlen, h4⟩
    | peers => exact ⟨h1, h2, h3, by rw [hl] at hlen; exact hlen⟩
  · rw [heq]
    exact ⟨h1, h2, h3, h4⟩

theorem post_inner (n : Notice) (s : State) : KeepsInner s (post n s) := keeps_port (portFits_post n)

theorem postAll_inner (l : List Notice) (s : State) : KeepsInner s (postAll l s) := .foldl (fun s n => post_inner n s) l s

/-! ## Resend marks (R121) -/

/-- Resend marks are named by no invariant. -/
theorem marks_inner (p : Portion → Bool) (b : Bool) (s : State) :
    KeepsInner s { s with portions := mapIf p (fun q => { q with resend := b }) s.portions } := by
  have hmem : ∀ q ∈ mapIf p (fun q => { q with resend := b }) s.portions, ∃ q0 ∈ s.portions, ∃ r, q = { q0 with resend := r } := by
    intro q hq
    rcases mem_mapIf hq with ⟨h, -⟩ | ⟨a, ha, -, rfl⟩
    · exact ⟨q, h, q.resend, rfl⟩
    · exact ⟨a, ha, b, rfl⟩
  have hkeys : (mapIf p (fun q => { q with resend := b }) s.portions).map (·.item) = s.portions.map (·.item) :=
    map_mapIf p (fun q => { q with resend := b }) (·.item) (fun _ _ => rfl) _
  refine ⟨keepsBlocks_kitchen (k := s.kitchen) id (fun h => h.congr rfl rfl rfl) (fun h => ?_) (by rw [length_mapIf]; exact id)
    (by rw [hkeys]; exact id), fun _ => id, fun _ => id⟩
  obtain ⟨h1, h2, h3, h4, h5, h6, h7, h8, h9, h10, h11, h12⟩ := h
  have lift : ∀ {P : Portion → Prop}, (∀ q r, P q → P { q with resend := r }) → (∀ q ∈ s.portions, P q) →
      ∀ q ∈ mapIf p (fun q => { q with resend := b }) s.portions, P q := by
    intro P hP h q hq
    obtain ⟨q0, h0, r, rfl⟩ := hmem q hq
    exact hP q0 r (h q0 h0)
  refine ⟨h1.congr rfl rfl rfl, by rw [hkeys]; exact h2, lift (fun _ _ h => h) h3, lift (fun _ _ h => h) h4, lift (fun _ _ h => h) h5,
    lift (fun _ _ h => h) h6, h7, lift (fun _ _ h => h) h8, lift (fun _ _ h => h) h9, lift (fun _ _ h => h) h10,
    lift (fun _ _ h => h) h11, fun t ht l hl htk => ?_⟩
  obtain ⟨q, hq, hitem⟩ := h12 t ht l hl htk
  have : l.item ∈ (mapIf p (fun q => { q with resend := b }) s.portions).map (·.item) := by
    rw [hkeys]; exact List.mem_map.2 ⟨q, hq, hitem⟩
  obtain ⟨q', hq', hitem'⟩ := List.mem_map.1 this
  exact ⟨q', hq', hitem'⟩

/-! ## The transmit queue (R153, R154) -/

theorem lowCount_append (a b : List Slot) : lowCount (a ++ b) = lowCount a + lowCount b := by simp [lowCount, List.filter_append]

theorem lowCount_fresh (f : OutFrame) : lowCount [Slot.fresh f] = if kindClass f.kind = 0 then 0 else 1 := by
  by_cases h : kindClass f.kind = 0 <;> simp [lowCount, Slot.fresh, h]

theorem pause_inner (b : Bool) (s : State) : KeepsInner s { s with router := { s.router with pause := b } } :=
  keeps_router id (fun ⟨h1, h2, h3⟩ => ⟨h1, h2, h3⟩) id

theorem bumpDropped_le (n : Nat) : bumpDropped n ≤ 65535 := Nat.min_le_right _ _

/-- A slot list that holds the slots of one within its bounds, and at its end a fresh frame there is room for. -/
theorem TxFits.append {x : Transmit} (h : TxFits x) {f : OutFrame} {l : List Slot} (hl : offerFrame f x.slots = .taken l) :
    TxFits { x with slots := l } := by
  obtain ⟨h1, h2, h3, h4, h5⟩ := h
  have hshape : l = x.slots ++ [Slot.fresh f] ∧ x.slots.length < Config.txCapacity ∧
      (kindClass f.kind ≠ 0 → lowCount x.slots < Config.txLowCapacity) := by
    unfold offerFrame at hl
    split at hl
    · rename_i hc
      split at hl
      · rename_i hr
        exact ⟨(Offered.taken.inj hl).symm, hr, fun h => absurd hc h⟩
      · simp at hl
    · split at hl
      · rename_i hr
        exact ⟨(Offered.taken.inj hl).symm, hr.1, fun _ => hr.2⟩
      · split at hl
        · simp at hl
        · split at hl <;> simp at hl
  obtain ⟨rfl, hlen, hlow⟩ := hshape
  refine ⟨by simp; omega, ?_, fun y hy => ?_, ?_, h5⟩
  · simp only [lowCount_append, lowCount_fresh]
    split
    · omega
    · rename_i hc; have := hlow hc; omega
  · rcases List.mem_append.1 hy with hy | hy
    · exact h3 y hy
    · rw [List.mem_singleton.1 hy]; simp [Slot.fresh]
  · simpa [List.filter_append, Slot.fresh] using h4

theorem TxFits.evict {x : Transmit} (h : TxFits x) {f e : OutFrame} {l : List Slot} {n : Nat}
    (hl : offerFrame f x.slots = .evicting e l) (hn : n ≤ 65535) : TxFits { x with slots := l, dropped := n } := by
  obtain ⟨h1, h2, h3, h4, -⟩ := h
  rcases offerFrame_cases f x.slots with ho | ⟨e', r, he, ho⟩ | ho
  · rw [ho] at hl; simp at hl
  · rw [ho] at hl
    obtain ⟨rfl, rfl⟩ := Offered.evicting.inj hl
    obtain ⟨before, y, after, hs, hy, hc, hw, rfl, -⟩ := evictNewest_some he
    rw [hs] at h1 h2 h4
    have hyl : lowCount [y] = 1 := by simp [lowCount, hc]
    have hone : lowCount [Slot.fresh f] ≤ 1 := by rw [lowCount_fresh]; split <;> omega
    have hsplit : lowCount (before ++ y :: after) = lowCount before + (1 + lowCount after) := by
      rw [lowCount_append, show y :: after = [y] ++ after from rfl, lowCount_append, hyl]
    refine ⟨?_, ?_, fun z hz => ?_, ?_, hn⟩
    · simp only [List.length_append, List.length_cons, List.length_nil] at h1 ⊢; omega
    · have hlow : lowCount before + lowCount after + lowCount [Slot.fresh f] ≤ Config.txLowCapacity := by omega
      simpa only [lowCount_append] using hlow
    · rcases List.mem_append.1 hz with hz | hz
      · exact h3 z (by rw [hs]; rcases List.mem_append.1 hz with hz | hz <;> simp [hz])
      · rw [List.mem_singleton.1 hz]; simp [Slot.fresh]
    · simpa [List.filter_append, Slot.fresh, List.filter_cons, hw] using h4
  · rw [ho] at hl; simp at hl

theorem frameLost_inner (f : OutFrame) (s : State) : KeepsInner s (frameLost f s) := by
  rcases frameLost_spec s f with h | ⟨item, -, h⟩
  · rw [h]; exact .refl s
  · rw [h]; exact marks_inner _ true s

theorem sendFrame_inner (f : OutFrame) (s : State) : KeepsInner s (sendFrame f s).2 := by
  unfold sendFrame
  split
  · rename_i l hl
    exact keeps_tx fun h => h.append hl
  · rename_i e l hl
    refine .trans (.trans (t := { s with tx := { s.tx with slots := l, dropped := bumpDropped s.tx.dropped } }) ?_ ?_)
      (frameLost_inner e _)
    · exact keeps_tx fun h => h.evict hl (bumpDropped_le _)
    · exact pause_inner false _
  · split
    · exact .refl s
    · refine .trans (keeps_tx fun h => ?_) (frameLost_inner f _)
      obtain ⟨h1, h2, h3, h4, -⟩ := h
      exact ⟨h1, h2, h3, h4, bumpDropped_le _⟩

theorem sendAnswer_inner (dest kind tag subject share : Nat) (r : Reply) (s : State) :
    KeepsInner s (sendAnswer dest kind tag subject share r s) := sendFrame_inner _ s

/-- Slots changed each for itself, with no frame put on the wire and no class changed. -/
theorem TxFits.mapSlots {x : Transmit} (h : TxFits x) {g : Slot → Slot} {w : List Lane}
    (hkind : ∀ y, (g y).frame.kind = y.frame.kind)
    (hrange : ∀ y, y.age ≤ 7 ∧ y.faults ≤ 3 → (g y).age ≤ 7 ∧ ((g y).faults ≤ 3 ∨ 3 < (g y).faults))
    (hfaults : ∀ y ∈ x.slots, (g y).faults ≤ 3) (hwire : ∀ y, (g y).onWire = true → y.onWire = true) :
    TxFits { x with slots := x.slots.map g, watched := w } := by
  obtain ⟨h1, h2, h3, h4, h5⟩ := h
  refine ⟨by simpa using h1, ?_, fun y hy => ?_, ?_, h5⟩
  · have : lowCount (x.slots.map g) = lowCount x.slots := by
      simp [lowCount, List.filter_map, Function.comp_def, hkind]
    rw [this]; exact h2
  · obtain ⟨z, hz, rfl⟩ := List.mem_map.1 hy
    exact ⟨(hrange z (h3 z hz)).1, hfaults z hz⟩
  · refine Nat.le_trans ?_ h4
    dsimp only
    rw [List.filter_map, List.length_map]
    exact length_filter_mono fun y _ hy => hwire y hy

theorem replaceUnsent_inner {p : OutFrame → Bool} {payload : Bytes} {l : List Slot} (h : replaceUnsent p payload s.tx.slots = some l) :
    KeepsInner s { s with tx := { s.tx with slots := l } } := by
  refine keeps_tx fun hx => ?_
  unfold replaceUnsent at h
  split at h
  · obtain rfl := Option.some.inj h
    refine hx.mapSlots (w := s.tx.watched) (fun y => ?_) (fun y hy => ?_) (fun y hy => ?_) (fun y => ?_)
    · split <;> rfl
    · split
      · exact ⟨hy.1, .inl hy.2⟩
      · exact ⟨hy.1, .inl hy.2⟩
    · split
      · exact (hx.slots y hy).2
      · exact (hx.slots y hy).2
    · split <;> exact id
  · simp at h

theorem queueStock_inner (item : Nat) (st : StockState) (n : Nat) (s : State) : KeepsInner s (queueStock item st n s) := by
  unfold queueStock
  dsimp only
  split
  · rename_i l hl; exact replaceUnsent_inner hl
  · exact sendFrame_inner _ s

theorem resendStock_inner (s : State) : KeepsInner s (resendStock s) := by
  unfold resendStock
  split
  · exact (marks_inner _ false s).trans (queueStock_inner _ _ _ _)
  · exact .refl s

theorem genBeacon_inner (s : State) : KeepsInner s (genBeacon s) := by
  have timed := keeps_beacon (s := s) { s.beacon with interval := some s.cfg.interval, holdOff := some Config.holdOffMs }
  unfold genBeacon
  dsimp only
  refine .trans ?_ (resendStock_inner _)
  split
  · rename_i l hl; exact timed.trans (replaceUnsent_inner hl)
  · exact timed.trans (sendFrame_inner _ _)

theorem holdBeacon_inner (s : State) : KeepsInner s (holdBeacon s) := by
  unfold holdBeacon
  split
  · exact keeps_beacon _
  · exact genBeacon_inner s

/-! ## The exchange table (R165, R166) -/

/-- The tags from a counter on, in the order `freeTag` tries them. -/
theorem freeTag_range {n c : Nat} {used : List Nat} (hc : c < 256) : freeTag n c used < 256 := by
  induction n generalizing c with
  | zero => exact hc
  | succ n ih =>
    unfold freeTag
    split
    · exact ih (Nat.mod_lt _ (by decide))
    · exact hc

/-- The first free tag is the counter's or the first after it that is not used, where one of those tried is free. -/
theorem freeTag_first {n c : Nat} {used : List Nat} (hc : c < 256) (h : ∃ i < n, (c + i) % 256 ∉ used) :
    ∃ j < n, freeTag n c used = (c + j) % 256 ∧ (c + j) % 256 ∉ used ∧ ∀ i < j, (c + i) % 256 ∈ used := by
  induction n generalizing c with
  | zero => obtain ⟨i, hi, -⟩ := h; omega
  | succ n ih =>
    have h0 : c % 256 = c := Nat.mod_eq_of_lt hc
    unfold freeTag
    split
    · rename_i hin
      have hstep : ∀ i, ((c + 1) % 256 + i) % 256 = (c + (i + 1)) % 256 := fun i => by omega
      have htail : ∃ i < n, ((c + 1) % 256 + i) % 256 ∉ used := by
        obtain ⟨i, hi, hfree⟩ := h
        cases i with
        | zero => exact absurd (List.contains_iff_mem.1 hin) (by rwa [Nat.add_zero, h0] at hfree)
        | succ i => exact ⟨i, by omega, by rwa [hstep]⟩
      obtain ⟨j, hj, heq, hfree, hbefore⟩ := ih (Nat.mod_lt _ (by decide)) htail
      rw [hstep] at heq hfree
      refine ⟨j + 1, by omega, heq, hfree, fun i hi => ?_⟩
      cases i with
      | zero => rw [Nat.add_zero, h0]; exact List.contains_iff_mem.1 hin
      | succ i => rw [← hstep]; exact hbefore i (by omega)
    · rename_i hin
      exact ⟨0, by omega, by omega, by rw [Nat.add_zero, h0]; exact mt List.contains_iff_mem.2 hin, fun i hi => by omega⟩

/-- Of 8 tags in a row one is free while fewer than 8 are used. -/
theorem exists_free_tag (c : Nat) {used : List Nat} (h : used.length < 8) : ∃ i < 8, (c + i) % 256 ∉ used := by
  refine Classical.byContradiction fun hnone => ?_
  have hnodup : ((List.range 8).map fun i => (c + i) % 256).Nodup :=
    nodup_map List.nodup_range fun a ha b hb hab => by
      rw [List.mem_range] at ha hb
      omega
  have hsub : (List.range 8).map (fun i => (c + i) % 256) ⊆ used := fun n hn => by
    obtain ⟨i, hi, rfl⟩ := List.mem_map.1 hn
    exact Classical.byContradiction fun hfree => hnone ⟨i, List.mem_range.1 hi, hfree⟩
  have := hnodup.length_le_of_subset hsub
  rw [List.length_map, List.length_range] at this
  omega

/-- The exchange table's last word in an event: it bears on no other part. -/
theorem KeepsInner.set_exch {u : State} (h : KeepsInner s u) {x : Exchange}
    (hx : s.exch.entries.length ≤ Config.exchangeCapacity → x.entries.length ≤ Config.exchangeCapacity)
    (hk : ExchKeys s.exch → ExchKeys x) : KeepsInner s { u with exch := x } :=
  { h with
    exch := hx
    exchKeys := hk
    tabsCurrent := fun a b => (h.tabsCurrent a b).congr rfl rfl rfl
    splits := fun a => (h.splits a).congr rfl rfl rfl rfl
    kitchen := fun a => (h.kitchen a).congr rfl rfl rfl
    balance := fun a => (h.balance a).congr (fun b => b.congr rfl rfl rfl) rfl rfl }

/-- An entry joins the table under a tag that no live entry holds. -/
theorem ExchKeys.join {x : Exchange} (h : ExchKeys x) {e : ExchEntry} (hroom : x.entries.length < Config.exchangeCapacity)
    (ht : e.tag < 256) (hnot : e.tag ∉ x.entries.map (·.tag)) {c : Nat} (hc : c < 256) : ExchKeys ⟨x.entries ++ [e], c⟩ := by
  obtain ⟨-, h2, h3, -⟩ := h
  refine ⟨by simp; omega, ?_, fun y hy => ?_, hc⟩
  · rw [List.map_append, List.map_singleton]
    refine List.nodup_append.2 ⟨h2, nodup_singleton _, fun a ha b hb heq => ?_⟩
    rw [List.mem_singleton.1 hb] at heq
    exact hnot (heq ▸ ha)
  · rcases List.mem_append.1 hy with hy | hy
    · exact h3 y hy
    · rw [List.mem_singleton.1 hy]; exact ht

theorem openExchange_inner (kind dest subject share : Nat) (owner : Owner) (payload : Bytes) (s : State) :
    KeepsInner s (openExchange kind dest subject share owner payload s).2 := by
  unfold openExchange
  split
  · exact .refl s
  · split
    · exact .refl s
    · rename_i hfree
      have hroom : s.exch.entries.length < Config.exchangeCapacity := by simpa [exchangeFree] using hfree
      dsimp only
      generalize htag : freeTag Config.exchangeCapacity s.exch.counter (s.exch.entries.map (·.tag)) = tag
      have hcounter : (tag + 1) % 256 < 256 := Nat.mod_lt _ (by decide)
      have drawn : KeepsInner s { s with exch := { s.exch with counter := (tag + 1) % 256 } } :=
        keeps_exch id fun ⟨h1, h2, h3, _⟩ => ⟨h1, h2, h3, hcounter⟩
      have sent := drawn.trans (sendFrame_inner ⟨kind, dest, tag, payload⟩ _)
      split
      · refine sent.set_exch (fun _ => ?_) fun hk => ?_
        · rw [sendFrame_exch]; simp; omega
        · rw [sendFrame_exch]
          obtain ⟨j, -, heq, hnot, -⟩ := freeTag_first hk.tagCounter (exists_free_tag s.exch.counter
            (used := s.exch.entries.map (·.tag)) (by rw [List.length_map]; exact hroom))
          have htag' : tag = (s.exch.counter + j) % 256 := htag.symm.trans heq
          exact hk.join hroom (show tag < 256 by omega) (by rw [htag']; exact hnot) hcounter
      · exact sent

end

end Sys2Proof.Machine
end

section
/-! The takings unit, the tab store's voids and the router's records under the invariants. -/

namespace Sys2Proof.Machine

section
variable {s : State}

/-! ## The takings unit (R55 to R59) -/

theorem Acc.add_le {d : Nat} {a : Acc} (h : a.value ≤ Config.max32) : (a.add d).value ≤ Config.max32 := by
  unfold Acc.add
  split
  · exact h
  · split
    · rename_i hlt; exact Nat.le_of_lt hlt
    · exact Nat.le_refl _

theorem SignedAcc.add_range {d : Int} {a : SignedAcc} (h : -(Config.maxSigned : Int) ≤ a.value ∧ a.value ≤ (Config.maxSigned : Int)) :
    -(Config.maxSigned : Int) ≤ (a.add d).value ∧ (a.add d).value ≤ (Config.maxSigned : Int) := by
  have hpos : (0 : Int) ≤ (Config.maxSigned : Int) := Int.natCast_nonneg _
  unfold SignedAcc.add
  split
  · exact h
  · split
    · exact ⟨by dsimp only; omega, Int.le_refl _⟩
    · split
      · exact ⟨Int.le_refl _, by dsimp only; omega⟩
      · exact ⟨by dsimp only; omega, by dsimp only; omega⟩

theorem Accums.inRange_iff {a : Accums} : a.inRange ↔
    (a.cashCount.value ≤ Config.max32 ∧ a.cashAmount.value ≤ Config.max32 ∧ a.cardCount.value ≤ Config.max32 ∧
      a.cardAmount.value ≤ Config.max32 ∧ a.voucherCount.value ≤ Config.max32 ∧ a.voucherAmount.value ≤ Config.max32) ∧
    (a.linesVoided.value ≤ Config.max32 ∧ a.tabsClosed.value ≤ Config.max32 ∧ a.ticketsAccepted.value ≤ Config.max32 ∧
      a.ticketsReadied.value ≤ Config.max32 ∧ a.ticketsVoided.value ≤ Config.max32 ∧ a.lateTickets.value ≤ Config.max32 ∧
      a.wastePortions.value ≤ Config.max32) ∧
    -(Config.maxSigned : Int) ≤ a.rounding.value ∧ a.rounding.value ≤ (Config.maxSigned : Int) := by
  simp only [Accums.inRange, List.mem_cons, List.not_mem_nil, or_false, forall_eq_or_imp, forall_eq, and_assoc]

theorem Accums.zero_inRange : Accums.zero.inRange := by
  simp [Accums.inRange_iff, Accums.zero, Acc.zero]

theorem count_inner {f : Accums → Accums} (h : ∀ a, a.inRange → (f a).inRange) (s : State) : KeepsInner s (count f s) :=
  keeps_takings fun ⟨h1, h2, h3, h4⟩ => ⟨h1, h2, h _ h3, h4⟩

theorem countSettlement_inner (t : Tender) (n : Nat) (d : Int) (s : State) : KeepsInner s (countSettlement t n d s) := by
  refine count_inner (fun a ha => ?_) s
  obtain ⟨⟨h1, h2, h3, h4, h5, h6⟩, hcounts, hr⟩ := Accums.inRange_iff.1 ha
  have hr' := SignedAcc.add_range (d := d) hr
  cases t with
  | cash => exact Accums.inRange_iff.2 ⟨⟨Acc.add_le h1, Acc.add_le h2, h3, h4, h5, h6⟩, hcounts, hr'⟩
  | card => exact Accums.inRange_iff.2 ⟨⟨h1, h2, Acc.add_le h3, Acc.add_le h4, h5, h6⟩, hcounts, hr'⟩
  | voucher => exact Accums.inRange_iff.2 ⟨⟨h1, h2, h3, h4, Acc.add_le h5, Acc.add_le h6⟩, hcounts, hr'⟩
  | none => exact ha

theorem countLineVoided_inner (s : State) : KeepsInner s (countLineVoided s) := by
  refine count_inner (fun _ ha => ?_) s
  obtain ⟨hm, ⟨h1, h2, h3, h4, h5, h6, h7⟩, hr⟩ := Accums.inRange_iff.1 ha
  exact Accums.inRange_iff.2 ⟨hm, ⟨Acc.add_le h1, h2, h3, h4, h5, h6, h7⟩, hr⟩

theorem countTabClosed_inner (s : State) : KeepsInner s (countTabClosed s) := by
  refine count_inner (fun _ ha => ?_) s
  obtain ⟨hm, ⟨h1, h2, h3, h4, h5, h6, h7⟩, hr⟩ := Accums.inRange_iff.1 ha
  exact Accums.inRange_iff.2 ⟨hm, ⟨h1, Acc.add_le h2, h3, h4, h5, h6, h7⟩, hr⟩

theorem countAccepted_inner (s : State) : KeepsInner s (countAccepted s) := by
  refine count_inner (fun _ ha => ?_) s
  obtain ⟨hm, ⟨h1, h2, h3, h4, h5, h6, h7⟩, hr⟩ := Accums.inRange_iff.1 ha
  exact Accums.inRange_iff.2 ⟨hm, ⟨h1, h2, Acc.add_le h3, h4, h5, h6, h7⟩, hr⟩

theorem countReadied_inner (s : State) : KeepsInner s (countReadied s) := by
  refine count_inner (fun _ ha => ?_) s
  obtain ⟨hm, ⟨h1, h2, h3, h4, h5, h6, h7⟩, hr⟩ := Accums.inRange_iff.1 ha
  exact Accums.inRange_iff.2 ⟨hm, ⟨h1, h2, h3, Acc.add_le h4, h5, h6, h7⟩, hr⟩

theorem countVoided_inner (s : State) : KeepsInner s (countVoided s) := by
  refine count_inner (fun _ ha => ?_) s
  obtain ⟨hm, ⟨h1, h2, h3, h4, h5, h6, h7⟩, hr⟩ := Accums.inRange_iff.1 ha
  exact Accums.inRange_iff.2 ⟨hm, ⟨h1, h2, h3, h4, Acc.add_le h5, h6, h7⟩, hr⟩

theorem countLate_inner (s : State) : KeepsInner s (countLate s) := by
  refine count_inner (fun _ ha => ?_) s
  obtain ⟨hm, ⟨h1, h2, h3, h4, h5, h6, h7⟩, hr⟩ := Accums.inRange_iff.1 ha
  exact Accums.inRange_iff.2 ⟨hm, ⟨h1, h2, h3, h4, h5, Acc.add_le h6, h7⟩, hr⟩

theorem countWaste_inner (n : Nat) (s : State) : KeepsInner s (countWaste n s) := by
  refine count_inner (fun _ ha => ?_) s
  obtain ⟨hm, ⟨h1, h2, h3, h4, h5, h6, h7⟩, hr⟩ := Accums.inRange_iff.1 ha
  exact Accums.inRange_iff.2 ⟨hm, ⟨h1, h2, h3, h4, h5, h6, Acc.add_le h7⟩, hr⟩

/-- A capture starts the span anew at the period that begins (R58). -/
theorem TakingsFit.captured {t : Takings} (h : TakingsFit t) {x y : Option Capture} {d : Bool}
    (hc : ∀ c, x = some c ∨ y = some c → c.accums.inRange) :
    TakingsFit { t with accums := .zero, spanStart := t.period, deferral := d, slot1 := x, slot2 := y } :=
  ⟨h.period, Nat.le_refl _, Accums.zero_inRange, hc⟩

theorem captureAttempt_inner (ended : Nat) (s : State) : KeepsInner s (captureAttempt ended s).2 := by
  unfold captureAttempt
  dsimp only
  split
  · refine .trans (keeps_takings fun h => h.captured (d := false) fun c hc => ?_) (post_inner _ _)
    rcases hc with hc | hc
    · rw [← Option.some.inj hc]; exact h.accums
    · exact h.captures c (.inr hc)
  · rename_i c1 h1 h2
    refine .trans (keeps_takings fun h => h.captured (d := false) fun c hc => ?_) (post_inner _ _)
    rcases hc with hc | hc
    · exact h.captures c (.inl hc)
    · rw [← Option.some.inj hc]; exact h.accums
  · refine .trans (keeps_takings fun h => ?_) (post_inner _ _)
    exact ⟨h.period, h.span, h.accums, h.captures⟩

theorem localAdvance_inner (s : State) : KeepsInner s (localAdvance s).2 := by
  unfold localAdvance
  refine .trans (.trans (keeps_takings fun h => ?_) (sendFrame_inner _ _)) (captureAttempt_inner _ _)
  have hp := h.period
  have hs := h.span
  exact ⟨Nat.min_le_right _ _, by dsimp only; omega, h.accums, h.captures⟩

theorem heardPeriod_inner {n : Nat} (hn : n ≤ Config.maxPeriod) (s : State) : KeepsInner s (heardPeriod n s) := by
  unfold heardPeriod
  split
  · exact .refl s
  · rename_i hlt
    split
    · refine .trans (keeps_takings fun h => ?_) (captureAttempt_inner _ _)
      have hs := h.span
      exact ⟨hn, by dsimp only; omega, h.accums, h.captures⟩
    · split
      · exact keeps_takings fun h => ⟨hn, Nat.le_refl _, h.accums, h.captures⟩
      · exact .refl s

/-! ## Claims at the home and a tab's end (R39, R43) -/

theorem tellClaimEnd_inner (tab share k : Nat) (r : EndReason) (s : State) : KeepsInner s (tellClaimEnd tab share k r s) := by
  unfold tellClaimEnd
  split
  · exact post_inner _ s
  · exact sendFrame_inner _ s

/-- A tab that is not SPLITTING may be closed. -/
theorem closeTab_inner {tab : Nat} (o : TabOutcome) (h : SplitsSound s → ∀ t, findTab s tab = some t → t.state ≠ .splitting) :
    KeepsInner s (closeTab tab o s) := by
  refine .trans (.trans (inner_modTab (n := tab) ?_ ?_ ?_ ?_ ?_) (countTabClosed_inner _)) (post_inner _ _)
  · exact fun _ => rfl
  · exact fun _ _ => .congr rfl
  · exact fun _ _ hc => hc.congr rfl rfl rfl
  · refine fun hs t ht hsound => ⟨⟨?_, hsound.numbered, hsound.sums, hsound.shares⟩, ?_⟩
    · rfl
    · exact ⟨fun hst => by simp at hst, fun hst => absurd hst (h hs t ht)⟩
  · exact fun _ hst => by simp at hst

/-! ## A kitchen's void at a tab (R17, R27, R52, R53) -/

theorem tellAll_tabs (tab : Nat) (r : EndReason) (l : List Share) (s : State) :
    (l.foldl (fun s sh => tellClaimEnd tab sh.number sh.claimant r s) s).tabs = s.tabs := by
  induction l generalizing s with
  | nil => rfl
  | cons sh l ih => rw [List.foldl_cons, ih, tellClaimEnd_tabs]

theorem refundLine_inner {tab : Nat} {sp : SplitRec} {t : Tab} {l : Line} (ht : findTab s tab = some t) {line : Nat}
    (hl : t.line line = some l) (hf : l.state.final = false) : KeepsInner s (refundLine tab sp l s) :=
  .trans (refund_inner (fun x hx => by rw [ht] at hx; rw [← Option.some.inj hx, number_of_line hl, hl]) hf) (post_inner _ _)

theorem automaticWithdraw_inner {tab line : Nat} {sp : SplitRec} {t : Tab} {l : Line} (ht : findTab s tab = some t)
    (hst : t.state = .split) (hl : t.line line = some l) (hf : l.state.final = false) :
    KeepsInner s (automaticWithdraw tab sp line s) := by
  unfold automaticWithdraw
  dsimp only
  generalize htold : (sp.shares.filter (·.state == .claimed)).foldl
    (fun s sh => tellClaimEnd tab sh.number sh.claimant .cancelled s) s = told
  have hfind : findTab told tab = some t := by
    rw [findTab, ← htold, tellAll_tabs]; exact ht
  have h1 : KeepsInner s told := htold ▸ .foldl (fun s sh => tellClaimEnd_inner _ _ _ _ s) _ s
  have h2 : KeepsInner told (modTab tab Tab.withdrawSplit told) :=
    withdrawSplit_inner fun x hx => by rw [hfind] at hx; rw [← Option.some.inj hx]; exact .inr hst
  refine h1.trans (h2.trans (.trans (setLineState_inner fun x y hx hy => ?_) (post_inner _ _)))
  rw [findTab_modTab tab Tab.withdrawSplit (fun _ => rfl), hfind] at hx
  obtain rfl := Option.some.inj hx
  have : t.withdrawSplit.line line = some { l with sharers := none } := by
    unfold Tab.line at hl ⊢
    rw [Tab.withdrawSplit, List.find?_map]
    simp only [Function.comp_def, hl, Option.map_some]
  rw [this] at hy
  rw [← Option.some.inj hy]
  exact hf

theorem tabKitchenVoid_inner (tab line : Nat) (s : State) : KeepsInner s (tabKitchenVoid tab line s) := by
  unfold tabKitchenVoid
  split
  · exact .refl s
  · rename_i t ht
    split
    · exact .refl s
    · rename_i l hl
      split
      · exact .refl s
      · rename_i hf
        rw [Bool.not_eq_true] at hf
        have hset : KeepsInner s (setLineState tab line .kvoid s) := setLineState_inner fun x y hx hy => by
          rw [ht] at hx
          obtain rfl := Option.some.inj hx
          rw [hl] at hy
          obtain rfl := Option.some.inj hy
          exact hf
        split
        · exact hset
        · exact hset.trans (stale_inner tab)
        · rename_i hst _
          split
          · exact refundLine_inner ht hl hf
          · exact automaticWithdraw_inner ht hst hl hf
        · exact refundLine_inner ht hl hf
        · exact .refl s

/-! ## Ticket records (R77, R78) -/

theorem modTicket_inner {n : Nat} {f : Ticket → Ticket} (hf : ∀ t, t.number = n → (f t).number = n) (s : State) :
    KeepsInner s (modTicket n f s) := by
  have hnum : (mapIf (·.number == n) f s.router.tickets).map (·.number) = s.router.tickets.map (·.number) :=
    map_mapIf _ f (·.number) (fun t ht => by rw [hf t (beq_iff_eq.1 ht)]; exact (beq_iff_eq.1 ht).symm) _
  refine keeps_router (by dsimp only; rw [length_mapIf]; exact id) (fun ⟨h1, h2, h3⟩ => ⟨by rw [hnum]; exact h1, fun t ht => ?_, h3⟩) id
  rcases mem_mapIf ht with ⟨h, -⟩ | ⟨a, ha, hp, rfl⟩
  · exact h2 t h
  · rw [hf a (beq_iff_eq.1 hp), ← beq_iff_eq.1 hp]; exact h2 a ha

theorem dropTicket_inner (n : Nat) (s : State) : KeepsInner s (dropTicket n s) := by
  refine keeps_router (fun h => Nat.le_trans (List.length_filter_le _ _) h) (fun ⟨h1, h2, h3⟩ => ⟨?_, fun t ht => ?_, h3⟩) id
  · exact h1.sublist (List.Sublist.map _ List.filter_sublist)
  · exact h2 t (List.mem_filter.1 ht).1

theorem pruneTicket_inner (n : Nat) (s : State) : KeepsInner s (pruneTicket n s) := by
  rcases pruneTicket_cases s n with h | h <;> rw [h]
  · exact .refl s
  · exact dropTicket_inner n s

theorem endTicket_inner (t : Ticket) {dst : LineState} (hd : dst.charged = true) (s : State) : KeepsInner s (endTicket t dst s) :=
  .trans (moveLines_inner (fun st h => LineState.final_of_ended (by simpa using h)) hd) (dropTicket_inner _ _)

/-- Lines that stand in one given state, not a final one, move on. -/
theorem moveFrom_inner {tab : Nat} {lines : List Nat} {src dst : LineState} (hs : src.final = false) (hd : dst.charged = true)
    (s : State) : KeepsInner s (moveLines tab lines (· == src) dst s) :=
  moveLines_inner (fun st h => by rw [beq_iff_eq.1 h]; exact hs) hd

theorem unroute_inner (t : Ticket) (r : UnroutedReason) (s : State) : KeepsInner s (unroute t r s) :=
  .trans (modTicket_inner (by exact fun _ h => h) s) (.trans (moveFrom_inner rfl rfl _) (post_inner _ _))

theorem failOffer_inner (n k : Nat) (s : State) : KeepsInner s (failOffer n k s) := by
  unfold failOffer
  split
  · exact .refl s
  · rename_i t ht
    have hn := number_of_findTicket ht
    split
    · dsimp only
      split
      · exact .trans (modTicket_inner (by exact fun _ _ => hn) s) (dropTicket_inner _ _)
      · split
        · exact modTicket_inner (by exact fun _ _ => hn) s
        · exact .trans (modTicket_inner (by exact fun _ _ => hn) s) (unroute_inner _ _ _)
    · exact .refl s

/-! ## Void requests (R90, R91) -/

theorem voids_inner {l : List VoidEntry} (h : s.router.voids.length ≤ Config.voidCapacity → l.length ≤ Config.voidCapacity) :
    KeepsInner s { s with router := { s.router with voids := l } } := keeps_router id (fun ⟨h1, h2, h3⟩ => ⟨h1, h2, h3⟩) h

/-- The end of a void request posts notices and no more. -/
theorem voidEnd_inner (e : VoidEntry) (a : VoidAnswer) (s : State) : KeepsInner s (voidEnd e a s) := by
  unfold voidEnd
  split
  · exact post_inner _ s
  · have first : ∀ c : List (Nat × Nat),
        KeepsInner s (if c.isEmpty then s else post (.voidResult e.ticket e.kitchen c) s) := fun c =>
      .ite (.refl s) (post_inner _ s)
    exact .ite (first _) ((first _).trans (post_inner _ _))

/-- A hand-over of reports, or of void requests, that keeps what the blocks rest on. -/
def HandOver.Inner (rep : HandOver) : Prop := ∀ n r s, KeepsInner s (rep n r s)

def OwnVoid.Inner (own : OwnVoid) : Prop := ∀ n l s, KeepsInner s (own n l s).2

theorem requestVoid_inner {own : OwnVoid} (h : own.Inner) (e : VoidEntry) (s : State) : KeepsInner s (requestVoid own e s) := by
  unfold requestVoid
  split
  · exact (h _ _ _).trans (voidEnd_inner _ _ _)
  · dsimp only
    split
    · exact voids_inner (by rw [length_mapIf]; exact id)
    · split
      · exact voidEnd_inner _ _ _
      · rename_i hroom
        exact voids_inner fun _ => by simp; omega

theorem strayVoid_inner {own : OwnVoid} (h : own.Inner) (t : Ticket) (k : Nat) (s : State) : KeepsInner s (strayVoid own t k s) := by
  unfold strayVoid
  split
  · exact .refl s
  · exact .trans (modTicket_inner (by exact fun _ h => h) s) (requestVoid_inner h _ _)

/-! ## The directory's load figures (R69) -/

/-- Entries changed each for itself, stations and presences standing. -/
theorem mapPeers_inner {g : Peer → Peer} (hs : ∀ p, (g p).station = p.station) (hp : ∀ p, (g p).presence = p.presence)
    (ht : ∀ p, (g p).silence.isSome = p.silence.isSome) (hk : ∀ p, (p.load.isSome = true → p.kitchen = true) →
      (g p).load.isSome = true → (g p).kitchen = true)
    (hl : ∀ p, (∀ l, p.load = some l → l.inRange) → ∀ l, (g p).load = some l → l.inRange) :
    KeepsInner s { s with dir := { s.dir with entries := s.dir.entries.map g } } := by
  refine keeps_dir (fun h => ?_) fun h p hp' => ?_
  · obtain ⟨h1, h2, h3, h4, h5, h6, h7⟩ := h
    refine ⟨by simpa using h1, ?_, fun p hp' => ?_, h4, fun k => (h5 k).trans ?_, fun p hp' => ?_, fun p hp' => ?_⟩
    · rw [List.map_map]
      exact (List.map_congr_left fun p _ => hs p : s.dir.entries.map ((·.station) ∘ g) = s.dir.entries.map (·.station)) ▸ h2
    · obtain ⟨x, hx, rfl⟩ := List.mem_map.1 hp'
      rw [hs]; exact h3 x hx
    · exact ⟨fun ⟨p, hm, hk', hl'⟩ => ⟨g p, List.mem_map_of_mem hm, by rw [hs, hk'], by rw [hp, hl']⟩, fun ⟨p, hm, hk', hl'⟩ => by
        obtain ⟨x, hx, rfl⟩ := List.mem_map.1 hm
        exact ⟨x, hx, by rw [← hs, hk'], by rw [← hp, hl']⟩⟩
    · obtain ⟨x, hx, rfl⟩ := List.mem_map.1 hp'
      rw [hp, ht]; exact h6 x hx
    · obtain ⟨x, hx, rfl⟩ := List.mem_map.1 hp'
      exact hk x (h7 x hx)
  · obtain ⟨x, hx, rfl⟩ := List.mem_map.1 hp'
    exact hl x (h x hx)

/-- The load figures of one entry, each within its range. -/
theorem modLoad_inner {k : Nat} {f : KitchenLoad → KitchenLoad} (hf : ∀ l, l.inRange → (f l).inRange) (s : State) :
    KeepsInner s (modPeer k (fun p => { p with load := p.load.map f }) s) := by
  refine mapPeers_inner (g := fun p => if p.station == k then { p with load := p.load.map f } else p) (fun p => ?_) (fun p => ?_)
    (fun p => ?_) (fun p h => ?_) (fun p h => ?_) <;> split
  · rfl
  · rfl
  · rfl
  · rfl
  · rfl
  · rfl
  · simpa using h
  · exact h
  · intro l hl
    obtain ⟨l', hl', rfl⟩ := Option.map_eq_some_iff.1 hl
    exact hf l' (h l' hl')
  · exact h

theorem recordDepth_inner (k depth : Nat) (s : State) : KeepsInner s (recordDepth k depth s) :=
  modLoad_inner (by exact fun _ ⟨_, h2, h3⟩ => ⟨Nat.min_le_right _ _, h2, h3⟩) s

theorem recordPlaced_inner (k : Nat) (s : State) : KeepsInner s (recordPlaced k s) :=
  modLoad_inner (by exact fun _ ⟨h1, h2, _⟩ => ⟨h1, h2, Nat.min_le_right _ _⟩) s

/-! ## Placement and reports (R83 to R89) -/

theorem placeTicket_inner {own : OwnVoid} (h : own.Inner) (t : Ticket) (k : Nat) (depth : Option Nat) (late : Bool) (s : State) :
    KeepsInner s (placeTicket own t k depth late s) := by
  have lines : KeepsInner s (moveLines t.tab t.lines (fun st => st == .pending || st == .unrouted) .queued
      (modTicket t.number (fun t => { t with state := .placed k .queued }) s)) :=
    .trans (modTicket_inner (by exact fun _ h => h) s) (moveLines_inner (fun st h => by cases st <;> first | rfl | simp at h) rfl)
  have loaded : ∀ u, KeepsInner s u → KeepsInner s (recordPlaced k (match depth with | some d => recordDepth k d u | none => u)) := by
    intro u hu
    cases depth with
    | none => exact hu.trans (recordPlaced_inner _ _)
    | some d => exact hu.trans ((recordDepth_inner _ _ _).trans (recordPlaced_inner _ _))
  have finish : ∀ u (l : List Nat), KeepsInner s u →
      KeepsInner s (pruneTicket t.number (if l.isEmpty then u else requestVoid own ⟨k, t.number, t.tab, l, .till⟩ u)) := by
    intro u l hu
    split
    · exact hu.trans (pruneTicket_inner _ _)
    · exact hu.trans ((requestVoid_inner h _ _).trans (pruneTicket_inner _ _))
  exact finish _ _ (loaded _ lines)

theorem takeAccept_inner {own : OwnVoid} (h : own.Inner) (n k depth : Nat) (s : State) : KeepsInner s (takeAccept own n k depth s) := by
  unfold takeAccept
  split
  · exact requestVoid_inner h _ _
  · split
    · split
      · exact placeTicket_inner h _ _ _ _ _
      · exact strayVoid_inner h _ _ _
    · split
      · exact recordDepth_inner _ _ _
      · exact strayVoid_inner h _ _ _
    · exact strayVoid_inner h _ _ _

theorem takeLateAccept_inner {own : OwnVoid} (h : own.Inner) (n k depth : Nat) (s : State) :
    KeepsInner s (takeLateAccept own n k depth s) := by
  unfold takeLateAccept
  split
  · exact requestVoid_inner h _ _
  · split
    · split
      · exact recordDepth_inner _ _ _
      · exact strayVoid_inner h _ _ _
    · exact placeTicket_inner h _ _ _ _ _

theorem reportVoids_inner (t : Ticket) (lines : List Nat) (s : State) : KeepsInner s (reportVoids t lines s) :=
  .trans (.foldl (fun s _ => tabKitchenVoid_inner _ _ s) _ s) (pruneTicket_inner _ _)

theorem applyPlaced_inner (t : Ticket) (k : Nat) (ks : KState) (r : Report) (s : State) : KeepsInner s (applyPlaced t k ks r s) := by
  unfold applyPlaced
  split
  · split
    · exact .trans (modTicket_inner (by exact fun _ h => h) s) (moveFrom_inner rfl rfl _)
    · exact .refl s
  · split
    · exact .refl s
    · exact .trans (modTicket_inner (by exact fun _ h => h) s)
        (.trans (moveLines_inner (fun st h => by cases st <;> first | rfl | simp at h) rfl) (post_inner _ _))
  · exact endTicket_inner t rfl s
  · exact endTicket_inner t rfl s
  · exact endTicket_inner t rfl s
  · exact reportVoids_inner _ _ _
  · exact .refl s

theorem applyReport_inner {own : OwnVoid} (h : own.Inner) (k n : Nat) (r : Report) (s : State) :
    KeepsInner s (applyReport own k n r s) := by
  have stray : ∀ t : Ticket, KeepsInner s (applyStray own t k r s) := by
    intro t
    unfold applyStray
    split
    · exact strayVoid_inner h _ _ _
    · exact strayVoid_inner h _ _ _
    · exact .refl s
  unfold applyReport
  split
  · exact .refl s
  · split
    · split
      · exact applyPlaced_inner _ _ _ _ _
      · exact stray _
    · split
      · dsimp only
        split
        · exact (placeTicket_inner h _ _ _ _ _).trans (applyPlaced_inner _ _ _ _ _)
        · exact placeTicket_inner h _ _ _ _ _
      · exact stray _

end

end Sys2Proof.Machine
end

section
/-! The kitchen queue and the portion table under the invariants: how the lists change and what the transfers make of the figures (R97 to
R113, R119, R122). -/

namespace Sys2Proof.Machine

/-! ## Portions on lines (R103) -/

/-- The portions of an item on the lines of a list that have the portion-taken flag. -/
def takenQty (item : Nat) (l : List KLine) : Nat := ((l.filter fun x => x.taken && x.item == item).map (·.qty)).sum

theorem takenBy_nil (item : Nat) : takenBy item [] = 0 := rfl

theorem takenQty_append (item : Nat) (a b : List KLine) : takenQty item (a ++ b) = takenQty item a + takenQty item b := by
  simp [takenQty, List.filter_append]

theorem takenBy_append (item : Nat) (a b : List KTicket) : takenBy item (a ++ b) = takenBy item a + takenBy item b := by
  simp [takenBy, List.flatMap_append, List.filter_append]

theorem takenBy_cons (item : Nat) (t : KTicket) (l : List KTicket) : takenBy item (t :: l) = takenQty item t.active + takenBy item l := by
  simp [takenBy, takenQty, List.filter_append]

theorem takenBy_map (item : Nat) {f : KTicket → KTicket} {l : List KTicket} (h : ∀ t ∈ l, (f t).active = t.active) :
    takenBy item (l.map f) = takenBy item l := by
  induction l with
  | nil => rfl
  | cons t l ih =>
    rw [List.map_cons, takenBy_cons, takenBy_cons, h t (by simp), ih fun t ht => h t (by simp [ht])]

theorem takenQty_filter (item : Nat) (p : KLine → Bool) (l : List KLine) :
    takenQty item l = takenQty item (l.filter p) + takenQty item (l.filter fun x => !p x) := by
  induction l with
  | nil => rfl
  | cons x l ih =>
    have hx : ∀ m : List KLine, takenQty item (x :: m) = takenQty item [x] + takenQty item m := fun m => takenQty_append item [x] m
    by_cases hp : p x = true
    · rw [List.filter_cons_of_pos hp, List.filter_cons_of_neg (by simp [hp]), hx, hx (l.filter p)]; omega
    · rw [List.filter_cons_of_neg hp, List.filter_cons_of_pos (by simpa using hp), hx, hx (l.filter fun x => !p x)]; omega

theorem takenQty_le (item : Nat) {l : List KLine} {n : Nat} (h : ∀ x ∈ l, x.qty ≤ n) : takenQty item l ≤ l.length * n := by
  induction l with
  | nil => simp [takenQty]
  | cons x l ih =>
    have hl := ih fun y hy => h y (by simp [hy])
    have hx := h x (by simp)
    have hcons : takenQty item (x :: l) ≤ x.qty + takenQty item l := by
      unfold takenQty
      rw [List.filter_cons]
      split <;> simp
    rw [List.length_cons, Nat.succ_mul]
    omega

theorem takenBy_le (item : Nat) {l : List KTicket}
    (h : ∀ t ∈ l, t.lines.length ≤ Config.groupCapacity ∧ ∀ x ∈ t.lines, x.qty ≤ 20) : takenBy item l ≤ l.length * 160 := by
  induction l with
  | nil => simp [takenBy_nil]
  | cons t l ih =>
    have hl := ih fun y hy => h y (by simp [hy])
    obtain ⟨hlen, hqty⟩ := h t (by simp)
    have hone := takenQty_le item (l := t.active) fun x hx => hqty x (List.mem_filter.1 hx).1
    have hactive : t.active.length ≤ 8 := Nat.le_trans (List.length_filter_le _ _) hlen
    rw [takenBy_cons, List.length_cons, Nat.succ_mul]
    have := Nat.mul_le_mul_right 20 hactive
    omega

/-! ## What transfers make of an entry (R122) -/

/-- A transfer for each portion-taken line of an entry's item, in order. -/
def Portion.moved (f : Nat → Portion → Portion) (lines : List KLine) (p : Portion) : Portion :=
  ((lines.filter fun l => l.taken && l.item == p.item).map (·.qty)).foldl (fun u q => f q u) p

theorem transferAll_cons (f : Nat → Portion → Portion) (l : KLine) (lines : List KLine) (s : State) :
    transferAll f (l :: lines) s = transferAll f lines (if l.taken then modPortion l.item (f l.qty) s else s) := by
  unfold transferAll
  rw [List.filter_cons]
  split <;> rfl

theorem transferAll_eq {f : Nat → Portion → Portion} (hf : ∀ q p, (f q p).item = p.item) (lines : List KLine) (s : State) :
    transferAll f lines s = { s with portions := s.portions.map (Portion.moved f lines) } := by
  induction lines generalizing s with
  | nil => exact congrArg (fun l => { s with portions := l }) (List.map_id _).symm
  | cons l lines ih =>
    rw [transferAll_cons, ih]
    split
    · rename_i ht
      unfold modPortion mapIf
      simp only [List.map_map, State.mk.injEq, true_and, and_true]
      refine List.map_congr_left fun p _ => ?_
      by_cases hp : p.item = l.item
      · simp [Portion.moved, hp, ht, hf]
      · simp [Portion.moved, hp, ht, Ne.symm hp]
    · rename_i ht
      simp only [State.mk.injEq, true_and, and_true]
      refine List.map_congr_left fun p _ => ?_
      simp [Portion.moved, ht]

theorem foldl_fire (qs : List Nat) (p : Portion) :
    qs.foldl (fun u q => Portion.fire q u) p = { p with held := p.held - qs.sum, used := p.used + qs.sum } := by
  induction qs generalizing p with
  | nil => simp
  | cons q qs ih => rw [List.foldl_cons, ih]; simp only [Portion.fire, List.sum_cons, Nat.sub_sub, Nat.add_assoc]

theorem foldl_take (qs : List Nat) (p : Portion) :
    qs.foldl (fun u q => Portion.take q u) p = { p with remaining := p.remaining - qs.sum, held := p.held + qs.sum } := by
  induction qs generalizing p with
  | nil => simp
  | cons q qs ih => rw [List.foldl_cons, ih]; simp only [Portion.take, List.sum_cons, Nat.sub_sub, Nat.add_assoc]

theorem foldl_addWaste (qs : List Nat) (p : Portion) :
    qs.foldl (fun u q => Portion.addWaste q u) p = { p with waste := p.waste + qs.sum } := by
  induction qs generalizing p with
  | nil => simp
  | cons q qs ih => rw [List.foldl_cons, ih]; simp only [Portion.addWaste, List.sum_cons, Nat.add_assoc]

theorem giveBack_eq (q : Nat) (p : Portion) : p.giveBack q =
    { p with
      remaining := min Config.portionLimit (p.remaining + q), held := p.held - q,
      loaded := p.loaded - (p.remaining + q - Config.portionLimit) } := by
  unfold Portion.giveBack
  generalize Config.portionLimit = limit
  simp only [Portion.mk.injEq, true_and, and_true]
  omega

theorem foldl_giveBack (qs : List Nat) {p : Portion} (h : p.remaining ≤ Config.portionLimit) :
    qs.foldl (fun u q => Portion.giveBack q u) p =
      { p with
        remaining := min Config.portionLimit (p.remaining + qs.sum), held := p.held - qs.sum,
        loaded := p.loaded - (p.remaining + qs.sum - Config.portionLimit) } := by
  induction qs generalizing p with
  | nil =>
    generalize Config.portionLimit = limit at h ⊢
    rw [List.foldl_nil, List.sum_nil, Nat.add_zero, Nat.sub_zero, Nat.min_eq_right h, Nat.sub_eq_zero_of_le h, Nat.sub_zero]
  | cons q qs ih =>
    have hq : (p.giveBack q).remaining ≤ Config.portionLimit := by
      rw [giveBack_eq]
      exact Nat.min_le_left _ _
    rw [List.foldl_cons, ih hq, giveBack_eq, List.sum_cons]
    clear hq ih
    generalize Config.portionLimit = limit at h ⊢
    simp only [Portion.mk.injEq, true_and, and_true]
    refine ⟨?_, ?_, ?_⟩ <;> omega

theorem moved_fire (lines : List KLine) (p : Portion) : p.moved Portion.fire lines =
    { p with held := p.held - takenQty p.item lines, used := p.used + takenQty p.item lines } := foldl_fire _ p

theorem moved_take (lines : List KLine) (p : Portion) : p.moved Portion.take lines =
    { p with remaining := p.remaining - takenQty p.item lines, held := p.held + takenQty p.item lines } := foldl_take _ p

theorem moved_addWaste (lines : List KLine) (p : Portion) : p.moved Portion.addWaste lines =
    { p with waste := p.waste + takenQty p.item lines } := foldl_addWaste _ p

theorem moved_giveBack (lines : List KLine) {p : Portion} (h : p.remaining ≤ Config.portionLimit) :
    p.moved Portion.giveBack lines =
      { p with
        remaining := min Config.portionLimit (p.remaining + takenQty p.item lines), held := p.held - takenQty p.item lines,
        loaded := p.loaded - (p.remaining + takenQty p.item lines - Config.portionLimit) } := foldl_giveBack _ h

theorem moved_item {f : Nat → Portion → Portion} (hf : ∀ q p, (f q p).item = p.item) (lines : List KLine) (p : Portion) :
    (p.moved f lines).item = p.item := by
  unfold Portion.moved
  generalize (lines.filter fun l => l.taken && l.item == p.item).map (·.qty) = qs
  induction qs generalizing p with
  | nil => rfl
  | cons q qs ih => rw [List.foldl_cons, ih, hf]

/-! ## The figures of one entry (R119) -/

/-- `PortionsBalance` of one entry beside the kitchen queue. -/
structure Portion.Sound (k : Kitchen) (p : Portion) : Prop where
  balance : p.loaded = p.remaining + p.held + p.used
  remaining : p.remaining ≤ Config.portionLimit
  loaded : p.loaded ≤ Config.max32
  marks : p.preset ≤ Config.portionLimit ∧ p.low ≤ 999
  held : p.held = takenBy p.item k.queued
  heldRange : p.held ≤ Config.portionLimit
  adjust : -(Config.maxSigned : Int) ≤ p.adjust ∧ p.adjust ≤ (Config.maxSigned : Int)
  waste : p.waste + takenBy p.item k.fired + takenBy p.item k.ready ≤ p.used

theorem portionsBalance_iff {s : State} : PortionsBalance s ↔
    KitchenSound s ∧ (s.portions.map (·.item)).Pairwise (· < ·) ∧ (∀ p ∈ s.portions, p.Sound s.kitchen) ∧
    (∀ t ∈ s.kitchen.all, t.lines.length ≤ Config.groupCapacity ∧ ∀ l ∈ t.lines, l.qty ≤ 20) ∧
    ∀ t ∈ s.kitchen.all, ∀ l ∈ t.lines, l.taken = true → ∃ p ∈ s.portions, p.item = l.item := by
  constructor
  · rintro ⟨h1, h2, h3, h4, h5, h6, h7, h8, h9, h10, h11, h12⟩
    refine ⟨h1, h2, fun p hp => ⟨h3 p hp, h4 p hp, h5 p hp, h6 p hp, h8 p hp, h9 p hp, h10 p hp, ?_⟩, h7, h12⟩
    have := h11 p hp
    rw [takenBy_append] at this
    omega
  · rintro ⟨h1, h2, h, h7, h12⟩
    refine ⟨h1, h2, fun p hp => (h p hp).balance, fun p hp => (h p hp).remaining, fun p hp => (h p hp).loaded, fun p hp => (h p hp).marks,
      h7, fun p hp => (h p hp).held, fun p hp => (h p hp).heldRange, fun p hp => (h p hp).adjust, fun p hp => ?_, h12⟩
    have := (h p hp).waste
    rw [takenBy_append]
    omega

/-! ## The three lists -/

/-- What names a ticket and gives its order of acceptance. -/
def KTicket.key (t : KTicket) : Nat × Nat := (t.ref, t.seq)

/-- What orders the queued list. -/
def KTicket.order (t : KTicket) : Bool × Nat := (t.rush, t.seq)

/-- `t'` is a later version of ticket `t`: no line is new, taken anew, or at work again. -/
structure KTicket.From (t' t : KTicket) : Prop where
  ref : t'.ref = t.ref
  length : t'.lines.length = t.lines.length
  lines : ∀ l' ∈ t'.lines, ∃ l ∈ t.lines, l'.qty = l.qty ∧ l'.item = l.item ∧ (l'.taken = true → l.taken = true) ∧
    (l'.active = true → l.active = true)

theorem KTicket.From.refl {t t' : KTicket} (hr : t'.ref = t.ref) (hl : t'.lines = t.lines) : t'.From t :=
  ⟨hr, by rw [hl], fun l hl' => ⟨l, by rwa [← hl], rfl, rfl, id, id⟩⟩

theorem KTicket.From.active {t t' : KTicket} (h : t'.From t) (ha : t.active = []) : t'.active = [] := by
  refine List.filter_eq_nil_iff.2 fun l' hl' hact => ?_
  obtain ⟨l, hl, -, -, -, hla⟩ := h.lines l' hl'
  exact List.filter_eq_nil_iff.1 ha l hl (hla hact)

/-- A list is part of another in some order. -/
def PartOf {α : Type} (l m : List α) : Prop := ∃ x, l.Perm x ∧ x.Sublist m

section
variable {α β : Type} {l m : List α}

theorem PartOf.refl (l : List α) : PartOf l l := ⟨l, .refl l, .refl l⟩

theorem PartOf.of_sublist (h : l.Sublist m) : PartOf l m := ⟨l, .refl l, h⟩

theorem PartOf.of_perm (h : l.Perm m) : PartOf l m := ⟨m, h, .refl m⟩

theorem PartOf.map (h : PartOf l m) (f : α → β) : PartOf (l.map f) (m.map f) := by
  obtain ⟨x, hperm, hsub⟩ := h
  exact ⟨x.map f, hperm.map f, hsub.map f⟩

theorem PartOf.length_le (h : PartOf l m) : l.length ≤ m.length := by
  obtain ⟨x, hperm, hsub⟩ := h
  exact hperm.length_eq ▸ hsub.length_le

theorem PartOf.mem (h : PartOf l m) {a : α} (ha : a ∈ l) : a ∈ m := by
  obtain ⟨x, hperm, hsub⟩ := h
  exact hsub.subset (hperm.mem_iff.1 ha)

theorem PartOf.nodup (h : PartOf l m) (hm : m.Nodup) : l.Nodup := by
  obtain ⟨x, hperm, hsub⟩ := h
  exact hperm.nodup_iff.2 (hm.sublist hsub)

end

/-- A kitchen queue with no new ticket: what `KitchenSound` needs of it. -/
structure Kitchen.Shrinks (k k' : Kitchen) : Prop where
  keys : PartOf (k'.all.map KTicket.key) (k.all.map KTicket.key)
  accepts : k'.accepts = k.accepts
  queued : (k'.queued.map KTicket.order).Sublist (k.queued.map KTicket.order)

theorem Kitchen.refs_eq (k : Kitchen) : k.all.map (·.ref) = (k.all.map KTicket.key).map (·.1) := by
  rw [List.map_map]; rfl

theorem KitchenSound.shrinks {s : State} (h : KitchenSound s) {k' : Kitchen} {l : List Portion} (hk : s.kitchen.Shrinks k')
    (hf : s.kitchen.fired.length ≤ s.cfg.fireLimit → k'.fired.length ≤ s.cfg.fireLimit) :
    KitchenSound { s with kitchen := k', portions := l } := by
  obtain ⟨hkeys, hacc, hq⟩ := hk
  have hlen : k'.all.length ≤ s.kitchen.all.length := by simpa using hkeys.length_le
  have hmem : ∀ t' ∈ k'.all, ∃ t ∈ s.kitchen.all, t.ref = t'.ref ∧ t.seq = t'.seq := by
    intro t' ht'
    obtain ⟨t, ht, heq⟩ := List.mem_map.1 (hkeys.mem (List.mem_map_of_mem ht'))
    exact ⟨t, ht, congrArg Prod.fst heq, congrArg Prod.snd heq⟩
  refine ⟨fun ho => ?_, Nat.le_trans hlen h.fits, ?_, fun t' ht' => ?_, fun t' ht' => ?_, ?_, hf h.fired⟩
  · have := h.offline ho
    rw [this] at hlen
    exact List.length_eq_zero_iff.1 (Nat.le_zero.1 hlen)
  · have hrefs := h.refs
    dsimp only
    rw [Kitchen.refs_eq] at hrefs ⊢
    exact (hkeys.map (·.1)).nodup hrefs
  · obtain ⟨t, ht, hr, -⟩ := hmem t' ht'
    exact hr ▸ h.refRange t ht
  · obtain ⟨t, ht, -, hs⟩ := hmem t' ht'
    dsimp only
    rw [hacc, ← hs]
    exact h.accepted t ht
  · have hord : (s.kitchen.queued.map KTicket.order).Pairwise fun a b => (a.1 = true ∧ b.1 = false) ∨ (a.1 = b.1 ∧ a.2 < b.2) :=
      List.pairwise_map.2 h.ordered
    exact List.pairwise_map.1 (hord.sublist hq)

/-- A change of the kitchen queue without a new ticket, with the figures of each entry for itself. -/
theorem inner_kitchen {s : State} {k' : Kitchen} {g : Portion → Portion} (hcount : k'.all.length ≤ s.kitchen.all.length)
    (hk : (s.kitchen.all.map (·.ref)).Nodup → s.kitchen.Shrinks k')
    (hf : s.kitchen.fired.length ≤ s.cfg.fireLimit → k'.fired.length ≤ s.cfg.fireLimit)
    (hl : ∀ t' ∈ k'.all, ∃ t ∈ s.kitchen.all, t'.From t) (hitem : ∀ p, (g p).item = p.item)
    (hg : (s.kitchen.all.map (·.ref)).Nodup → ∀ p, p.Sound s.kitchen → (g p).Sound k') :
    KeepsInner s { s with kitchen := k', portions := s.portions.map g } := by
  have hitems : (s.portions.map g).map (·.item) = s.portions.map (·.item) := by
    rw [List.map_map]; exact List.map_congr_left fun p _ => hitem p
  refine ⟨keepsBlocks_kitchen (fun h => Nat.le_trans hcount h) (fun h => h.shrinks (hk h.refs) hf) (fun h => ?_)
    (by rw [List.length_map]; exact id) (by rw [hitems]; exact id), fun ref h t' ht' hr => ?_, fun _ => id⟩
  · obtain ⟨hks, hord, hsound, hlines, htaken⟩ := portionsBalance_iff.1 h
    refine portionsBalance_iff.2 ⟨hks.shrinks (hk hks.refs) hf, by dsimp only; rw [hitems]; exact hord, fun p hp => ?_, fun t' ht' => ?_,
      fun t' ht' l' hl' htk => ?_⟩
    · obtain ⟨q, hq, rfl⟩ := List.mem_map.1 hp
      exact hg hks.refs q (hsound q hq)
    · obtain ⟨t, ht, hfrom⟩ := hl t' ht'
      obtain ⟨hlen, hqty⟩ := hlines t ht
      refine ⟨hfrom.length ▸ hlen, fun l' hl' => ?_⟩
      obtain ⟨l, hl, heq, -⟩ := hfrom.lines l' hl'
      exact heq ▸ hqty l hl
    · obtain ⟨t, ht, hfrom⟩ := hl t' ht'
      obtain ⟨l, hl, -, hi, htk', -⟩ := hfrom.lines l' hl'
      obtain ⟨p, hp, hpi⟩ := htaken t ht l hl (htk' htk)
      exact ⟨g p, List.mem_map_of_mem hp, by rw [hitem, hpi, hi]⟩
  · obtain ⟨t, ht, hfrom⟩ := hl t' ht'
    exact hfrom.active (h t ht (by rw [← hfrom.ref, hr]))

/-- A change of the kitchen queue that moves no portions. -/
theorem inner_kitchen_still {s : State} {k' : Kitchen} (hcount : k'.all.length ≤ s.kitchen.all.length)
    (hk : (s.kitchen.all.map (·.ref)).Nodup → s.kitchen.Shrinks k')
    (hf : s.kitchen.fired.length ≤ s.cfg.fireLimit → k'.fired.length ≤ s.cfg.fireLimit)
    (hl : ∀ t' ∈ k'.all, ∃ t ∈ s.kitchen.all, t'.From t)
    (hg : (s.kitchen.all.map (·.ref)).Nodup → ∀ item, takenBy item k'.queued = takenBy item s.kitchen.queued ∧
      takenBy item k'.fired + takenBy item k'.ready ≤ takenBy item s.kitchen.fired + takenBy item s.kitchen.ready) :
    KeepsInner s { s with kitchen := k' } := by
  have := inner_kitchen (s := s) (g := id) hcount hk hf hl (fun _ => rfl) fun hn p hp => by
    obtain ⟨hq, hw⟩ := hg hn p.item
    have hwaste := hp.waste
    exact { hp with held := hp.held.trans hq.symm, waste := by dsimp only [id]; omega }
  rwa [List.map_id] at this

end Sys2Proof.Machine
end

section
/-! The kitchen queue's operations under the invariants: tickets that move between the lists, leave them, or are voided (R97 to R113). -/

namespace Sys2Proof.Machine

/-! ## A ticket in its list -/

/-- The list a place names. -/
def Kitchen.listAt (k : Kitchen) : Place → List KTicket
  | .queued => k.queued
  | .fired => k.fired
  | .ready => k.ready

/-- The queue with another list at a place. -/
def Kitchen.setAt (k : Kitchen) (l : List KTicket) : Place → Kitchen
  | .queued => { k with queued := l }
  | .fired => { k with fired := l }
  | .ready => { k with ready := l }

theorem Kitchen.mem_all {k : Kitchen} {t : KTicket} : t ∈ k.all ↔ t ∈ k.queued ∨ t ∈ k.fired ∨ t ∈ k.ready := by
  simp [Kitchen.all]

theorem Kitchen.mem_all_of_at {k : Kitchen} {p : Place} {t : KTicket} (h : t ∈ k.listAt p) : t ∈ k.all := by
  cases p
  · exact mem_all.2 (.inl h)
  · exact mem_all.2 (.inr (.inl h))
  · exact mem_all.2 (.inr (.inr h))

theorem byRef_at {k : Kitchen} {ref : Nat} {p : Place} {t : KTicket} (h : k.byRef ref = some (p, t)) : t.ref = ref ∧ t ∈ k.listAt p := by
  obtain ⟨hr, hm⟩ := byRef_mem h
  cases p <;> exact ⟨hr, hm⟩

theorem locate_at {k : Kitchen} {f : KTicket → Bool} {p : Place} {t : KTicket} (h : k.locate f = some (p, t)) :
    f t = true ∧ t ∈ k.listAt p := by
  unfold Kitchen.locate at h
  split at h
  · rename_i u hu
    obtain ⟨rfl, rfl⟩ := Prod.mk.inj (Option.some.inj h)
    exact ⟨List.find?_some hu, List.mem_of_find?_eq_some hu⟩
  · split at h
    · rename_i u hu
      obtain ⟨rfl, rfl⟩ := Prod.mk.inj (Option.some.inj h)
      exact ⟨List.find?_some hu, List.mem_of_find?_eq_some hu⟩
    · obtain ⟨u, hu, heq⟩ := Option.map_eq_some_iff.1 h
      obtain ⟨rfl, rfl⟩ := Prod.mk.inj heq
      exact ⟨List.find?_some hu, List.mem_of_find?_eq_some hu⟩

/-- Where a list holds no ticket of a reference, neither a removal nor a change of that reference touches it. -/
theorem ref_absent {l : List KTicket} {ref : Nat} (h : ∀ t ∈ l, t.ref ≠ ref) (f : KTicket → KTicket) :
    l.filter (·.ref != ref) = l ∧ l.map (fun t => if t.ref = ref then f t else t) = l := by
  refine ⟨List.filter_eq_self.2 fun t ht => by simpa using h t ht, ?_⟩
  calc l.map (fun t => if t.ref = ref then f t else t) = l.map id := List.map_congr_left fun t ht => if_neg (h t ht)
    _ = l := List.map_id l

/-- In a list of distinct references a removal takes one ticket out, and a change touches one. -/
theorem ref_once {l : List KTicket} (hn : (l.map (·.ref)).Nodup) {t : KTicket} (ht : t ∈ l) : ∃ a b, l = a ++ t :: b ∧
    l.filter (·.ref != t.ref) = a ++ b ∧
    ∀ f : KTicket → KTicket, l.map (fun x => if x.ref = t.ref then f x else x) = a ++ f t :: b := by
  obtain ⟨a, b, rfl⟩ := List.append_of_mem ht
  rw [List.map_append, List.map_cons] at hn
  obtain ⟨-, hcons, hdisj⟩ := List.nodup_append.1 hn
  have ha : ∀ x ∈ a, x.ref ≠ t.ref := fun x hx => hdisj _ (List.mem_map_of_mem hx) _ (by simp)
  have hb : ∀ x ∈ b, x.ref ≠ t.ref := fun x hx heq => (List.nodup_cons.1 hcons).1 (heq ▸ List.mem_map_of_mem hx)
  refine ⟨a, b, rfl, ?_, fun f => ?_⟩
  · rw [List.filter_append, List.filter_cons_of_neg (by simp), (ref_absent ha id).1, (ref_absent hb id).1]
  · rw [List.map_append, List.map_cons, (ref_absent ha f).2, (ref_absent hb f).2, if_pos rfl]

/-- Where references are distinct, what is done to a ticket's reference is done to that ticket alone. -/
theorem Kitchen.apart {k : Kitchen} (hn : (k.all.map (·.ref)).Nodup) {p : Place} {t : KTicket} (ht : t ∈ k.listAt p) :
    ∃ a b, k.listAt p = a ++ t :: b ∧ k.drop t.ref = k.setAt (a ++ b) p ∧ ∀ f, k.modRef t.ref f = k.setAt (a ++ f t :: b) p := by
  unfold Kitchen.all at hn
  rw [List.map_append, List.map_append] at hn
  obtain ⟨hqf, hr, hdr⟩ := List.nodup_append.1 hn
  obtain ⟨hq, hf, hdf⟩ := List.nodup_append.1 hqf
  cases p with
  | queued =>
    obtain ⟨a, b, heq, hdrop, hmod⟩ := ref_once hq ht
    have hfired : ∀ x ∈ k.fired, x.ref ≠ t.ref := fun x hx h => hdf _ (List.mem_map_of_mem ht) _ (List.mem_map_of_mem hx) h.symm
    have hready : ∀ x ∈ k.ready, x.ref ≠ t.ref := fun x hx h =>
      hdr _ (List.mem_append_left _ (List.mem_map_of_mem ht)) _ (List.mem_map_of_mem hx) h.symm
    refine ⟨a, b, heq, ?_, fun f => ?_⟩
    · rw [Kitchen.drop, hdrop, (ref_absent hfired id).1, (ref_absent hready id).1, Kitchen.setAt]
    · rw [Kitchen.modRef, Kitchen.mapAll, hmod, (ref_absent hfired f).2, (ref_absent hready f).2, Kitchen.setAt]
  | fired =>
    obtain ⟨a, b, heq, hdrop, hmod⟩ := ref_once hf ht
    have hqueued : ∀ x ∈ k.queued, x.ref ≠ t.ref := fun x hx h => hdf _ (List.mem_map_of_mem hx) _ (List.mem_map_of_mem ht) h
    have hready : ∀ x ∈ k.ready, x.ref ≠ t.ref := fun x hx h =>
      hdr _ (List.mem_append_right _ (List.mem_map_of_mem ht)) _ (List.mem_map_of_mem hx) h.symm
    refine ⟨a, b, heq, ?_, fun f => ?_⟩
    · rw [Kitchen.drop, hdrop, (ref_absent hqueued id).1, (ref_absent hready id).1, Kitchen.setAt]
    · rw [Kitchen.modRef, Kitchen.mapAll, hmod, (ref_absent hqueued f).2, (ref_absent hready f).2, Kitchen.setAt]
  | ready =>
    obtain ⟨a, b, heq, hdrop, hmod⟩ := ref_once hr ht
    have hqueued : ∀ x ∈ k.queued, x.ref ≠ t.ref := fun x hx h =>
      hdr _ (List.mem_append_left _ (List.mem_map_of_mem hx)) _ (List.mem_map_of_mem ht) h
    have hfired : ∀ x ∈ k.fired, x.ref ≠ t.ref := fun x hx h =>
      hdr _ (List.mem_append_right _ (List.mem_map_of_mem hx)) _ (List.mem_map_of_mem ht) h
    refine ⟨a, b, heq, ?_, fun f => ?_⟩
    · rw [Kitchen.drop, hdrop, (ref_absent hqueued id).1, (ref_absent hfired id).1, Kitchen.setAt]
    · rw [Kitchen.modRef, Kitchen.mapAll, hmod, (ref_absent hqueued f).2, (ref_absent hfired f).2, Kitchen.setAt]

/-! ## Removal -/

section
variable {s : State}

theorem takenBy_filter_le (item : Nat) (p : KTicket → Bool) (l : List KTicket) : takenBy item (l.filter p) ≤ takenBy item l := by
  induction l with
  | nil => exact Nat.le_refl _
  | cons t l ih =>
    rw [List.filter_cons]
    split
    · rw [takenBy_cons, takenBy_cons]; omega
    · rw [takenBy_cons]; omega

theorem takenBy_filter_void (item : Nat) {p : KTicket → Bool} {l : List KTicket} (h : ∀ t ∈ l, p t = false → t.active = []) :
    takenBy item (l.filter p) = takenBy item l := by
  induction l with
  | nil => rfl
  | cons t l ih =>
    have htail := ih fun x hx => h x (by simp [hx])
    by_cases hp : p t = true
    · rw [List.filter_cons_of_pos hp, takenBy_cons, takenBy_cons, htail]
    · rw [List.filter_cons_of_neg hp, takenBy_cons, htail, h t (by simp) (by simpa using hp)]
      simp [takenQty]

theorem Kitchen.drop_all (ref : Nat) (k : Kitchen) : (k.drop ref).all = k.all.filter (·.ref != ref) := by
  simp [Kitchen.drop, Kitchen.all, List.filter_append]

/-- A ticket leaves the queue; a QUEUED one only with no line at work. -/
theorem drop_inner {ref : Nat}
    (h : (s.kitchen.all.map (·.ref)).Nodup → ∀ t ∈ s.kitchen.queued, t.ref = ref → t.active = []) :
    KeepsInner s { s with kitchen := s.kitchen.drop ref } := by
  refine inner_kitchen_still ?_ (fun _ => ⟨?_, rfl, ?_⟩) (fun hf => Nat.le_trans (List.length_filter_le _ _) hf) (fun t ht => ?_)
    (fun hn item => ⟨?_, ?_⟩)
  · rw [Kitchen.drop_all]; exact List.length_filter_le _ _
  · rw [Kitchen.drop_all]; exact .of_sublist (List.filter_sublist.map _)
  · exact List.filter_sublist.map _
  · rw [Kitchen.drop_all] at ht
    exact ⟨t, (List.mem_filter.1 ht).1, .refl rfl rfl⟩
  · exact takenBy_filter_void item fun t ht hp => h hn t ht (by simpa using hp)
  · exact Nat.add_le_add (takenBy_filter_le _ _ _) (takenBy_filter_le _ _ _)

/-! ## Moves between the lists -/

/-- What the fire transfers leave of an entry, beside a queue whose QUEUED tickets hold that much less. -/
theorem Portion.Sound.fired {p : Portion} {k k' : Kitchen} {lines : List KLine} (h : p.Sound k)
    (hq : takenBy p.item k.queued = takenBy p.item k'.queued + takenQty p.item lines)
    (hw : takenBy p.item k'.fired + takenBy p.item k'.ready = takenBy p.item k.fired + takenBy p.item k.ready + takenQty p.item lines) :
    (p.moved Portion.fire lines).Sound k' := by
  obtain ⟨hb, hr, hl, hm, hh, hhr, ha, hu⟩ := h
  rw [moved_fire]
  generalize takenQty p.item lines = q at hq hw
  refine ⟨?_, hr, hl, hm, ?_, ?_, ha, ?_⟩ <;> dsimp only <;> omega

theorem length_filter_ref_lt {l : List KTicket} {t : KTicket} (ht : t ∈ l) : (l.filter (·.ref != t.ref)).length < l.length :=
  List.length_filter_lt_length_iff_exists.2 ⟨t, ht, by simp⟩

/-- A QUEUED ticket moves to the fired list with its fire transfers (R104). -/
theorem fire_inner {t : KTicket} (ht : t ∈ s.kitchen.queued) (hroom : s.kitchen.fired.length < s.cfg.fireLimit) :
    KeepsInner s (transferAll Portion.fire t.active
      { s with kitchen := { s.kitchen.drop t.ref with fired := (s.kitchen.drop t.ref).fired ++ [t] } }) := by
  rw [transferAll_eq (f := Portion.fire) (fun _ _ => rfl)]
  refine inner_kitchen (s := s) (k' := { s.kitchen.drop t.ref with fired := (s.kitchen.drop t.ref).fired ++ [t] }) ?_ (fun hn => ?_)
    (fun _ => ?_) (fun x hx => ?_) (moved_item (f := Portion.fire) (fun _ _ => rfl) t.active) (fun hn p hp => ?_)
  · have h1 := length_filter_ref_lt ht
    have h2 := List.length_filter_le (·.ref != t.ref) s.kitchen.fired
    have h3 := List.length_filter_le (·.ref != t.ref) s.kitchen.ready
    simp only [Kitchen.all, Kitchen.drop, List.length_append, List.length_singleton]
    omega
  · obtain ⟨a, b, hat, hdrop, -⟩ := Kitchen.apart hn (p := .queued) ht
    have hqueued : s.kitchen.queued = a ++ t :: b := hat
    rw [hdrop]
    refine ⟨PartOf.of_perm (List.perm_iff_count.2 fun x => ?_), rfl, ?_⟩
    · simp only [Kitchen.all, Kitchen.setAt, hqueued, List.map_append, List.map_cons, List.map_nil, List.count_append, List.count_cons,
        List.count_nil]
      omega
    · rw [hqueued]
      exact ((List.Sublist.refl a).append (List.sublist_cons_self t b)).map _
  · have := List.length_filter_le (·.ref != t.ref) s.kitchen.fired
    simp only [Kitchen.drop, List.length_append, List.length_singleton]
    omega
  · refine ⟨x, ?_, .refl rfl rfl⟩
    simp only [Kitchen.mem_all, Kitchen.drop, List.mem_append, List.mem_filter, List.mem_singleton] at hx
    rcases hx with h | (h | rfl) | h
    · exact Kitchen.mem_all.2 (.inl h.1)
    · exact Kitchen.mem_all.2 (.inr (.inl h.1))
    · exact Kitchen.mem_all.2 (.inl ht)
    · exact Kitchen.mem_all.2 (.inr (.inr h.1))
  · obtain ⟨a, b, hat, hdrop, -⟩ := Kitchen.apart hn (p := .queued) ht
    have hqueued : s.kitchen.queued = a ++ t :: b := hat
    rw [hdrop]
    refine hp.fired ?_ ?_
    · rw [hqueued]
      simp only [Kitchen.setAt, takenBy_append, takenBy_cons]; omega
    · simp only [Kitchen.setAt, takenBy_append, takenBy_cons, takenBy_nil]; omega

/-- A ticket moves to the ready list, a QUEUED one with its fire transfers (R106). -/
theorem ready_inner {p : Place} {t : KTicket} (ht : t ∈ s.kitchen.listAt p) (hp : p ≠ .ready) (ms : Nat) (u : State)
    (hu : u = { s with kitchen := { s.kitchen.drop t.ref with ready := (s.kitchen.drop t.ref).ready ++ [t.readied ms] } }) :
    KeepsInner s (if p = .queued then transferAll Portion.fire t.active u else u) := by
  have hactive : (t.readied ms).active = t.active := rfl
  have hcount : ({ s.kitchen.drop t.ref with ready := (s.kitchen.drop t.ref).ready ++ [t.readied ms] } : Kitchen).all.length ≤
      s.kitchen.all.length := by
    have h1 := List.length_filter_le (·.ref != t.ref) s.kitchen.queued
    have h2 := List.length_filter_le (·.ref != t.ref) s.kitchen.fired
    have h3 := List.length_filter_le (·.ref != t.ref) s.kitchen.ready
    simp only [Kitchen.all, Kitchen.drop, List.length_append, List.length_singleton]
    cases p with
    | queued => have := length_filter_ref_lt (l := s.kitchen.queued) ht; omega
    | fired => have := length_filter_ref_lt (l := s.kitchen.fired) ht; omega
    | ready => exact absurd rfl hp
  have hlines : ∀ x ∈ ({ s.kitchen.drop t.ref with ready := (s.kitchen.drop t.ref).ready ++ [t.readied ms] } : Kitchen).all,
      ∃ y ∈ s.kitchen.all, x.From y := by
    intro x hx
    simp only [Kitchen.mem_all, Kitchen.drop, List.mem_append, List.mem_filter, List.mem_singleton] at hx
    rcases hx with h | h | h | rfl
    · exact ⟨x, Kitchen.mem_all.2 (.inl h.1), .refl rfl rfl⟩
    · exact ⟨x, Kitchen.mem_all.2 (.inr (.inl h.1)), .refl rfl rfl⟩
    · exact ⟨x, Kitchen.mem_all.2 (.inr (.inr h.1)), .refl rfl rfl⟩
    · exact ⟨t, Kitchen.mem_all_of_at ht, .refl rfl rfl⟩
  have hfired : s.kitchen.fired.length ≤ s.cfg.fireLimit → (s.kitchen.drop t.ref).fired.length ≤ s.cfg.fireLimit :=
    Nat.le_trans (List.length_filter_le _ _)
  cases p with
  | ready => exact absurd rfl hp
  | queued =>
    rw [if_pos rfl, hu, transferAll_eq (f := Portion.fire) (fun _ _ => rfl)]
    refine inner_kitchen (s := s) hcount (fun hn => ?_) hfired hlines (moved_item (f := Portion.fire) (fun _ _ => rfl) t.active) (fun hn p hp => ?_)
    · obtain ⟨a, b, hat, hdrop, -⟩ := Kitchen.apart hn ht
      have hqueued : s.kitchen.queued = a ++ t :: b := hat
      rw [hdrop]
      refine ⟨PartOf.of_perm (List.perm_iff_count.2 fun x => ?_), rfl, ?_⟩
      · simp only [Kitchen.all, Kitchen.setAt, hqueued, List.map_append, List.map_cons, List.map_nil, List.count_append, List.count_cons,
          List.count_nil, KTicket.key, KTicket.readied]
        omega
      · rw [hqueued]
        exact ((List.Sublist.refl a).append (List.sublist_cons_self t b)).map _
    · obtain ⟨a, b, hat, hdrop, -⟩ := Kitchen.apart hn ht
      have hqueued : s.kitchen.queued = a ++ t :: b := hat
      rw [hdrop]
      refine hp.fired ?_ ?_
      · rw [hqueued]
        simp only [Kitchen.setAt, takenBy_append, takenBy_cons]; omega
      · simp only [Kitchen.setAt, takenBy_append, takenBy_cons, takenBy_nil, hactive]; omega
  | fired =>
    rw [if_neg (by simp), hu]
    refine inner_kitchen_still (s := s) hcount (fun hn => ?_) hfired hlines (fun hn item => ?_)
    · obtain ⟨a, b, hat, hdrop, -⟩ := Kitchen.apart hn ht
      have hfiredList : s.kitchen.fired = a ++ t :: b := hat
      rw [hdrop]
      refine ⟨PartOf.of_perm (List.perm_iff_count.2 fun x => ?_), rfl, List.Sublist.refl _⟩
      simp only [Kitchen.all, Kitchen.setAt, hfiredList, List.map_append, List.map_cons, List.map_nil, List.count_append, List.count_cons,
          List.count_nil, KTicket.key, KTicket.readied]
      omega
    · obtain ⟨a, b, hat, hdrop, -⟩ := Kitchen.apart hn ht
      have hfiredList : s.kitchen.fired = a ++ t :: b := hat
      rw [hdrop, hfiredList]
      refine ⟨rfl, ?_⟩
      simp only [Kitchen.setAt, takenBy_append, takenBy_cons, takenBy_nil, hactive]
      omega

/-! ## Fields that no invariant names -/

/-- A change of every ticket that leaves its reference, its order and its lines. -/
theorem mapAll_inner {f : KTicket → KTicket} (hk : ∀ t, (f t).key = t.key) (ho : ∀ t, (f t).order = t.order)
    (hl : ∀ t, (f t).lines = t.lines) : KeepsInner s { s with kitchen := s.kitchen.mapAll f } := by
  have hall : (s.kitchen.mapAll f).all = s.kitchen.all.map f := by simp [Kitchen.mapAll, Kitchen.all]
  have hby : ∀ item (l : List KTicket), takenBy item (l.map f) = takenBy item l := fun item l =>
    takenBy_map item fun t _ => by unfold KTicket.active; rw [hl]
  refine inner_kitchen_still ?_ (fun _ => ⟨?_, rfl, ?_⟩) (fun h => ?_) (fun t' ht' => ?_) (fun _ item => ⟨hby _ _, ?_⟩)
  · exact Nat.le_of_eq (by rw [hall, List.length_map])
  · have : (s.kitchen.mapAll f).all.map KTicket.key = s.kitchen.all.map KTicket.key := by
      rw [hall, List.map_map]; exact List.map_congr_left fun t _ => hk t
    exact this ▸ PartOf.refl _
  · have : (s.kitchen.queued.map f).map KTicket.order = s.kitchen.queued.map KTicket.order := by
      rw [List.map_map]; exact List.map_congr_left fun t _ => ho t
    exact this ▸ List.Sublist.refl _
  · simpa [Kitchen.mapAll] using h
  · rw [hall] at ht'
    obtain ⟨t, ht, rfl⟩ := List.mem_map.1 ht'
    exact ⟨t, ht, .refl (congrArg Prod.fst (hk t)) (hl t)⟩
  · simp only [Kitchen.mapAll, hby]; exact Nat.le_refl _

theorem modRef_inner {ref : Nat} {f : KTicket → KTicket} (hk : ∀ t, (f t).key = t.key) (ho : ∀ t, (f t).order = t.order)
    (hl : ∀ t, (f t).lines = t.lines) : KeepsInner s { s with kitchen := s.kitchen.modRef ref f } := by
  refine mapAll_inner (fun t => ?_) (fun t => ?_) (fun t => ?_) <;> split
  · exact hk t
  · rfl
  · exact ho t
  · rfl
  · exact hl t
  · rfl

theorem hold_inner (b : Bool) : KeepsInner s { s with kitchen := { s.kitchen with hold := b } } := by
  refine inner_kitchen_still (Nat.le_refl _) (fun _ => ⟨.refl _, rfl, List.Sublist.refl _⟩) id
    (fun t ht => ⟨t, ht, .refl rfl rfl⟩) (fun _ _ => ⟨rfl, Nat.le_refl _⟩)

/-! ## Voided lines (R111, R112) -/

/-- A ticket with the ACTIVE lines of some names made VOID. -/
def KTicket.voided (t : KTicket) (names : List Nat) (o : VoidOutcome) : KTicket :=
  { t with lines := mapIf (fun l => l.active && names.contains l.line) (fun l => { l with void := some o }) t.lines }

theorem voided_active (t : KTicket) (names : List Nat) (o : VoidOutcome) :
    (t.voided names o).active = t.active.filter fun l => !names.contains l.line := by
  unfold KTicket.active KTicket.voided mapIf
  dsimp only
  induction t.lines with
  | nil => rfl
  | cons l lines ih =>
    rw [List.map_cons]
    by_cases ha : l.active = true
    · by_cases hn : names.contains l.line = true
      · rw [if_pos (by rw [ha, hn]; rfl), List.filter_cons_of_neg (by simp [KLine.active]), List.filter_cons_of_pos ha,
          List.filter_cons_of_neg (by simp only [hn]; decide), ih]
      · rw [if_neg (by simp only [ha, Bool.true_and]; exact hn), List.filter_cons_of_pos ha, List.filter_cons_of_pos ha,
          List.filter_cons_of_pos (by rw [Bool.not_eq_true] at hn; rw [hn]; rfl), ih]
    · rw [if_neg (by simp [ha]), List.filter_cons_of_neg ha, List.filter_cons_of_neg ha, ih]

theorem voided_from (t : KTicket) (names : List Nat) (o : VoidOutcome) : (t.voided names o).From t := by
  refine ⟨rfl, by simp [KTicket.voided, length_mapIf], fun l' hl' => ?_⟩
  rcases mem_mapIf hl' with ⟨h, -⟩ | ⟨l, hl, -, rfl⟩
  · exact ⟨l', h, rfl, rfl, id, id⟩
  · exact ⟨l, hl, rfl, rfl, id, fun h => by simp [KLine.active] at h⟩

theorem takenQty_voided (item : Nat) (t : KTicket) (names : List Nat) (o : VoidOutcome) :
    takenQty item t.active = takenQty item (t.active.filter fun l => names.contains l.line) + takenQty item (t.voided names o).active := by
  rw [voided_active]
  exact takenQty_filter item (fun l => names.contains l.line) t.active

/-- What the returns leave of an entry, beside a queue whose QUEUED tickets hold that much less. -/
theorem Portion.Sound.givenBack {p : Portion} {k k' : Kitchen} {lines : List KLine} (h : p.Sound k)
    (hq : takenBy p.item k.queued = takenBy p.item k'.queued + takenQty p.item lines) (hf : k'.fired = k.fired) (hr : k'.ready = k.ready) :
    (p.moved Portion.giveBack lines).Sound k' := by
  obtain ⟨hb, hrem, hl, hm, hh, hhr, ha, hu⟩ := h
  rw [moved_giveBack lines hrem]
  generalize takenQty p.item lines = q at hq
  generalize hlimit : Config.portionLimit = limit at hrem hhr hm ⊢
  refine ⟨?_, ?_, ?_, ?_, ?_, ?_, ha, ?_⟩ <;> dsimp only
  · omega
  · rw [hlimit]; exact Nat.min_le_left _ _
  · omega
  · rw [hlimit]; exact hm
  · omega
  · rw [hlimit]; omega
  · rw [hf, hr]; exact hu

/-- What the waste leaves of an entry, beside a queue whose other tickets hold that much less. -/
theorem Portion.Sound.wasted {p : Portion} {k k' : Kitchen} {lines : List KLine} (h : p.Sound k) (hq : k'.queued = k.queued)
    (hw : takenBy p.item k.fired + takenBy p.item k.ready = takenBy p.item k'.fired + takenBy p.item k'.ready + takenQty p.item lines) :
    (p.moved Portion.addWaste lines).Sound k' := by
  obtain ⟨hb, hr, hl, hm, hh, hhr, ha, hu⟩ := h
  rw [moved_addWaste]
  refine ⟨hb, hr, hl, hm, by dsimp only; rw [hq]; exact hh, hhr, ha, ?_⟩
  dsimp only
  omega

/-- ACTIVE lines become VOID: those of a QUEUED ticket return their portions, those of another waste theirs. -/
theorem void_inner {p : Place} {t : KTicket} (ht : t ∈ s.kitchen.listAt p) (names : List Nat) (u : State)
    (hu : u = { s with kitchen := s.kitchen.modRef t.ref fun _ => t.voided names p.outcome }) :
    KeepsInner s (transferAll (if p = .queued then Portion.giveBack else Portion.addWaste)
      (t.active.filter fun l => names.contains l.line) u) := by
  have hf : ∀ q x, ((if p = .queued then Portion.giveBack else Portion.addWaste) q x).item = x.item := by
    intro q x
    split
    · rw [giveBack_eq]
    · rfl
  rw [transferAll_eq hf, hu]
  refine inner_kitchen (s := s) ?_ (fun hn => ?_) (fun h => ?_) (fun x hx => ?_) (moved_item hf _) (fun hn x hx => ?_)
  · simp [Kitchen.modRef, Kitchen.mapAll, Kitchen.all]
  · obtain ⟨a, b, hat, -, hmod⟩ := Kitchen.apart hn ht
    rw [hmod]
    cases p with
    | queued =>
      have hl : s.kitchen.queued = a ++ t :: b := hat
      refine ⟨PartOf.of_perm (List.perm_iff_count.2 fun x => ?_), rfl, ?_⟩
      · simp only [Kitchen.all, Kitchen.setAt, hl, List.map_append, List.map_cons, List.count_append, List.count_cons, KTicket.key,
          KTicket.voided]
      · rw [hl]
        simp only [Kitchen.setAt, List.map_append, List.map_cons]
        exact List.Sublist.refl _
    | fired =>
      have hl : s.kitchen.fired = a ++ t :: b := hat
      refine ⟨PartOf.of_perm (List.perm_iff_count.2 fun x => ?_), rfl, List.Sublist.refl _⟩
      simp only [Kitchen.all, Kitchen.setAt, hl, List.map_append, List.map_cons, List.count_append, List.count_cons, KTicket.key,
          KTicket.voided]
    | ready =>
      have hl : s.kitchen.ready = a ++ t :: b := hat
      refine ⟨PartOf.of_perm (List.perm_iff_count.2 fun x => ?_), rfl, List.Sublist.refl _⟩
      simp only [Kitchen.all, Kitchen.setAt, hl, List.map_append, List.map_cons, List.count_append, List.count_cons, KTicket.key,
          KTicket.voided]
  · simpa [Kitchen.modRef, Kitchen.mapAll] using h
  · have : (s.kitchen.modRef t.ref fun _ => t.voided names p.outcome).all =
        s.kitchen.all.map fun x => if x.ref = t.ref then t.voided names p.outcome else x := by
      simp [Kitchen.modRef, Kitchen.mapAll, Kitchen.all]
    rw [this] at hx
    obtain ⟨y, hy, rfl⟩ := List.mem_map.1 hx
    split
    · exact ⟨t, Kitchen.mem_all_of_at ht, voided_from t names _⟩
    · exact ⟨y, hy, .refl rfl rfl⟩
  · obtain ⟨a, b, hat, -, hmod⟩ := Kitchen.apart hn ht
    have hqty := takenQty_voided x.item t names p.outcome
    rw [hmod]
    cases p with
    | queued =>
      have hl : s.kitchen.queued = a ++ t :: b := hat
      refine hx.givenBack ?_ rfl rfl
      rw [hl]
      simp only [Kitchen.setAt, takenBy_append, takenBy_cons]; omega
    | fired =>
      have hl : s.kitchen.fired = a ++ t :: b := hat
      refine hx.wasted rfl ?_
      rw [hl]
      simp only [Kitchen.setAt, takenBy_append, takenBy_cons]; omega
    | ready =>
      have hl : s.kitchen.ready = a ++ t :: b := hat
      refine hx.wasted rfl ?_
      rw [hl]
      simp only [Kitchen.setAt, takenBy_append, takenBy_cons]; omega

end

end Sys2Proof.Machine
end

section
/-! Reports, the hold test, auto-fire and voids in the kitchen, and what it and the router hand to each other, under the invariants. -/

namespace Sys2Proof.Machine

section
variable {s : State}

/-! ## Reports, hold and auto-fire (R104, R105, R109, R110) -/

theorem makeReport_inner {rep : HandOver} (h : rep.Inner) (t : KTicket) (r : Report) (s : State) : KeepsInner s (makeReport rep t r s) := by
  unfold makeReport
  exact .ite (.ite (.refl s) (h _ _ _)) (sendFrame_inner _ _)

theorem holdTest_inner (s : State) : KeepsInner s (holdTest s) := by
  unfold holdTest
  exact .ite (.refl s) ((hold_inner _).trans ((holdBeacon_inner _).trans (post_inner _ _)))

theorem fireTicket_inner {rep : HandOver} (h : rep.Inner) {t : KTicket} (ht : t ∈ s.kitchen.queued)
    (hroom : s.kitchen.fired.length < s.cfg.fireLimit) : KeepsInner s (fireTicket rep t s) :=
  (fire_inner ht hroom).trans (makeReport_inner h _ _ _)

theorem autoFireLoop_inner {rep : HandOver} (h : rep.Inner) (n : Nat) (s : State) : KeepsInner s (autoFireLoop rep n s) := by
  induction n generalizing s with
  | zero => exact .refl s
  | succ n ih =>
    unfold autoFireLoop
    split
    · exact .refl s
    · rename_i t rest hq
      split
      · rename_i hroom
        exact (fireTicket_inner h (by rw [hq]; exact List.mem_cons_self) hroom).trans (ih _)
      · exact .refl s

theorem autoFire_inner {rep : HandOver} (h : rep.Inner) (s : State) : KeepsInner s (autoFire rep s) :=
  .ite (autoFireLoop_inner h _ _) (.refl s)

/-! ## Voids (R111, R112) -/

theorem removeVoided_inner {rep : HandOver} (h : rep.Inner) (p : Place) {t : KTicket} (ht : AllVoid t.ref s.kitchen) :
    KeepsInner s (removeVoided rep p t s) := by
  have left : KeepsInner s (countVoided (makeReport rep t (.state .voided) { s with kitchen := s.kitchen.drop t.ref })) :=
    (drop_inner fun _ x hx hr => ht x (Kitchen.mem_all.2 (.inl hx)) hr).trans
      ((makeReport_inner h _ _ _).trans (countVoided_inner _))
  unfold removeVoided
  cases p with
  | queued => exact left.trans (holdTest_inner _)
  | fired => exact left.trans ((holdTest_inner _).trans (autoFire_inner h _))
  | ready => exact left

/-- The state once the lines are void and their portions moved, before any report. -/
def voidPaid (p : Place) (t : KTicket) (names : List Nat) (s : State) : State :=
  let hit := t.active.filter fun l => names.contains l.line
  let moved : State := { s with kitchen := s.kitchen.modRef t.ref fun _ => t.voided names p.outcome }
  match p with
  | .queued => transferAll Portion.giveBack hit moved
  | _ => countWaste (hit.map (·.qty)).sum (transferAll Portion.addWaste hit moved)

theorem voidPaid_inner {p : Place} {t : KTicket} (ht : t ∈ s.kitchen.listAt p) (names : List Nat) : KeepsInner s (voidPaid p t names s) := by
  have core := void_inner ht names _ rfl
  cases p with
  | queued => exact core
  | fired => exact core.trans (countWaste_inner _ _)
  | ready => exact core.trans (countWaste_inner _ _)

theorem voidPaid_kitchen (p : Place) (t : KTicket) (names : List Nat) (s : State) :
    (voidPaid p t names s).kitchen = s.kitchen.modRef t.ref fun _ => t.voided names p.outcome := by
  cases p <;> simp [voidPaid, countWaste]

theorem allVoid_modRef {k : Kitchen} {ref : Nat} {t : KTicket} (h : t.active = []) : AllVoid ref (k.modRef ref fun _ => t) := by
  intro x hx hr
  have hall : (k.modRef ref fun _ => t).all = k.all.map fun x => if x.ref = ref then t else x := by
    simp [Kitchen.modRef, Kitchen.mapAll, Kitchen.all]
  rw [hall] at hx
  obtain ⟨y, -, rfl⟩ := List.mem_map.1 hx
  split
  · exact h
  · rename_i hne
    rw [if_neg hne] at hr
    exact absurd hr hne

theorem voidKLines_eq (rep : HandOver) (p : Place) (t : KTicket) (names : List Nat) (byKitchen : Bool) (s : State) :
    voidKLines rep p t names byKitchen s =
      let hit := t.active.filter fun l => names.contains l.line
      let t' := t.voided names p.outcome
      let named := (names.foldl (fun l n => addNew n l) []).filter fun n => hit.any (·.line == n)
      let reported := makeReport rep t' (.voids byKitchen named) (voidPaid p t names s)
      if hit.isEmpty then s else if t'.active.isEmpty then removeVoided rep p t' reported else reported := by
  unfold voidKLines voidPaid
  cases p <;> rfl

theorem voidKLines_inner {rep : HandOver} (h : rep.Inner) {p : Place} {t : KTicket} (ht : t ∈ s.kitchen.listAt p) (names : List Nat)
    (byKitchen : Bool) : KeepsInner s (voidKLines rep p t names byKitchen s) := by
  rw [voidKLines_eq]
  have reported : ∀ r, KeepsInner s (makeReport rep (t.voided names p.outcome) r (voidPaid p t names s)) := fun r =>
    (voidPaid_inner ht names).trans (makeReport_inner h _ _ _)
  dsimp only
  split
  · exact .refl s
  · split
    · rename_i hempty
      refine (reported _).trans (removeVoided_inner h p ?_)
      refine (makeReport_inner h _ _ _).voided _ ?_
      rw [voidPaid_kitchen]
      exact allVoid_modRef (List.isEmpty_iff.1 hempty)
    · exact reported _

theorem byKey_at {k : Kitchen} {home number : Nat} {p : Place} {t : KTicket} (h : k.byKey home number = some (p, t)) : t ∈ k.listAt p :=
  (locate_at h).2

theorem kitchenTicketVoid_inner {rep : HandOver} (h : rep.Inner) (home number : Nat) (lines : List Nat) (s : State) :
    KeepsInner s (kitchenTicketVoid rep home number lines s).2 := by
  unfold kitchenTicketVoid
  split
  · exact .refl s
  · rename_i p t hkey
    exact voidKLines_inner h (byKey_at hkey) _ _

/-! ## Hand-overs between kitchen and router -/

theorem handReport_inner (d : Nat) : (handReport d).Inner := by
  induction d with
  | zero => exact fun _ _ s => .refl s
  | succ d ih => exact fun n r s => applyReport_inner (fun n ls s => kitchenTicketVoid_inner ih _ n ls s) _ _ _ _

theorem ownReport_inner : ownReport.Inner := handReport_inner _

theorem ownVoid_inner : OwnVoid.Inner ownVoid := fun n ls s => kitchenTicketVoid_inner ownReport_inner _ n ls s

theorem voidLine_inner (tab line : Nat) (s : State) : KeepsInner s (voidLine tab line s) := by
  unfold voidLine
  split
  · exact .refl s
  · rename_i l hl
    split
    · exact .refl s
    · rename_i hf
      have hset : KeepsInner s (setLineState tab line .void s) := setLineState_inner fun t x ht hx => by
        rw [ht, Option.bind_some, hx] at hl
        rw [Option.some.inj hl]
        exact Bool.not_eq_true _ ▸ hf
      dsimp only
      split
      · exact hset
      · split
        · exact hset
        · exact hset.trans ((modTicket_inner (by exact fun _ h => h) _).trans (pruneTicket_inner _ _))
        · exact hset.trans ((modTicket_inner (by exact fun _ h => h) _).trans (pruneTicket_inner _ _))
        · exact hset.trans ((requestVoid_inner ownVoid_inner _ _).trans (pruneTicket_inner _ _))
        · exact hset.trans ((requestVoid_inner ownVoid_inner _ _).trans (pruneTicket_inner _ _))
        · exact hset.trans (pruneTicket_inner _ _)
        · exact hset

/-! ## Ready, Collect and the ticket timers (R106 to R108) -/

theorem readyTicket_inner {p : Place} {t : KTicket} (ht : t ∈ s.kitchen.listAt p) (hp : p ≠ .ready) : KeepsInner s (readyTicket p t s) :=
  (ready_inner ht hp _ _ rfl).trans ((makeReport_inner ownReport_inner _ _ _).trans (countReadied_inner _))

theorem collectTicket_inner {t : KTicket} (ht : t ∈ s.kitchen.ready) (r : ReportState) : KeepsInner s (collectTicket t r s) := by
  refine (drop_inner fun hn x hx hr => ?_).trans (makeReport_inner ownReport_inner _ _ _)
  unfold Kitchen.all at hn
  rw [List.map_append, List.map_append] at hn
  have hdisj := (List.nodup_append.1 hn).2.2
  exact absurd hr (hdisj _ (List.mem_append_left _ (List.mem_map_of_mem hx)) _ (List.mem_map_of_mem ht))

theorem modKTicket_inner {ref : Nat} {f : KTicket → KTicket} (hk : ∀ t, (f t).key = t.key) (ho : ∀ t, (f t).order = t.order)
    (hl : ∀ t, (f t).lines = t.lines) (s : State) : KeepsInner s (modKTicket ref f s) := modRef_inner hk ho hl

theorem onTicket_inner {ref : Nat} {f : Place → KTicket → State → State}
    (h : ∀ p t, t ∈ s.kitchen.listAt p → KeepsInner s (f p t s)) : KeepsInner s (onTicket ref f s) := by
  unfold onTicket
  split
  · exact .refl s
  · split
    · rename_i p t hby
      exact h p t (byRef_at hby).2
    · exact .refl s

theorem warnExpiry_inner (ref : Nat) (s : State) : KeepsInner s (warnExpiry ref s) :=
  onTicket_inner fun _ _ _ => .ite ((modKTicket_inner (by exact fun _ => rfl) (by exact fun _ => rfl) (by exact fun _ => rfl) s).trans
    (post_inner _ _)) (.refl s)

theorem lateExpiry_inner (ref : Nat) (s : State) : KeepsInner s (lateExpiry ref s) :=
  onTicket_inner fun _ _ _ => .ite ((modKTicket_inner (by exact fun _ => rfl) (by exact fun _ => rfl) (by exact fun _ => rfl) s).trans
    ((post_inner _ _).trans (countLate_inner _))) (.refl s)

theorem collectExpiry_inner (ref : Nat) (s : State) : KeepsInner s (collectExpiry ref s) := by
  refine onTicket_inner fun p t ht => ?_
  split
  · rename_i hc
    obtain ⟨rfl, -⟩ := hc
    exact (collectTicket_inner ht _).trans (post_inner _ _)
  · exact .refl s

theorem orphanTickets_inner (home : Nat) (s : State) : KeepsInner s (orphanTickets home s) := by
  have flagged : KeepsInner s { s with
      kitchen := s.kitchen.mapAll fun t => if t.home = home then { t with orphan := true } else t } := by
    refine mapAll_inner (fun t => ?_) (fun t => ?_) (fun t => ?_) <;> split <;> rfl
  exact .ite flagged (flagged.trans (post_inner _ _))

end

end Sys2Proof.Machine
end

section
/-! A ticket taken into the kitchen queue, under the invariants (R99 to R103). -/

namespace Sys2Proof.Machine

/-! ## The portions an offer asks for (R101) -/

/-- The portions of an item that the lines of an offer ask for. -/
def offeredQty (item : Nat) (l : List OfferLine) : Nat := ((l.filter (·.item == item)).map (·.qty)).sum

theorem offeredQty_append (item : Nat) (a b : List OfferLine) : offeredQty item (a ++ b) = offeredQty item a + offeredQty item b := by
  simp [offeredQty, List.filter_append]

/-- No short item: every entry has what the lines of its item ask for together. -/
theorem shortItem_none {table : List Portion} {item : Nat} {p : Portion} (hp : table.find? (·.item == item) = some p) :
    ∀ {seen rest : List OfferLine}, shortItem table seen rest = none → offeredQty item seen ≤ p.remaining →
      offeredQty item (seen ++ rest) ≤ p.remaining
  | seen, [], _, hs => by rwa [List.append_nil]
  | seen, l :: rest, h, hs => by
    rw [show seen ++ l :: rest = (seen ++ [l]) ++ rest by simp]
    unfold shortItem at h
    dsimp only at h
    by_cases hl : l.item = item
    · rw [hl, hp] at h
      dsimp only at h
      split at h
      · exact absurd h (by simp)
      · rename_i hsum
        exact shortItem_none hp h (Nat.le_of_not_lt hsum)
    · have hsame : offeredQty item (seen ++ [l]) = offeredQty item seen := by
        rw [offeredQty_append]; simp [offeredQty, hl]
      have htail : shortItem table (seen ++ [l]) rest = none := by
        split at h
        · split at h
          · exact absurd h (by simp)
          · exact h
        · exact h
      exact shortItem_none hp htail (by rw [hsame]; exact hs)

section
variable {s : State}

theorem newKTicket_active (home ref : Nat) (o : Offer) : (newKTicket s home ref o).active = (newKTicket s home ref o).lines :=
  List.filter_eq_self.2 fun l hl => by
    obtain ⟨x, -, rfl⟩ := List.mem_map.1 hl
    rfl

theorem takenQty_new (home ref : Nat) (o : Offer) {item : Nat} {p : Portion} (hp : findPortion s item = some p) :
    takenQty item (newKTicket s home ref o).lines = offeredQty item o.lines := by
  unfold takenQty offeredQty newKTicket
  dsimp only
  rw [List.filter_map, List.map_map]
  congr 1
  have hfilter : ∀ l : OfferLine, ((findPortion s l.item).isSome && l.item == item) = (l.item == item) := by
    intro l
    by_cases hl : l.item = item
    · rw [hl, hp]; simp
    · simp [hl]
  simp only [Function.comp_def, hfilter]

/-! ## The place in the queued list (R99) -/

/-- The order of the queued list: rush tickets first, each kind as accepted. -/
def Ahead (a b : KTicket) : Prop := (a.rush = true ∧ b.rush = false) ∨ (a.rush = b.rush ∧ a.seq < b.seq)

theorem dropWhile_normal {l : List KTicket} (h : l.Pairwise Ahead) : ∀ x ∈ l.dropWhile (·.rush), x.rush = false := by
  induction l with
  | nil => simp
  | cons t l ih =>
    obtain ⟨ht, hl⟩ := List.pairwise_cons.1 h
    rw [List.dropWhile_cons]
    split
    · exact ih hl
    · rename_i hn
      rw [Bool.not_eq_true] at hn
      intro x hx
      rcases List.mem_cons.1 hx with rfl | hx
      · exact hn
      · rcases ht x hx with ⟨hr, -⟩ | ⟨hr, -⟩
        · rw [hn] at hr; exact absurd hr (by simp)
        · rw [← hr, hn]

theorem mem_takeWhile_rush {l : List KTicket} {x : KTicket} (hx : x ∈ l.takeWhile (·.rush)) : x.rush = true := by
  have := List.all_takeWhile (p := fun t : KTicket => t.rush) (l := l)
  exact (List.all_eq_true.1 this) x hx

theorem enterQueued_ordered {l : List KTicket} {t : KTicket} (h : l.Pairwise Ahead) (hseq : ∀ x ∈ l, x.seq < t.seq) :
    (enterQueued t l).Pairwise Ahead := by
  unfold enterQueued
  split
  · rename_i hr
    have hparts : (l.takeWhile (·.rush) ++ l.dropWhile (·.rush)).Pairwise Ahead := by rwa [List.takeWhile_append_dropWhile]
    obtain ⟨hpre, hpost, hcross⟩ := List.pairwise_append.1 hparts
    rw [List.append_assoc, List.singleton_append]
    refine List.pairwise_append.2 ⟨hpre, List.pairwise_cons.2 ⟨fun x hx => .inl ⟨hr, dropWhile_normal h x hx⟩, hpost⟩, fun x hx y hy => ?_⟩
    rcases List.mem_cons.1 hy with rfl | hy
    · exact .inr ⟨by rw [mem_takeWhile_rush hx, hr], hseq x (List.takeWhile_subset _ hx)⟩
    · exact hcross x hx y hy
  · rename_i hr
    rw [Bool.not_eq_true] at hr
    refine List.pairwise_append.2 ⟨h, List.pairwise_singleton _ _, fun x hx y hy => ?_⟩
    rw [List.mem_singleton.1 hy]
    cases hx' : x.rush with
    | true => exact .inl ⟨hx', hr⟩
    | false => exact .inr ⟨by rw [hx', hr], hseq x hx⟩

theorem enterQueued_perm (t : KTicket) (l : List KTicket) : (enterQueued t l).Perm (t :: l) := by
  unfold enterQueued
  split
  · rw [List.append_assoc, List.singleton_append]
    refine (List.perm_middle).trans ?_
    rw [List.takeWhile_append_dropWhile]
  · exact List.perm_append_singleton t l

theorem takenBy_perm (item : Nat) {a b : List KTicket} (h : a.Perm b) : takenBy item a = takenBy item b := by
  unfold takenBy
  exact sum_perm (((h.flatMap_right _).filter _).map _)

/-! ## The ticket enters (R102) -/

theorem leastFree_spec {n k : Nat} {taken : Nat → Bool} (h : leastFree n taken = some k) : 1 ≤ k ∧ k ≤ n ∧ taken k = false := by
  unfold leastFree at h
  have hmem := List.mem_of_find?_eq_some h
  have hfree := List.find?_some h
  obtain ⟨i, hi, rfl⟩ := List.mem_map.1 hmem
  rw [List.mem_range] at hi
  exact ⟨by omega, by omega, by simpa using hfree⟩

/-- What the tests of R100 and R101 leave to be said of an offer taken under a reference. -/
structure Taken (s : State) (ref : Nat) (o : Offer) : Prop where
  inRange : o.inRange = true
  room : s.kitchen.all.length < Config.kitchenCapacity
  stock : shortItem s.portions [] o.lines = none
  free : leastFree Config.kitchenCapacity (fun r => s.kitchen.all.any (·.ref == r)) = some ref

/-- The queue with a new ticket in it. -/
def Kitchen.enter (k : Kitchen) (t : KTicket) : Kitchen :=
  { k with queued := enterQueued t k.queued, accepts := k.accepts + 1 }

/-- The queue with a new ticket in it, and its portions taken. -/
def entered (t : KTicket) (s : State) : State :=
  let taken := transferAll Portion.take t.lines s
  { taken with kitchen := { taken.kitchen with queued := enterQueued t taken.kitchen.queued, accepts := taken.kitchen.accepts + 1 } }

theorem entered_eq (t : KTicket) (s : State) : entered t s = { s with
    kitchen := s.kitchen.enter t
    portions := s.portions.map (Portion.moved Portion.take t.lines) } := by
  unfold entered
  rw [transferAll_eq (f := Portion.take) (fun _ _ => rfl)]
  rfl

theorem enter_all_perm (t : KTicket) (k : Kitchen) : (k.enter t).all.Perm (t :: k.all) := by
  simp only [Kitchen.all, Kitchen.enter]
  exact (((enterQueued_perm t k.queued).append_right _).append_right _)

theorem moved_items {f : Nat → Portion → Portion} (hf : ∀ q p, (f q p).item = p.item) (lines : List KLine) (l : List Portion) :
    (l.map (Portion.moved f lines)).map (·.item) = l.map (·.item) := by
  rw [List.map_map]
  exact List.map_congr_left fun p _ => moved_item hf lines p

theorem KitchenSound.entered {ref : Nat} {o : Offer} (h : KitchenSound s) (ho : s.station.state ≠ .offline) (ht : Taken s ref o)
    (home : Nat) : KitchenSound (entered (newKTicket s home ref o) s) := by
  obtain ⟨hlow, hhigh, hfree⟩ := leastFree_spec ht.free
  rw [entered_eq]
  have hperm := enter_all_perm (newKTicket s home ref o) s.kitchen
  have hmem : ∀ x ∈ (s.kitchen.enter (newKTicket s home ref o)).all, x = newKTicket s home ref o ∨ x ∈ s.kitchen.all := fun x hx =>
    List.mem_cons.1 (hperm.mem_iff.1 hx)
  refine ⟨fun h => absurd h ho, ?_, ?_, fun x hx => ?_, fun x hx => ?_, ?_, h.fired⟩
  · have hroom := ht.room
    dsimp only
    rw [hperm.length_eq, List.length_cons]
    exact hroom
  · refine ((hperm.map (·.ref)).nodup_iff).2 ?_
    rw [List.map_cons, List.nodup_cons]
    refine ⟨fun hin => ?_, h.refs⟩
    obtain ⟨x, hx, hr⟩ := List.mem_map.1 hin
    exact absurd hfree (by
      rw [Bool.not_eq_false]
      exact List.any_eq_true.2 ⟨x, hx, beq_iff_eq.2 hr⟩)
  · rcases hmem x hx with rfl | hx
    · exact ⟨hlow, hhigh⟩
    · exact h.refRange x hx
  · rcases hmem x hx with rfl | hx
    · exact Nat.lt_succ_self _
    · exact Nat.lt_succ_of_lt (h.accepted x hx)
  · exact enterQueued_ordered h.ordered fun x hx => h.accepted x (Kitchen.mem_all.2 (.inl hx))

theorem Offer.inRange_lines {o : Offer} (h : o.inRange = true) : o.lines.length ≤ 8 ∧ ∀ l ∈ o.lines, l.qty ≤ 20 := by
  simp only [Offer.inRange, Bool.and_eq_true, decide_eq_true_eq, List.all_eq_true] at h
  obtain ⟨⟨⟨⟨⟨⟨⟨⟨-, h8⟩, -⟩, hall⟩, -⟩, -⟩, -⟩, -⟩, -⟩ := h
  refine ⟨h8, fun l hl => ?_⟩
  have := hall l hl
  simp only [OfferLine.inRange, Bool.and_eq_true, decide_eq_true_eq] at this
  exact this.1.1.2

theorem PortionsBalance.entered {ref : Nat} {o : Offer} (h : PortionsBalance s) (ho : s.station.state ≠ .offline) (ht : Taken s ref o)
    (home : Nat) : PortionsBalance (entered (newKTicket s home ref o) s) := by
  obtain ⟨hks, hord, hsound, hlines, htaken⟩ := portionsBalance_iff.1 h
  have hks' := hks.entered ho ht home
  obtain ⟨hlen, hqty⟩ := o.inRange_lines ht.inRange
  have hactive := newKTicket_active (s := s) home ref o
  have hlinesNew : (newKTicket s home ref o).lines.length ≤ Config.groupCapacity ∧ ∀ l ∈ (newKTicket s home ref o).lines, l.qty ≤ 20 := by
    refine ⟨by rw [newKTicket, List.length_map]; exact hlen, fun l hl => ?_⟩
    obtain ⟨x, hx, rfl⟩ := List.mem_map.1 hl
    exact hqty x hx
  have htakenNew : ∀ l ∈ (newKTicket s home ref o).lines, l.taken = true → ∃ p ∈ s.portions, p.item = l.item := by
    intro l hl htk
    obtain ⟨x, hx, rfl⟩ := List.mem_map.1 hl
    obtain ⟨p, hp⟩ := Option.isSome_iff_exists.1 htk
    exact ⟨p, List.mem_of_find?_eq_some hp, item_of_findPortion hp⟩
  have hnew : ∀ p ∈ s.portions, takenQty p.item (newKTicket s home ref o).lines ≤ p.remaining := by
    intro p hp
    have hfind : findPortion s p.item = some p := by
      have hex : (findPortion s p.item).isSome = true := List.find?_isSome.2 ⟨p, hp, by simp⟩
      obtain ⟨q, hq⟩ := Option.isSome_iff_exists.1 hex
      have hnodup : (s.portions.map (·.item)).Nodup := hord.imp Nat.ne_of_lt
      rw [hq, eq_of_nodup_map hnodup (List.mem_of_find?_eq_some hq) hp (item_of_findPortion hq)]
    rw [takenQty_new home ref o hfind]
    have := shortItem_none hfind ht.stock (Nat.zero_le _)
    rwa [List.nil_append] at this
  generalize htick : newKTicket s home ref o = t at hks' hactive hlinesNew htakenNew hnew
  rw [entered_eq] at hks' ⊢
  have hperm := enter_all_perm t s.kitchen
  have hitems := moved_items (f := Portion.take) (fun _ _ => rfl) t.lines s.portions
  have hmem : ∀ x ∈ (s.kitchen.enter t).all,
      x = t ∨ x ∈ s.kitchen.all := fun x hx => List.mem_cons.1 (hperm.mem_iff.1 hx)
  have hlines' : ∀ x ∈ (s.kitchen.enter t).all,
      x.lines.length ≤ Config.groupCapacity ∧ ∀ l ∈ x.lines, l.qty ≤ 20 := by
    intro x hx
    rcases hmem x hx with rfl | hx
    · exact hlinesNew
    · exact hlines x hx
  refine portionsBalance_iff.2 ⟨hks', by rw [hitems]; exact hord, fun p' hp' => ?_, hlines', fun x hx l hl htk => ?_⟩
  · obtain ⟨p, hp, rfl⟩ := List.mem_map.1 hp'
    obtain ⟨hb, hr, hl, hm, hh, hhr, ha, hu⟩ := hsound p hp
    have hfits := hnew p hp
    have hheld : takenBy p.item (s.kitchen.enter t).queued = takenBy p.item s.kitchen.queued + takenQty p.item t.lines := by
      rw [Kitchen.enter, takenBy_perm _ (enterQueued_perm t _), takenBy_cons, hactive, Nat.add_comm]
    have hbound : takenBy p.item (s.kitchen.enter t).queued ≤ 48 * 160 := by
      refine Nat.le_trans (takenBy_le p.item fun x hx => hlines' x (Kitchen.mem_all.2 (.inl hx))) (Nat.mul_le_mul_right 160 ?_)
      have hall := hks'.fits
      simp only [Kitchen.all, List.length_append] at hall
      exact Nat.le_trans (by omega) hall
    rw [moved_take]
    refine ⟨?_, ?_, hl, hm, ?_, ?_, ha, hu⟩ <;> dsimp only
    · omega
    · exact Nat.le_trans (Nat.sub_le _ _) hr
    · omega
    · rw [hh, ← hheld]; exact Nat.le_trans hbound (by decide)
  · have hold : ∃ p ∈ s.portions, p.item = l.item := by
      rcases hmem x hx with rfl | hx
      · exact htakenNew l hl htk
      · exact htaken x hx l hl htk
    obtain ⟨p, hp, hi⟩ := hold
    exact ⟨_, List.mem_map_of_mem hp, by rw [moved_item (f := Portion.take) (fun _ _ => rfl), hi]⟩

theorem entered_kept {ref : Nat} {o : Offer} (ho : s.station.state ≠ .offline) (ht : Taken s ref o) (home : Nat) :
    Keeps s (entered (newKTicket s home ref o) s) := by
  have hsound := fun h => KitchenSound.entered (s := s) h ho ht home
  have hbalance := fun h => PortionsBalance.entered (s := s) h ho ht home
  rw [entered_eq] at hsound hbalance ⊢
  refine keepsBlocks_kitchen (fun _ => ?_) hsound hbalance (by rw [List.length_map]; exact id) ?_
  · have hroom := ht.room
    rw [(enter_all_perm _ _).length_eq, List.length_cons]
    exact hroom
  · rw [moved_items (f := Portion.take) fun _ _ => rfl]
    exact id

def Answering.Inner (ans : Answering) : Prop := ∀ r s, KeepsInner s (ans r s)

theorem noAnswer_inner : Answering.Inner noAnswer := fun _ s => .refl s

theorem acceptTicket_eq (rep : HandOver) (ans : Answering) (home ref : Nat) (o : Offer) (s : State) :
    acceptTicket rep ans home ref o s =
      let t := newKTicket s home ref o
      let u := entered t s
      let position := u.kitchen.position ref
      let reply := acceptReply position u.kitchen.depth
      (reply, autoFire rep (holdTest (countAccepted (post (.newTicket ref home o.ticket t.rush position) (ans reply u))))) := rfl

theorem acceptTicket_kept {rep : HandOver} (h : rep.Inner) {ans : Answering} (ha : ans.Inner) {ref : Nat} {o : Offer}
    (ho : s.station.state ≠ .offline) (ht : Taken s ref o) (home : Nat) : Keeps s (acceptTicket rep ans home ref o s).2 := by
  rw [acceptTicket_eq]
  refine (entered_kept ho ht home).trans (KeepsInner.toKeeps ?_)
  exact (ha _ _).trans ((post_inner _ _).trans ((countAccepted_inner _).trans ((holdTest_inner _).trans (autoFire_inner h _))))

theorem takeOffer_kept {rep : HandOver} (h : rep.Inner) {ans : Answering} (ha : ans.Inner) (ho : s.station.state ≠ .offline) (home : Nat)
    (o : Offer) : Keeps s (takeOffer rep ans home o s).2 := by
  have told : ∀ r, Keeps s (answered ans r s).2 := fun r => (ha r s).toKeeps
  unfold takeOffer
  split
  · exact told _
  · split
    · exact told _
    · split
      · exact told _
      · rename_i hrange
        split
        · exact told _
        · rename_i hroom
          split
          · exact told _
          · rename_i hstock
            split
            · exact told _
            · rename_i ref hfree
              exact acceptTicket_kept h ha ho ⟨by simpa using hrange, by omega, hstock, hfree⟩ home

end

end Sys2Proof.Machine
end

section
/-! The end of an event under the invariants: the router's rounds and the stock reports (R79, R82, R90, R120). -/

namespace Sys2Proof.Machine

section
variable {s : State}

theorem offerTo_kept (ho : s.station.state ≠ .offline) (t : Ticket) (k : Nat) : Keeps s (offerTo t k s) := by
  have offered : KeepsInner s (modTicket t.number (fun t => { t with attempts := t.attempts + 1, state := .offered k }) s) :=
    modTicket_inner (by exact fun _ h => h) s
  unfold offerTo
  dsimp only
  generalize modTicket t.number (fun t => { t with attempts := t.attempts + 1, state := .offered k }) s = u at offered
  have hu : u.station.state ≠ .offline := by rw [offered.state]; exact ho
  split
  · have taken := takeOffer_kept (s := u) ownReport_inner noAnswer_inner hu k (buildOffer s t)
    split
    · exact offered.toKeeps.trans (taken.trans (takeAccept_inner ownVoid_inner _ _ _ _).toKeeps)
    · exact offered.toKeeps.trans (taken.trans (failOffer_inner _ _ _).toKeeps)
  · have asked := offered.trans (openExchange_inner Kind.ticket k t.number 0 .offer (eOfferPayload (buildOffer s t)) u)
    split
    · rename_i s' heq
      rw [heq] at asked
      exact asked.toKeeps
    · rename_i s' heq
      rw [heq] at asked
      refine (asked.trans ((modTicket_inner (n := t.number) (f := fun _ => t) (fun _ _ => rfl) s').trans ?_)).toKeeps
      exact pause_inner true _
    · rename_i s' _ _ heq
      rw [heq] at asked
      exact (asked.trans (failOffer_inner _ _ _)).toKeeps

theorem sendVoid_inner (e : VoidEntry) {rest : List VoidEntry} (h : rest.length ≤ s.router.voids.length) :
    KeepsInner s (sendVoid e rest s) := by
  have asked := (voids_inner (s := s) (l := rest) fun hv => Nat.le_trans h hv).trans
    (openExchange_inner Kind.ticketVoid e.kitchen e.ticket 0 (.void e.purpose e.tab e.lines) (e2 e.ticket ++ eList e1 e.lines) _)
  unfold sendVoid
  dsimp only
  split
  · rename_i s' heq
    rw [heq] at asked
    exact asked
  · rename_i r s' _ heq
    rw [heq] at asked
    exact asked.trans (voidEnd_inner _ _ _)

theorem routerLoop_kept (n : Nat) (s : State) : Keeps s (routerLoop n s) := by
  induction n generalizing s with
  | zero => exact .refl s
  | succ n ih =>
    unfold routerLoop
    split
    · rename_i hst
      split
      · split
        · rename_i e rest hv
          exact (sendVoid_inner e (by rw [hv]; simp)).toKeeps.trans (ih _)
        · split
          · exact .refl s
          · split
            · exact (unroute_inner _ _ _).toKeeps.trans (ih _)
            · exact (offerTo_kept (by simp [hst]) _ _).trans (ih _)
      · exact .refl s
    · split
      · rename_i hst
        split
        · exact .refl s
        · exact (offerTo_kept (by simp [hst]) _ _).trans (ih _)
      · exact .refl s

theorem reportStock_inner (item : Nat) (old new : Option StockState) (n : Nat) (s : State) :
    KeepsInner s (reportStock item old new n s) := by
  have noted := (queueStock_inner item (new.getD .available) n s).trans (post_inner (.stockChange item old new n) _)
  exact .ite (noted.trans (post_inner _ _)) noted

theorem stockReports_inner (before : List Portion) (s : State) : KeepsInner s (stockReports before s) := by
  unfold stockReports
  exact .trans (.foldl (fun s _ => reportStock_inner _ _ _ _ s) _ s)
    (.foldl (fun s p => .ite (.refl s) (reportStock_inner _ _ _ _ s)) _ _)

theorem endEvent_kept (before : List Portion) (s : State) : Keeps s (endEvent before s) :=
  (routerLoop_kept _ s).trans (stockReports_inner before _).toKeeps

theorem setAnswer_inner (c : Instr) (r : Reply) (s : State) : KeepsInner s (setAnswer c r s) :=
  keeps_port fun ⟨h1, h2, h3, h4⟩ => ⟨h1, h2, h3, h4⟩

end

end Sys2Proof.Machine
end

section
/-! The peer directory under the invariants: entries that come, go, are lost and return, and what a rejoin reports (R61 to R67, R94). -/

namespace Sys2Proof.Machine

/-! ## The directory alone -/

section
variable {n k : Nat} {d : Directory}

theorem DirSound.nodup (h : DirSound n d) : (d.entries.map (·.station)).Nodup := h.ordered.imp Nat.ne_of_lt

theorem DirSound.unique (h : DirSound n d) {p q : Peer} (hp : p ∈ d.entries) (hq : q ∈ d.entries) (heq : p.station = q.station) : p = q :=
  eq_of_nodup_map h.nodup hp hq heq

theorem DirSound.insert (h : DirSound n d) (hroom : d.entries.length < Config.peerCapacity) (hk : isStation k = true) (hn : k ≠ n)
    (habsent : ∀ p ∈ d.entries, p.station ≠ k) :
    DirSound n { d with entries := insertBy (·.station) (Peer.fresh k) d.entries } := by
  have hmem : ∀ p, p ∈ insertBy (·.station) (Peer.fresh k) d.entries ↔ p = Peer.fresh k ∨ p ∈ d.entries := fun p => mem_insertBy _ _ _ _
  obtain ⟨h1, h2, h3, h4, h5, h6, h7⟩ := h
  refine ⟨by dsimp only; rw [length_insertBy]; exact hroom, pairwise_insertBy _ _ _ h2 habsent, fun p hp => ?_, h4,
    fun m => (h5 m).trans ⟨fun ⟨p, hp, hs, hl⟩ => ⟨p, (hmem p).2 (.inr hp), hs, hl⟩, fun ⟨p, hp, hs, hl⟩ => ?_⟩, fun p hp => ?_, fun p hp => ?_⟩
  · rcases (hmem p).1 hp with rfl | hp
    · exact ⟨hk, hn⟩
    · exact h3 p hp
  · rcases (hmem p).1 hp with rfl | hp
    · exact absurd hl (by simp [Peer.fresh])
    · exact ⟨p, hp, hs, hl⟩
  · rcases (hmem p).1 hp with rfl | hp
    · simp [Peer.fresh]
    · exact h6 p hp
  · rcases (hmem p).1 hp with rfl | hp
    · simp [Peer.fresh]
    · exact h7 p hp

theorem DirSound.evict (h : DirSound n d) {e : Nat} {rest : List Nat} (hl : d.lostOrder = e :: rest) :
    DirSound n { d with entries := d.entries.filter (·.station != e), lostOrder := rest } ∧
      (d.entries.filter (·.station != e)).length < Config.peerCapacity := by
  obtain ⟨h1, h2, h3, h4, h5, h6, h7⟩ := h
  rw [hl] at h4
  obtain ⟨hnot, hrest⟩ := List.nodup_cons.1 h4
  have hsub : ∀ p ∈ d.entries.filter (·.station != e), p ∈ d.entries := fun p hp => (List.mem_filter.1 hp).1
  refine ⟨⟨Nat.le_trans (List.length_filter_le _ _) h1, h2.sublist (List.filter_sublist.map _), fun p hp => h3 p (hsub p hp), hrest,
    fun m => ⟨fun hm => ?_, fun ⟨p, hp, hs, hlost⟩ => ?_⟩, fun p hp => h6 p (hsub p hp), fun p hp => h7 p (hsub p hp)⟩, ?_⟩
  · obtain ⟨p, hp, hs, hlost⟩ := (h5 m).1 (by rw [hl]; exact List.mem_cons_of_mem _ hm)
    exact ⟨p, List.mem_filter.2 ⟨hp, by rw [bne_iff_ne, hs]; exact fun h => hnot (h ▸ hm)⟩, hs, hlost⟩
  · obtain ⟨hp, hne⟩ := List.mem_filter.1 hp
    have hm := (h5 m).2 ⟨p, hp, hs, hlost⟩
    rw [hl] at hm
    rcases List.mem_cons.1 hm with rfl | hm
    · exact absurd hs (bne_iff_ne.1 hne)
    · exact hm
  · obtain ⟨p, hp, hs, -⟩ := (h5 e).1 (by rw [hl]; exact List.mem_cons_self)
    exact Nat.lt_of_lt_of_le (List.length_filter_lt_length_iff_exists.2 ⟨p, hp, by simp [hs]⟩) h1

/-- Entries changed each for itself, station and presence standing. -/
theorem DirSound.mapped (h : DirSound n d) {g : Peer → Peer} (hg : ∀ p ∈ d.entries, (g p).station = p.station ∧
    (g p).presence = p.presence ∧ ((g p).presence = .present ↔ (g p).silence.isSome = true) ∧
    ((g p).load.isSome = true → (g p).kitchen = true)) : DirSound n { d with entries := d.entries.map g } := by
  obtain ⟨h1, h2, h3, h4, h5, h6, h7⟩ := h
  have hstations : (d.entries.map g).map (·.station) = d.entries.map (·.station) := by
    rw [List.map_map]; exact List.map_congr_left fun p hp => (hg p hp).1
  refine ⟨by simpa using h1, by rw [hstations]; exact h2, fun p hp => ?_, h4, fun k => (h5 k).trans ⟨?_, ?_⟩, fun p hp => ?_,
    fun p hp => ?_⟩
  · obtain ⟨x, hx, rfl⟩ := List.mem_map.1 hp
    rw [(hg x hx).1]; exact h3 x hx
  · rintro ⟨p, hp, hs, hl⟩
    obtain ⟨hst, hpr, -⟩ := hg p hp
    exact ⟨g p, List.mem_map_of_mem hp, by rw [hst, hs], by rw [hpr, hl]⟩
  · rintro ⟨p, hp, hs, hl⟩
    obtain ⟨x, hx, rfl⟩ := List.mem_map.1 hp
    obtain ⟨hst, hpr, -⟩ := hg x hx
    exact ⟨x, hx, by rw [← hst, hs], by rw [← hpr, hl]⟩
  · obtain ⟨x, hx, rfl⟩ := List.mem_map.1 hp
    exact (hg x hx).2.2.1
  · obtain ⟨x, hx, rfl⟩ := List.mem_map.1 hp
    exact (hg x hx).2.2.2

/-- A LOST entry is PRESENT again. -/
theorem DirSound.returned (h : DirSound n d) {g : Peer → Peer} (hs : ∀ p, (g p).station = p.station) (hp : ∀ p, (g p).presence = .present)
    (ht : ∀ p, (g p).silence.isSome = true) (hl : ∀ p, (g p).load = p.load) (hk : ∀ p, (g p).kitchen = p.kitchen) :
    DirSound n { d with entries := mapIf (·.station == k) g d.entries, lostOrder := d.lostOrder.filter (· != k) } := by
  obtain ⟨h1, h2, h3, h4, h5, h6, h7⟩ := h
  have hstations : (mapIf (·.station == k) g d.entries).map (·.station) = d.entries.map (·.station) :=
    map_mapIf _ _ (·.station) (fun p _ => hs p) _
  refine ⟨by dsimp only; rw [length_mapIf]; exact h1, by dsimp only; rw [hstations]; exact h2, fun p hp' => ?_,
    h4.filter _, fun m => ?_, fun p hp' => ?_, fun p hp' => ?_⟩
  · rcases mem_mapIf hp' with ⟨h, -⟩ | ⟨q, hq, -, rfl⟩
    · exact h3 p h
    · rw [hs]; exact h3 q hq
  · rw [List.mem_filter, h5]
    constructor
    · rintro ⟨⟨p, hp', hst, hlost⟩, hne⟩
      refine ⟨p, ?_, hst, hlost⟩
      have : (p.station == k) = false := by rw [hst]; simpa using hne
      exact List.mem_map.2 ⟨p, hp', by simp [this]⟩
    · rintro ⟨p, hp', hst, hlost⟩
      rcases mem_mapIf hp' with ⟨h, hne⟩ | ⟨q, hq, -, rfl⟩
      · exact ⟨⟨p, h, hst, hlost⟩, by rw [← hst]; simpa using hne⟩
      · rw [hp] at hlost; exact absurd hlost (by simp)
  · rcases mem_mapIf hp' with ⟨h, -⟩ | ⟨q, hq, -, rfl⟩
    · exact h6 p h
    · rw [hp, ht]; simp
  · rcases mem_mapIf hp' with ⟨h, -⟩ | ⟨q, hq, -, rfl⟩
    · exact h7 p h
    · rw [hl, hk]; exact h7 q hq

/-- A PRESENT entry is LOST, at the end of the LOST order. -/
theorem DirSound.lose (h : DirSound n d) {p : Peer} (hp : p ∈ d.entries) (hpres : p.presence = .present) {g : Peer → Peer}
    (hs : ∀ p, (g p).station = p.station) (hl : ∀ p, (g p).presence = .lost) (ht : ∀ p, (g p).silence = none)
    (hload : ∀ p, (g p).load = p.load) (hk : ∀ p, (g p).kitchen = p.kitchen) (b : Bool) :
    DirSound n ⟨mapIf (·.station == p.station) g d.entries, d.lostOrder ++ [p.station], b⟩ := by
  have hunique := fun {q} hq => h.unique (p := q) (q := p) hq hp
  obtain ⟨h1, h2, h3, h4, h5, h6, h7⟩ := h
  have hstations : (mapIf (·.station == p.station) g d.entries).map (·.station) = d.entries.map (·.station) :=
    map_mapIf _ _ (·.station) (fun p _ => hs p) _
  have hnot : p.station ∉ d.lostOrder := fun hin => by
    obtain ⟨q, hq, hst, hlost⟩ := (h5 _).1 hin
    rw [hunique hq hst, hpres] at hlost
    exact absurd hlost (by simp)
  refine ⟨by dsimp only; rw [length_mapIf]; exact h1, by dsimp only; rw [hstations]; exact h2, fun q hq => ?_,
    ?_, fun m => ?_, fun q hq => ?_, fun q hq => ?_⟩
  · rcases mem_mapIf hq with ⟨h, -⟩ | ⟨x, hx, -, rfl⟩
    · exact h3 q h
    · rw [hs]; exact h3 x hx
  · exact List.nodup_append.2 ⟨h4, nodup_singleton _, fun a ha b hb heq => hnot (by rw [← List.mem_singleton.1 hb, ← heq]; exact ha)⟩
  · rw [List.mem_append, List.mem_singleton, h5]
    constructor
    · rintro (⟨q, hq, hst, hlost⟩ | rfl)
      · by_cases hm : q.station = p.station
        · exact ⟨g q, List.mem_map.2 ⟨q, hq, by rw [if_pos (beq_iff_eq.2 hm)]⟩, by rw [hs, hst], hl q⟩
        · exact ⟨q, List.mem_map.2 ⟨q, hq, if_neg (by simpa using hm)⟩, hst, hlost⟩
      · exact ⟨g p, List.mem_map.2 ⟨p, hp, by simp⟩, hs p, hl p⟩
    · rintro ⟨q, hq, hst, hlost⟩
      rcases mem_mapIf hq with ⟨h, -⟩ | ⟨x, hx, hm, rfl⟩
      · exact .inl ⟨q, h, hst, hlost⟩
      · exact .inr (by rw [← hst, hs]; exact beq_iff_eq.1 hm)
  · rcases mem_mapIf hq with ⟨h, -⟩ | ⟨x, hx, -, rfl⟩
    · exact h6 q h
    · rw [hl, ht]; simp
  · rcases mem_mapIf hq with ⟨h, -⟩ | ⟨x, hx, -, rfl⟩
    · exact h7 q h
    · rw [hload, hk]; exact h7 x hx

theorem LoadsFit.mapIf (h : LoadsFit d) {p : Peer → Bool} {g : Peer → Peer} (hg : ∀ q, (g q).load = q.load) (l : List Nat) (b : Bool) :
    LoadsFit ⟨mapIf p g d.entries, l, b⟩ := by
  intro q hq
  rcases mem_mapIf hq with ⟨hq, -⟩ | ⟨x, hx, -, rfl⟩
  · exact h q hq
  · rw [hg]; exact h x hx

end

/-! ## What a rejoin and a loss report -/

section
variable {s : State}

theorem keeps_claims_filter (p : ClaimEntry → Bool) (s : State) : KeepsInner s { s with claims := s.claims.filter p } :=
  keeps_claims (Nat.le_trans (List.length_filter_le _ _)) fun h => h.sublist (List.filter_sublist.map _)

theorem dropStock_inner (k : Nat) (s : State) : KeepsInner s (dropStock k s) :=
  keeps_stock (Nat.le_trans (List.length_filter_le _ _)) fun h => h.sublist (List.filter_sublist.map _)

theorem claimsRejoined_inner (k : Nat) (s : State) : KeepsInner s (claimsRejoined k s) :=
  (keeps_claims_filter _ s).trans (postAll_inner _ _)

theorem rejoinTicket_inner (k : Nat) (s : State) (t : Ticket) : KeepsInner s (rejoinTicket k s t) := by
  unfold rejoinTicket
  split
  · split
    · exact .refl s
    · split
      · exact (modTicket_inner (by exact fun _ h => h) s).trans ((moveFrom_inner rfl rfl _).trans (pruneTicket_inner _ _))
      · exact (endTicket_inner t rfl s).trans (post_inner _ _)
  · exact .refl s

theorem forgetKitchen_number (k : Nat) (t : Ticket) : (forgetKitchen k t).number = t.number := by
  unfold forgetKitchen
  split <;> rfl

theorem routerRejoined_inner (k : Nat) (s : State) : KeepsInner s (routerRejoined k s) := by
  refine (KeepsInner.foldl (fun s t => rejoinTicket_inner k s t) s.router.tickets s).trans ?_
  refine keeps_router (by dsimp only; rw [List.length_map]; exact id) (fun ⟨h1, h2, h3⟩ => ⟨?_, fun t ht => ?_, h3⟩) id
  · have hsame : (·.number) ∘ forgetKitchen k = (·.number) := funext (forgetKitchen_number k)
    rw [List.map_map, hsame]
    exact h1
  · obtain ⟨x, hx, rfl⟩ := List.mem_map.1 ht
    rw [forgetKitchen_number]; exact h2 x hx

theorem routerLost_inner (k : Nat) (s : State) : KeepsInner s (routerLost k s) := .ite (.refl s) (post_inner _ _)

theorem reportRejoin_inner (k : Nat) (s : State) : KeepsInner s (reportRejoin k s) :=
  (releaseClaimant_inner k).trans ((claimsRejoined_inner k _).trans ((routerRejoined_inner k _).trans
    ((orphanTickets_inner k _).trans (dropStock_inner k _))))

theorem reportLost_inner (k : Nat) (s : State) : KeepsInner s (reportLost k s) :=
  (releaseClaimant_inner k).trans ((routerLost_inner k _).trans (dropStock_inner k _))

/-! ## Entries -/

theorem own_of_keeps {s t : State} (h : KeepsInner s t) : own t = own s := h.number

theorem findPeer_none {k : Nat} (h : findPeer s k = none) : ∀ p ∈ s.dir.entries, p.station ≠ k := fun p hp => by
  simpa using List.find?_eq_none.1 h p hp

theorem loadsFit_insert {k : Nat} {d : Directory} (h : LoadsFit d) :
    LoadsFit { d with entries := insertBy (·.station) (Peer.fresh k) d.entries } := by
  intro p hp l hl
  rcases (mem_insertBy _ _ _ _).1 hp with rfl | hp
  · exact absurd hl (by simp [Peer.fresh])
  · exact h p hp l hl

theorem enterPeer_dir (k : Nat) (s : State) :
    (enterPeer k s).dir = { s.dir with entries := insertBy (·.station) (Peer.fresh k) s.dir.entries } := by
  rw [enterPeer, reportRejoin_dir]

theorem enterPeer_blocks (k : Nat) (s : State) : KeepsBlocks s (enterPeer k s) :=
  (keepsBlocks_dir _).trans (reportRejoin_inner k _).toKeepsBlocks

/-- The directory with a station's entry gone. -/
def withoutPeer (e : Nat) (rest : List Nat) (s : State) : State :=
  { s with dir := { s.dir with entries := s.dir.entries.filter (·.station != e), lostOrder := rest } }

/-- The report of an evicted station's rejoin. -/
def evictReported (e : Nat) (s : State) : State := post (.peerEvicted e) (reportRejoin e s)

theorem evictReported_inner (e : Nat) (s : State) : KeepsInner s (evictReported e s) := (reportRejoin_inner e s).trans (post_inner _ _)

theorem evictReported_dir (e : Nat) (s : State) : (evictReported e s).dir = s.dir := by
  rw [evictReported, post_dir, reportRejoin_dir]

theorem evicted_kept {k e : Nat} {rest : List Nat} (hk : isStation k = true) (hn : k ≠ own s)
    (habsent : ∀ p ∈ s.dir.entries, p.station ≠ k) (hl : s.dir.lostOrder = e :: rest) :
    Keeps s (enterPeer k (evictReported e (withoutPeer e rest s))) := by
  have blocks : KeepsBlocks s (enterPeer k (evictReported e (withoutPeer e rest s))) :=
    (keepsBlocks_dir _).trans ((evictReported_inner e (withoutPeer e rest s)).toKeepsBlocks.trans (enterPeer_blocks k _))
  refine ⟨blocks, fun h => ?_, fun h => ?_⟩
  · rw [enterPeer_dir, evictReported_dir, blocks.number]
    obtain ⟨hsound, hroom⟩ := h.evict hl
    exact hsound.insert hroom hk hn fun p hp => habsent p (List.mem_filter.1 hp).1
  · rw [enterPeer_dir, evictReported_dir]
    exact loadsFit_insert fun p hp => h p (List.mem_filter.1 hp).1

theorem newPeer_kept {k : Nat} (hk : isStation k = true) (hn : k ≠ own s) (habsent : ∀ p ∈ s.dir.entries, p.station ≠ k) :
    Keeps s (newPeer k s) := by
  unfold newPeer
  split
  · rename_i hroom
    exact ((keeps_dir (fun h => h.insert hroom hk hn habsent) loadsFit_insert).trans (reportRejoin_inner k _)).toKeeps
  · split
    · rename_i e rest hl
      exact evicted_kept hk hn habsent hl
    · refine Keeps.ite (.refl s) (KeepsInner.toKeeps ?_)
      refine .trans (t := { s with dir := { s.dir with full := true } }) (keeps_dir (fun h => ?_) id) (post_inner _ _)
      obtain ⟨h1, h2, h3, h4, h5, h6, h7⟩ := h
      exact ⟨h1, h2, h3, h4, h5, h6, h7⟩

theorem refreshPeer_kept {k : Nat} (quiet : Bool) (h : findPeer s k = none → isStation k = true ∧ k ≠ own s) :
    Keeps s (refreshPeer k quiet s) := by
  unfold refreshPeer
  split
  · rename_i hnone
    obtain ⟨hk, hn⟩ := h hnone
    exact newPeer_kept hk hn (findPeer_none hnone)
  · rename_i p hp
    split
    · have back : KeepsInner s (modPeer k (fun p => { p with presence := .present, silence := some p.silenceMs, changed := true })
          { s with dir := { s.dir with lostOrder := s.dir.lostOrder.filter (· != k) } }) :=
        keeps_dir (fun h => h.returned (by exact fun _ => rfl) (by exact fun _ => rfl) (by exact fun _ => rfl) (by exact fun _ => rfl)
          (by exact fun _ => rfl)) fun h => h.mapIf (by exact fun _ => rfl) _ _
      exact (KeepsInner.ite back (back.trans (post_inner _ _))).toKeeps
    · rename_i hpres
      have hpresent : p.presence = .present := by
        cases hq : p.presence with
        | present => rfl
        | lost => exact absurd hq hpres
      refine KeepsInner.toKeeps (keeps_dir (fun h => h.mapped (g := fun q => if q.station == k then
        { q with silence := some q.silenceMs } else q) fun q hq => ?_) fun h => h.mapIf (by exact fun _ => rfl) _ _)
      split
      · rename_i hm
        have heq := h.unique hq (List.mem_of_find?_eq_some hp) (by rw [station_of_findPeer hp]; exact beq_iff_eq.1 hm)
        exact ⟨rfl, rfl, by rw [heq]; simp [hpresent], h.load q hq⟩
      · exact ⟨rfl, rfl, h.silence q hq, h.load q hq⟩

theorem recordBeacon_inner (k : Nat) (b : BeaconFields) {g : Peer → Peer} (hs : ∀ p, (g p).station = (recordBeacon b p).station)
    (hp : ∀ p, (g p).presence = (recordBeacon b p).presence) (ht : ∀ p, (g p).silence = (recordBeacon b p).silence)
    (hk : ∀ p, (g p).kitchen = (recordBeacon b p).kitchen) (hl : ∀ p, (g p).load = (recordBeacon b p).load) (s : State) :
    KeepsInner s (modPeer k g s) := by
  refine mapPeers_inner (g := fun p => if p.station == k then g p else p) (fun p => ?_) (fun p => ?_) (fun p => ?_) (fun p h => ?_)
    (fun p h => ?_) <;> split
  · exact hs p
  · rfl
  · exact hp p
  · rfl
  · rw [ht]; rfl
  · rfl
  · rw [hl, hk]
    simp only [recordBeacon]
    split
    · rename_i hkitchen; exact fun _ => hkitchen
    · exact fun h => absurd h (by simp)
  · exact h
  · rw [hl]
    intro l
    simp only [recordBeacon]
    split
    · intro heq
      rw [← Option.some.inj heq]
      exact ⟨Nat.min_le_right _ _, Nat.min_le_right _ _, Nat.zero_le _⟩
    · exact fun h => absurd h (by simp)
  · exact h

theorem findPeer_dir {s t : State} (h : t.dir = s.dir) (k : Nat) : findPeer t k = findPeer s k := by rw [findPeer, h, findPeer]

theorem takeBeacon_kept (k : Nat) (b : BeaconFields) (s : State) : Keeps s (takeBeacon k b s) := by
  unfold takeBeacon
  split
  · exact .refl s
  · rename_i p hp
    split
    · have recorded := (reportRejoin_inner k s).trans (recordBeacon_inner k b (g := fun p => { recordBeacon b p with changed := true })
        (fun _ => rfl) (fun _ => rfl) (fun _ => rfl) (fun _ => rfl) (fun _ => rfl) _)
      refine recorded.toKeeps.trans (.trans (refreshPeer_kept true fun hnone => ?_) (post_inner _ _).toKeeps)
      rw [findPeer_modPeer k _ (by exact fun _ => rfl), findPeer_dir (reportRejoin_dir s k), hp] at hnone
      exact absurd hnone (by simp)
    · have recorded := recordBeacon_inner k b (g := recordBeacon b)
        (fun _ => rfl) (fun _ => rfl) (fun _ => rfl) (fun _ => rfl) (fun _ => rfl) s
      refine recorded.toKeeps.trans (refreshPeer_kept false fun hnone => ?_)
      rw [findPeer_modPeer k _ (by exact fun _ => rfl), hp] at hnone
      exact absurd hnone (by simp)

theorem losePeer_inner {k : Nat} {p : Peer} (hp : findPeer s k = some p) (hpres : p.presence = .present) : KeepsInner s (losePeer p s) := by
  refine .trans (keeps_dir (fun h => ?_) fun h => ?_) ((post_inner _ _).trans (reportLost_inner _ _))
  · exact h.lose (List.mem_of_find?_eq_some hp) hpres (by exact fun _ => rfl) (by exact fun _ => rfl) (by exact fun _ => rfl)
      (by exact fun _ => rfl) (by exact fun _ => rfl) false
  · exact h.mapIf (by exact fun _ => rfl) _ _

end

end Sys2Proof.Machine
end

section
/-! The split arithmetic (R28 to R32): ranks in a list, the division of a line and of a class tax, and what the struck shares sum to. -/

namespace Sys2Proof.Machine

/-! ## Ranks

Both divisions give their units left over to the entries of least rank, so the number of entries that take one is the number left over. -/

section
variable {α : Type}

/-- How many members of a list are ahead of one. -/
def rankIn (ahead : α → α → Bool) (l : List α) (a : α) : Nat := (l.filter fun x => ahead x a).length

/-- A strict order of the members of a list in which any two distinct ones are ordered. -/
structure Ranked (ahead : α → α → Bool) (l : List α) : Prop where
  irrefl : ∀ a ∈ l, ahead a a = false
  trans : ∀ a ∈ l, ∀ b ∈ l, ∀ c ∈ l, ahead a b = true → ahead b c = true → ahead a c = true
  total : ∀ a ∈ l, ∀ b ∈ l, a ≠ b → ahead a b = true ∨ ahead b a = true

theorem Ranked.rank_lt {ahead : α → α → Bool} {l : List α} (h : Ranked ahead l) {a b : α} (ha : a ∈ l) (hb : b ∈ l)
    (hab : ahead a b = true) : rankIn ahead l a < rankIn ahead l b := by
  have hsub : (l.filter fun x => ahead x a) = (l.filter fun x => ahead x b).filter fun x => ahead x a := by
    rw [List.filter_filter]
    refine List.filter_congr fun x hx => ?_
    by_cases hxa : ahead x a = true
    · rw [hxa, h.trans x hx a ha b hb hxa hab]; rfl
    · rw [Bool.not_eq_true] at hxa; rw [hxa]; rfl
  unfold rankIn
  rw [hsub]
  exact List.length_filter_lt_length_iff_exists.2 ⟨a, List.mem_filter.2 ⟨ha, hab⟩, by simp [h.irrefl a ha]⟩

theorem Ranked.rank_lt_length {ahead : α → α → Bool} {l : List α} (h : Ranked ahead l) {a : α} (ha : a ∈ l) :
    rankIn ahead l a < l.length :=
  List.length_filter_lt_length_iff_exists.2 ⟨a, ha, by simp [h.irrefl a ha]⟩

/-- The ranks of distinct members are the numbers from 0 on. -/
theorem Ranked.ranks_perm {ahead : α → α → Bool} {l : List α} (h : Ranked ahead l) (hn : l.Nodup) :
    (l.map (rankIn ahead l)).Perm (List.range l.length) := by
  have hnodup : (l.map (rankIn ahead l)).Nodup := nodup_map hn fun a ha b hb heq => by
    refine Classical.byContradiction fun hne => ?_
    rcases h.total a ha b hb hne with hab | hba
    · exact Nat.ne_of_lt (h.rank_lt ha hb hab) heq
    · exact Nat.ne_of_gt (h.rank_lt hb ha hba) heq
  have hsub : l.map (rankIn ahead l) ⊆ List.range l.length := fun n hm => by
    obtain ⟨a, ha, rfl⟩ := List.mem_map.1 hm
    exact List.mem_range.2 (h.rank_lt_length ha)
  exact perm_of_subset hnodup List.nodup_range hsub (Nat.le_of_eq (by rw [List.length_range, List.length_map]))

theorem sum_range_lt (n r : Nat) : ((List.range n).map fun i => if i < r then 1 else 0).sum = min r n := by
  induction n with
  | zero => simp
  | succ n ih =>
    rw [List.range_succ, List.map_append, List.sum_append, ih]
    simp only [List.map_cons, List.map_nil, List.sum_cons, List.sum_nil]
    split <;> omega

/-- One unit to each member of rank below `r` makes `r` units, if there are so many members. -/
theorem Ranked.sum_units {ahead : α → α → Bool} {l : List α} (h : Ranked ahead l) (hn : l.Nodup) {r : Nat} (hr : r ≤ l.length) :
    (l.map fun a => if rankIn ahead l a < r then 1 else 0).sum = r := by
  calc (l.map fun a => if rankIn ahead l a < r then 1 else 0).sum
      = ((l.map (rankIn ahead l)).map fun i => if i < r then 1 else 0).sum := by rw [List.map_map]; rfl
    _ = ((List.range l.length).map fun i => if i < r then 1 else 0).sum := sum_perm ((h.ranks_perm hn).map _)
    _ = r := by rw [sum_range_lt]; omega

theorem sum_map_add (l : List α) (f g : α → Nat) : (l.map fun a => f a + g a).sum = (l.map f).sum + (l.map g).sum := by
  induction l with
  | nil => rfl
  | cons a l ih => simp only [List.map_cons, List.sum_cons, ih]; omega

theorem sum_map_const (l : List α) (n : Nat) : (l.map fun _ => n).sum = l.length * n := by
  induction l with
  | nil => simp
  | cons a l ih => rw [List.map_cons, List.sum_cons, ih, List.length_cons, Nat.succ_mul, Nat.add_comm]

theorem sum_map_zero {l : List α} {f : α → Nat} (h : ∀ a ∈ l, f a = 0) : (l.map f).sum = 0 := by
  rw [List.map_congr_left (g := fun _ => 0) h, sum_map_const, Nat.mul_zero]

/-- A sum over a list, of a figure that is 0 outside some of its members, is the sum over those. -/
theorem sum_map_support [DecidableEq α] {l m : List α} (hl : l.Nodup) (hm : m.Nodup) (hsub : l ⊆ m) {f : α → Nat}
    (h : ∀ a, a ∉ l → f a = 0) : (m.map f).sum = (l.map f).sum := by
  have hsplit : ∀ x : List α, (x.map f).sum = ((x.filter (· ∈ l)).map f).sum := by
    intro x
    induction x with
    | nil => rfl
    | cons a x ih =>
      by_cases ha : a ∈ l
      · rw [List.filter_cons_of_pos (by simpa using ha), List.map_cons, List.map_cons, List.sum_cons, List.sum_cons, ih]
      · rw [List.filter_cons_of_neg (by simpa using ha), List.map_cons, List.sum_cons, h a ha, ih, Nat.zero_add]
  have hperm : (m.filter (· ∈ l)).Perm l := by
    refine (List.perm_ext_iff_of_nodup (hm.filter _) hl).2 fun a => ?_
    rw [List.mem_filter, decide_eq_true_eq]
    exact ⟨fun ⟨_, ha⟩ => ha, fun ha => ⟨hsub ha, ha⟩⟩
  rw [hsplit m, sum_perm (hperm.map f)]

theorem sum_map_comm {β : Type} (l : List α) (m : List β) (f : α → β → Nat) :
    (l.map fun a => (m.map (f a)).sum).sum = (m.map fun b => (l.map fun a => f a b).sum).sum := by
  induction l with
  | nil => exact (sum_map_zero fun _ _ => rfl).symm
  | cons a l ih => simp only [List.map_cons, List.sum_cons, ih, sum_map_add]

end

/-! ## The division of a line (R28) -/

theorem ranked_lt (l : List Nat) : Ranked (fun a b => decide (a < b)) l where
  irrefl _ _ := by simp
  trans _ _ _ _ _ _ hab hbc := by simp only [decide_eq_true_eq] at *; omega
  total a _ b _ hne := by simp only [decide_eq_true_eq]; omega

theorem allocation_mem {amount n : Nat} {sharers : List Nat} (h : n ∈ sharers) : allocation amount sharers n =
    amount / sharers.length + if rankIn (fun a b => decide (a < b)) sharers n < amount % sharers.length then 1 else 0 := by
  unfold allocation
  rw [if_pos (List.contains_iff_mem.2 h)]
  rfl

theorem allocation_not_mem {amount n : Nat} {sharers : List Nat} (h : n ∉ sharers) : allocation amount sharers n = 0 := by
  unfold allocation
  rw [if_neg (mt List.contains_iff_mem.1 h)]

theorem mem_shareNumbers {n k : Nat} : n ∈ shareNumbers k ↔ 1 ≤ n ∧ n ≤ k := by
  unfold shareNumbers
  simp only [List.mem_map, List.mem_range]
  exact ⟨fun ⟨i, hi, h⟩ => by omega, fun ⟨h1, h2⟩ => ⟨n - 1, by omega, by omega⟩⟩

theorem sum_allocation {amount count : Nat} {sharers : List Nat} (hne : sharers ≠ []) (hn : sharers.Nodup)
    (hs : ∀ n ∈ sharers, 1 ≤ n ∧ n ≤ count) : ((shareNumbers count).map (allocation amount sharers)).sum = amount := by
  have hpos : 0 < sharers.length := List.length_pos_iff.2 hne
  have hmod : amount % sharers.length ≤ sharers.length := Nat.le_of_lt (Nat.mod_lt _ hpos)
  calc ((shareNumbers count).map (allocation amount sharers)).sum
      = (sharers.map (allocation amount sharers)).sum :=
        sum_map_support hn (shareNumbers_nodup count) (fun n hm => mem_shareNumbers.2 (hs n hm)) fun _ h => allocation_not_mem h
    _ = (sharers.map fun n => amount / sharers.length +
          if rankIn (fun a b => decide (a < b)) sharers n < amount % sharers.length then 1 else 0).sum :=
        congrArg List.sum (List.map_congr_left fun _ h => allocation_mem h)
    _ = sharers.length * (amount / sharers.length) + amount % sharers.length := by
        rw [sum_map_add, sum_map_const, (ranked_lt sharers).sum_units hn hmod]
    _ = amount := Nat.div_add_mod _ _

/-! ## The division of a class tax (R30) -/

/-- Entry `i` takes a unit left over ahead of entry `j`: a greater remainder, or an equal one and a lower share number. -/
def TakesAhead (rho : List Nat) (i j : Nat) : Bool :=
  decide (rho.getD i 0 > rho.getD j 0) || (rho.getD i 0 == rho.getD j 0 && decide (i < j))

theorem takesAhead_iff {rho : List Nat} {i j : Nat} :
    TakesAhead rho i j = true ↔ rho.getD j 0 < rho.getD i 0 ∨ (rho.getD i 0 = rho.getD j 0 ∧ i < j) := by
  simp [TakesAhead]

theorem ranked_takesAhead (rho l : List Nat) : Ranked (TakesAhead rho) l where
  irrefl _ _ := by simp [TakesAhead]
  trans a _ b _ c _ hab hbc := by rw [takesAhead_iff] at *; omega
  total a _ b _ hne := by rw [takesAhead_iff, takesAhead_iff]; omega

theorem remainderRank_eq (rho : List Nat) (i : Nat) : remainderRank rho i = rankIn (TakesAhead rho) (List.range rho.length) i := rfl

/-- What the whole parts of a proportional division leave over. -/
def leftOver (x t : Nat) (bases : List Nat) : Nat := x - (bases.map fun b => x * b / t).sum

def remainders (x t : Nat) (bases : List Nat) : List Nat := bases.map fun b => x * b % t

theorem remainders_getD (x t : Nat) (bases : List Nat) (i : Nat) : (remainders x t bases).getD i 0 = x * bases.getD i 0 % t := by
  unfold remainders
  by_cases h : i < bases.length
  · simp [List.getD_eq_getElem?_getD, h]
  · simp [List.getD_eq_getElem?_getD, h]

theorem parts_getD (x t : Nat) (bases : List Nat) (i : Nat) : (bases.map fun b => x * b / t).getD i 0 = x * bases.getD i 0 / t := by
  by_cases h : i < bases.length
  · simp [List.getD_eq_getElem?_getD, h]
  · simp [List.getD_eq_getElem?_getD, h]

theorem taxAllocation_getD {x t i : Nat} {bases : List Nat} (ht : t ≠ 0) (hi : i < bases.length) :
    (taxAllocation x t bases).getD i 0 =
      x * bases.getD i 0 / t + if remainderRank (remainders x t bases) i < leftOver x t bases then 1 else 0 := by
  unfold taxAllocation
  rw [if_neg ht]
  dsimp only
  rw [List.getD_eq_getElem?_getD, List.getElem?_map, List.getElem?_range hi]
  simp only [Option.map_some, Option.getD_some, parts_getD]
  rfl

theorem sum_div_mod (x t : Nat) (bases : List Nat) :
    t * (bases.map fun b => x * b / t).sum + (remainders x t bases).sum = x * bases.sum := by
  unfold remainders
  induction bases with
  | nil => simp
  | cons b bases ih =>
    simp only [List.map_cons, List.sum_cons, Nat.mul_add] at ih ⊢
    have := Nat.div_add_mod (x * b) t
    omega

theorem leftOver_mul {x : Nat} {bases : List Nat} (ht : 0 < bases.sum) :
    (bases.map fun b => x * b / bases.sum).sum ≤ x ∧
      bases.sum * leftOver x bases.sum bases = (remainders x bases.sum bases).sum := by
  have hsum := sum_div_mod x bases.sum bases
  have hle : (bases.map fun b => x * b / bases.sum).sum ≤ x := by
    refine Nat.le_of_mul_le_mul_left ?_ ht
    rw [Nat.mul_comm bases.sum x]
    omega
  refine ⟨hle, ?_⟩
  rw [leftOver, Nat.mul_sub, Nat.mul_comm bases.sum x]
  omega

/-- Fewer units are left over than there are entries with a remainder. -/
theorem leftOver_le {x : Nat} {bases : List Nat} (ht : 0 < bases.sum) :
    leftOver x bases.sum bases ≤ ((remainders x bases.sum bases).filter (0 < ·)).length := by
  obtain ⟨-, hmul⟩ := leftOver_mul (x := x) ht
  have hbound : ∀ l : List Nat, (∀ r ∈ l, r < bases.sum) → l.sum ≤ bases.sum * (l.filter (0 < ·)).length := by
    intro l hl
    induction l with
    | nil => simp
    | cons r l ih =>
      have htail := ih fun y hy => hl y (by simp [hy])
      have hr := hl r (by simp)
      by_cases hpos : 0 < r
      · rw [List.filter_cons_of_pos (by simpa using hpos), List.length_cons, List.sum_cons, Nat.mul_succ]; omega
      · rw [List.filter_cons_of_neg (by simpa using hpos), List.sum_cons]; omega
  refine Nat.le_of_mul_le_mul_left ?_ ht
  rw [hmul]
  refine hbound _ fun r hr => ?_
  obtain ⟨b, -, rfl⟩ := List.mem_map.1 hr
  exact Nat.mod_lt _ ht

theorem length_taxAllocation (x t : Nat) (bases : List Nat) : (taxAllocation x t bases).length = bases.length := by
  unfold taxAllocation
  split <;> simp

theorem sum_taxAllocation {x : Nat} {bases : List Nat} (ht : 0 < bases.sum) : (taxAllocation x bases.sum bases).sum = x := by
  have hlen : (remainders x bases.sum bases).length = bases.length := by simp [remainders]
  have hunits : leftOver x bases.sum bases ≤ (List.range bases.length).length := by
    rw [List.length_range, ← hlen]
    exact Nat.le_trans (leftOver_le ht) (List.length_filter_le _ _)
  obtain ⟨hle, -⟩ := leftOver_mul (x := x) ht
  have hparts : ((List.range bases.length).map fun i => (bases.map fun b => x * b / bases.sum).getD i 0).sum =
      (bases.map fun b => x * b / bases.sum).sum := by
    congr 1
    refine List.ext_getElem (by simp) fun i h1 h2 => ?_
    simp only [List.length_map, List.length_range] at h1
    simp [List.getD_eq_getElem?_getD, h1]
  have heq : taxAllocation x bases.sum bases = (List.range bases.length).map fun i =>
      (bases.map fun b => x * b / bases.sum).getD i 0 +
        if rankIn (TakesAhead (remainders x bases.sum bases)) (List.range bases.length) i < leftOver x bases.sum bases then 1 else 0 := by
    rw [taxAllocation, if_neg (Nat.ne_of_gt ht), ← hlen]
    rfl
  rw [heq, sum_map_add, hparts, (ranked_takesAhead _ _).sum_units List.nodup_range hunits, leftOver]
  omega

/-- An entry that takes a unit has a remainder: those with one come first, and there are enough of them. -/
theorem remainder_pos_of_unit {x i : Nat} {bases : List Nat} (ht : 0 < bases.sum)
    (h : remainderRank (remainders x bases.sum bases) i < leftOver x bases.sum bases) : 0 < (remainders x bases.sum bases).getD i 0 := by
  have hle := leftOver_le (x := x) ht
  generalize hrho : remainders x bases.sum bases = rho at h hle ⊢
  refine Classical.byContradiction fun hzero => ?_
  have hi0 : rho.getD i 0 = 0 := by omega
  have hcount : (rho.filter (0 < ·)).length ≤ remainderRank rho i := by
    have hlist : rho = (List.range rho.length).map fun j => rho.getD j 0 := by
      refine List.ext_getElem (by simp) fun j h1 h2 => ?_
      simp [List.getD_eq_getElem?_getD, h1]
    calc (rho.filter (0 < ·)).length
        = ((List.range rho.length).filter fun j => decide (0 < rho.getD j 0)).length := by
          conv => lhs; rw [hlist]
          rw [List.filter_map, List.length_map]
          rfl
      _ ≤ ((List.range rho.length).filter fun j => TakesAhead rho j i).length := by
          refine length_filter_mono fun j _ hj => ?_
          rw [takesAhead_iff, hi0]
          exact .inl (by simpa using hj)
      _ = remainderRank rho i := rfl
  omega

/-- Settles O29: each division gives every entry its whole part, and the units left over by rank. -/
theorem divisionsLoseNothing : Obligations.DivisionsLoseNothing := by
  refine ⟨fun amount count sharers hne hn hs => ⟨sum_allocation hne hn hs, fun n h => allocation_not_mem h, fun n h => ?_,
    fun m hm n hnm hmn => ?_⟩, fun x bases ht => ⟨sum_taxAllocation ht, length_taxAllocation _ _ _, fun i hi => ?_⟩,
    fun x i j bases ht hi hj => ?_, fun x bases => if_pos rfl⟩
  · rw [allocation_mem h]
    split
    · exact .inr rfl
    · exact .inl rfl
  · have hrank := (ranked_lt sharers).rank_lt hm hnm (by simpa using hmn)
    rw [allocation_mem hm, allocation_mem hnm]
    split <;> split <;> omega
  · rw [taxAllocation_getD (Nat.ne_of_gt ht) hi]
    split
    · rename_i hunit
      have hpos := remainder_pos_of_unit ht hunit
      rw [remainders_getD] at hpos
      exact .inr ⟨rfl, hpos⟩
    · exact .inl rfl
  · intro part remainder tax htaxi htaxj
    have hlen : (remainders x bases.sum bases).length = bases.length := by simp [remainders]
    have hi' : i ∈ List.range (remainders x bases.sum bases).length := by rw [hlen]; exact List.mem_range.2 hi
    have hj' : j ∈ List.range (remainders x bases.sum bases).length := by rw [hlen]; exact List.mem_range.2 hj
    have hunit : remainderRank (remainders x bases.sum bases) i < leftOver x bases.sum bases := by
      have := taxAllocation_getD (x := x) (Nat.ne_of_gt ht) hi
      refine Classical.byContradiction fun hnot => ?_
      rw [if_neg hnot] at this
      simp only [tax, part] at htaxi
      omega
    have hnone : ¬ remainderRank (remainders x bases.sum bases) j < leftOver x bases.sum bases := by
      have := taxAllocation_getD (x := x) (Nat.ne_of_gt ht) hj
      intro hyes
      rw [if_pos hyes] at this
      simp only [tax, part] at htaxj
      omega
    rw [remainderRank_eq] at hunit hnone
    have hne : i ≠ j := fun h => hnone (h ▸ hunit)
    rcases (ranked_takesAhead (remainders x bases.sum bases) _).total i hi' j hj' hne with hij | hji
    · rw [takesAhead_iff, remainders_getD, remainders_getD] at hij
      exact hij.imp id fun ⟨h1, h2⟩ => ⟨h1.symm, h2⟩
    · have := (ranked_takesAhead (remainders x bases.sum bases) _).rank_lt hj' hi' hji
      omega

/-! ## The struck shares (R29 to R32) -/

theorem sum_shareBases {j : EngineJob} (h : j.valid) (c : Nat) :
    (shareBases j.count j.input c).sum = ((j.input.filter (·.tax == c)).map (·.amount)).sum := by
  obtain ⟨-, -, hl⟩ := h
  unfold shareBases
  rw [sum_map_comm]
  refine congrArg List.sum (List.map_congr_left fun l hm => ?_)
  obtain ⟨hne, hn, hs⟩ := hl l (List.mem_filter.1 hm).1
  exact sum_allocation hne hn hs

theorem length_shareBases (count : Nat) (input : List EngineLine) (c : Nat) : (shareBases count input c).length = count := by
  simp [shareBases, shareNumbers]

theorem length_shareTaxes (rates : ClassVec) (count : Nat) (input : List EngineLine) (c : Nat) :
    (shareTaxes rates count input c).length = count := by
  rw [shareTaxes, length_taxAllocation, length_shareBases]

theorem sum_shareTaxes (rates : ClassVec) (count : Nat) (input : List EngineLine) (c : Nat) :
    (shareTaxes rates count input c).sum = classTax (rates.get c) (shareBases count input c).sum := by
  unfold shareTaxes
  dsimp only
  by_cases ht : (shareBases count input c).sum = 0
  · rw [ht, taxAllocation, if_pos rfl, sum_map_zero fun _ _ => rfl]
    simp [classTax]
  · exact sum_taxAllocation (Nat.pos_of_ne_zero ht)

theorem sum_range_getD {l : List Nat} {n : Nat} (h : l.length = n) : ((List.range n).map fun i => l.getD i 0).sum = l.sum := by
  congr 1
  refine List.ext_getElem (by simp [h]) fun i h1 h2 => ?_
  simp [List.getD_eq_getElem?_getD, h2]

/-- The amount of share `i + 1` (R31). -/
def shareAmount (rates : ClassVec) (count : Nat) (input : List EngineLine) (i : Nat) : Nat :=
  (ClassVec.ofFn fun c => (shareBases count input c).getD i 0).sum + (ClassVec.ofFn fun c => (shareTaxes rates count input c).getD i 0).sum

/-- Share `i + 1` as it is struck (R31, R32). -/
def struckShare (home : Nat) (rates : ClassVec) (count : Nat) (input : List EngineLine) (i : Nat) : Share :=
  let bases := ClassVec.ofFn fun c => (shareBases count input c).getD i 0
  let taxes := ClassVec.ofFn fun c => (shareTaxes rates count input c).getD i 0
  if shareAmount rates count input i = 0 then ⟨i + 1, 0, bases, taxes, .settled, 0, some ⟨.none, 0, home⟩, none⟩
  else ⟨i + 1, shareAmount rates count input i, bases, taxes, .available, 0, none, none⟩

theorem struckShares_eq (home : Nat) (rates : ClassVec) (count : Nat) (input : List EngineLine) :
    struckShares home rates count input = (List.range count).map (struckShare home rates count input) := rfl

section
variable {home : Nat} {rates : ClassVec} {count : Nat} {input : List EngineLine}

theorem struckShare_number (i : Nat) : (struckShare home rates count input i).number = i + 1 := by
  unfold struckShare; dsimp only; split <;> rfl

theorem struckShare_amount (i : Nat) : (struckShare home rates count input i).amount = shareAmount rates count input i := by
  unfold struckShare; dsimp only
  split
  · rename_i h; exact h.symm
  · rfl

theorem struckShare_bases (i : Nat) : (struckShare home rates count input i).bases =
    ClassVec.ofFn fun c => (shareBases count input c).getD i 0 := by
  unfold struckShare; dsimp only; split <;> rfl

theorem struckShare_taxes (i : Nat) : (struckShare home rates count input i).taxes =
    ClassVec.ofFn fun c => (shareTaxes rates count input c).getD i 0 := by
  unfold struckShare; dsimp only; split <;> rfl

theorem struckShare_sound (i : Nat) : (struckShare home rates count input i).sound := by
  unfold struckShare; dsimp only
  split
  · exact ⟨rfl, rfl, rfl⟩
  · exact ⟨rfl, rfl, rfl⟩

theorem struckShare_zero (i : Nat) : let sh := struckShare home rates count input i
    (sh.amount = 0 ↔ sh.state = .settled) ∧ (sh.amount = 0 → sh.settlement = some ⟨.none, 0, home⟩) := by
  unfold struckShare; dsimp only
  split
  · exact ⟨by simp, fun _ => rfl⟩
  · rename_i h; exact ⟨by simp [h], fun h' => absurd h' h⟩

theorem struckShares_numbers : (struckShares home rates count input).map (·.number) = shareNumbers count := by
  rw [struckShares_eq, List.map_map]
  exact List.map_congr_left fun i _ => struckShare_number i

theorem struckSplit_sum {j : EngineJob} :
    ((struckSplit home rates j).shares.map (·.amount)).sum = (struckSplit home rates j).total := by
  have hamounts : (struckSplit home rates j).shares.map (·.amount) = (List.range j.count).map (shareAmount rates j.count j.input) := by
    show (struckShares home rates j.count j.input).map (·.amount) = _
    rw [struckShares_eq, List.map_map]
    exact List.map_congr_left fun i _ => struckShare_amount i
  have hbase := fun c => sum_range_getD (length_shareBases j.count j.input c)
  have htax := fun c => sum_range_getD (length_shareTaxes rates j.count j.input c)
  rw [hamounts]
  unfold shareAmount ClassVec.ofFn ClassVec.sum
  simp only [sum_map_add, hbase, htax, sum_shareTaxes]
  simp only [struckSplit, ClassVec.ofFn, ClassVec.sum]
  omega

end

theorem getD_range_map {n i : Nat} {f : Nat → Nat} (h : i < n) : ((List.range n).map f).getD i 0 = f i := by
  simp [List.getD_eq_getElem?_getD, h]

theorem shareBases_eq (count : Nat) (input : List EngineLine) (c : Nat) : shareBases count input c =
    (List.range count).map fun i => ((input.filter (·.tax == c)).map fun l => allocation l.amount l.sharers (i + 1)).sum := by
  rw [shareBases, shareNumbers, List.map_map]
  rfl

/-- Settles O30: the struck shares are those of the ranges, and each figure is its class's part. -/
theorem sharesSumToTheTotal : Obligations.SharesSumToTheTotal := by
  intro home rates j hj
  refine ⟨struckSplit_sum, ?_, struckShares_numbers, rfl, ?_, fun sh hsh => ?_⟩
  · simp only [struckSplit, sum_shareBases hj, classTax]
  · simp only [struckSplit, shareNumbers, List.map_map, Function.comp_def]
  · have hsh' : sh ∈ (List.range j.count).map (struckShare home rates j.count j.input) := hsh
    obtain ⟨i, hi, rfl⟩ := List.mem_map.1 hsh'
    rw [List.mem_range] at hi
    obtain ⟨hzero, hsettled⟩ := struckShare_zero (home := home) (rates := rates) (count := j.count) (input := j.input) i
    have hbase : ∀ c, (shareBases j.count j.input c).getD i 0 =
        ((j.input.filter (·.tax == c)).map fun l => allocation l.amount l.sharers (i + 1)).sum := fun c => by
      rw [shareBases_eq, getD_range_map hi]
    have htax : ∀ c, (shareTaxes rates j.count j.input c).getD i 0 =
        (taxAllocation ((((shareBases j.count j.input c).sum) * rates.get c + 5000) / 10000) (shareBases j.count j.input c).sum
          (shareBases j.count j.input c)).getD i 0 := fun c => rfl
    dsimp only
    refine ⟨?_, ?_, ?_, struckShare_sound i, hzero, hsettled⟩
    · rw [struckShare_bases, struckShare_number]
      simp only [ClassVec.ofFn, hbase]
    · rw [struckShare_taxes, struckShare_number]
      simp only [ClassVec.ofFn, htax, shareBases_eq, Nat.add_sub_cancel]
    · rw [struckShare_amount, struckShare_number, shareAmount]
      simp only [ClassVec.ofFn, ClassVec.sum, htax, shareBases_eq, getD_range_map hi, Nat.add_sub_cancel]

end Sys2Proof.Machine
end

section
/-! The tab store's commands under the invariants: Add, Send, Line void, Tab void, Release, Split with its completion, Claim, Settle and
Release share (R8 to R19, R23 to R44). -/

namespace Sys2Proof.Machine

section
variable {s : State} {tab : Nat}

/-! ## Add and Send (R8 to R13) -/

theorem appendLines_line {origin n : Nat} {lines : List LineReq} {t : Tab} {l : Line} (h : t.line n = some l) :
    (appendLines origin lines t).line n = some l := by
  unfold Tab.line at h ⊢
  rw [appendLines_eq, List.find?_append, h, Option.some_or]

theorem appendLines_numbered {origin : Nat} {lines : List LineReq} {t : Tab}
    (h : t.lines.map (·.number) = (List.range t.lines.length).map (· + 1)) :
    (appendLines origin lines t).lines.map (·.number) = (List.range (appendLines origin lines t).lines.length).map (· + 1) := by
  rw [appendLines_eq]
  dsimp only
  rw [List.map_append, h, List.length_append, List.length_mapIdx, List.range_add, List.map_append, List.map_map]
  congr 1
  refine List.ext_getElem (by simp) fun i h1 h2 => ?_
  simp only [List.getElem_mapIdx, List.getElem_map, List.getElem_range, lineRecord, Function.comp_def]

theorem appended_inner (origin : Nat) (lines : List LineReq)
    (h : ∀ t, findTab s tab = some t → t.lines.length + lines.length ≤ Config.lineCapacity) :
    KeepsInner s (modTab tab (fun t => (appendLines origin lines t).recompute s.cfg.rates) s) := by
  have hfields : ∀ t, (appendLines origin lines t).number = t.number ∧ (appendLines origin lines t).state = t.state ∧
      (appendLines origin lines t).outcome = t.outcome ∧ (appendLines origin lines t).split = t.split := fun t => by
    rw [appendLines_eq]; exact ⟨rfl, rfl, rfl, rfl⟩
  refine inner_modTab_lines (fun t => (hfields t).1) (fun t => (hfields t).2.1) (fun t => (hfields t).2.2.1) (fun t => (hfields t).2.2.2)
    (fun t ht => ?_) (fun t ht hc => ?_)
  · intro n st hs _
    obtain ⟨l, hl, rfl⟩ := Option.map_eq_some_iff.1 hs
    exact Option.map_eq_some_iff.2 ⟨l, appendLines_line hl, rfl⟩
  · refine tabCurrent_recompute (appendLines_numbered hc.numbered) ?_
    rw [appendLines_eq]
    simpa using h t ht

theorem groupLine_cases (joined : List (Nat × Nat)) (l : Line) :
    groupLine joined l = l ∨ (l.state = .new ∧ ∃ n, groupLine joined l = { l with ticket := some n, state := .pending }) := by
  unfold groupLine
  split
  · split
    · rename_i n _ hst
      exact .inr ⟨hst, n, rfl⟩
    · exact .inl rfl
  · exact .inl rfl

theorem applyWalk_inner (w : SendWalk)
    (hroom : s.router.tickets.length ≤ Config.ticketCapacity → s.router.tickets.length + w.made.length ≤ Config.ticketCapacity)
    (hkeys : TicketKeys s.router → (usedNumbers s.router.tickets w).Nodup ∧ NumbersInRange w) :
    KeepsInner s (applyWalk tab w s) := by
  refine .trans (keeps_router (fun h => ?_) (fun h => ?_) id) ?_ (t := { s with
    router := { s.router with tickets := s.router.tickets ++ w.made.reverse, counter := w.counter } })
  · simpa using hroom h
  · obtain ⟨hnodup, hcounter, hmade⟩ := hkeys h
    refine ⟨?_, fun k hk => ?_, hcounter⟩
    · refine (List.Perm.nodup_iff ?_).1 hnodup
      exact ((List.Perm.refl _).append (List.reverse_perm w.made).symm).map _
    · rcases List.mem_append.1 hk with hk | hk
      · exact h.range k hk
      · exact hmade k (List.mem_reverse.1 hk)
  · have hnumber : ∀ l, (groupLine w.joined l).number = l.number := fun l => by
      rcases groupLine_cases w.joined l with h | ⟨-, n, h⟩ <;> rw [h]
    refine inner_modTab_lines ?_ ?_ ?_ ?_ (fun t _ => ?_) (fun t _ hc => ?_)
    · exact fun _ => rfl
    · exact fun _ => rfl
    · exact fun _ => rfl
    · exact fun _ => rfl
    · refine .mapLines rfl hnumber fun n l _ hf => ?_
      rcases groupLine_cases w.joined l with h | ⟨hst, n, h⟩
      · rw [h]
      · rw [hst] at hf; exact absurd hf (by decide)
    · refine hc.mapLines rfl rfl rfl hnumber fun l _ => ?_
      rcases groupLine_cases w.joined l with h | ⟨hst, n, h⟩
      · rw [h]; exact ⟨rfl, rfl, rfl⟩
      · rw [h, hst]; exact ⟨rfl, rfl, rfl⟩

theorem sent_inner (t : Tab) : KeepsInner s (applyWalk tab (sendWalk s t) s) :=
  applyWalk_inner _ (walkSound_sendWalk s t).room fun h => ⟨nodup_usedNumbers h.tickets, numbersInRange_sendWalk h.counter t⟩

theorem homeAdd_inner (origin tab : Nat) (lines : List LineReq) (send : Nat) (s : State) :
    KeepsInner s (homeAdd origin tab lines send s).2 := by
  unfold homeAdd
  split
  · exact .refl s
  · rename_i hnone
    have hroom : ∀ t, findTab s tab = some t → t.lines.length + lines.length ≤ Config.lineCapacity := by
      intro t ht
      unfold addRefusal at hnone
      rw [ht] at hnone
      dsimp only at hnone
      split at hnone
      · simp at hnone
      · split at hnone
        · simp at hnone
        · split at hnone
          · simp at hnone
          · omega
    have appended := appended_inner origin lines hroom
    dsimp only
    split
    · split
      · exact appended.trans (sent_inner _)
      · exact appended
    · exact appended

/-! ## Line void, Tab void and Release (R14 to R19) -/

theorem homeLineVoid_inner (tab line : Nat) {ans : Answering} (ha : ans.Inner) (s : State) :
    KeepsInner s (homeLineVoid tab line ans s).2 := by
  unfold homeLineVoid
  split
  · exact ha _ _
  · exact (ha _ _).trans (voidLine_inner _ _ _)

theorem voidAndCount_inner (tab : Nat) (s : State) (line : Nat) : KeepsInner s (voidAndCount tab s line) :=
  (voidLine_inner _ _ _).trans (countLineVoided_inner _)

/-- A tab that no Tab void is refused for is OPEN or SPLIT. -/
theorem state_of_tabVoidRefusal {t : Tab} (h : tabVoidRefusal t = none) : t.state = .open ∨ t.state = .split := by
  unfold tabVoidRefusal at h
  cases hst : t.state
  case splitting => rw [hst] at h; simp at h
  case split => exact .inr rfl
  case closed => rw [hst] at h; simp at h
  · exact .inl rfl

theorem tabVoided_inner {t : Tab} (ht : findTab s tab = some t) (h : tabVoidRefusal t = none) (lines : List Nat) :
    KeepsInner s (closeTab tab .voided (lines.foldl (voidAndCount tab) (modTab tab Tab.withdrawSplit s))) := by
  have withdrawn : KeepsInner s (modTab tab Tab.withdrawSplit s) := withdrawSplit_inner fun x hx => by
    rw [ht] at hx
    rw [← Option.some.inj hx]
    exact state_of_tabVoidRefusal h
  have voided := KeepsInner.foldl (fun s n => voidAndCount_inner tab s n) lines (modTab tab Tab.withdrawSplit s)
  refine withdrawn.trans (voided.trans (closeTab_inner _ fun _ x hx => ?_))
  have hquiet : NotSplitting tab (modTab tab Tab.withdrawSplit s).tabs := by
    intro y hy hn
    rw [modTab_tabs] at hy
    rcases mem_mapIf hy with ⟨-, hne⟩ | ⟨a, -, -, rfl⟩
    · simp [hn] at hne
    · simp [Tab.withdrawSplit]
  exact voided.notSplitting tab hquiet x (List.mem_of_find?_eq_some hx) (number_of_findTab hx)

theorem released_kept {t : Tab} (ht : findTab s tab = some t) (hst : t.state = .closed) :
    Keeps s { s with tabs := s.tabs.filter (·.number != tab) } := by
  have hmem : ∀ x ∈ s.tabs.filter (·.number != tab), x ∈ s.tabs := fun x hx => (List.mem_filter.1 hx).1
  have hfind : ∀ n, findTab { s with tabs := s.tabs.filter (·.number != tab) } n = none ∨
      findTab { s with tabs := s.tabs.filter (·.number != tab) } n = findTab s n := by
    intro n
    by_cases hn : n = tab
    · refine .inl (List.find?_eq_none.2 fun x hx => ?_)
      have := (List.mem_filter.1 hx).2
      rw [hn]
      simpa using this
    · right
      unfold findTab
      rw [List.find?_filter]
      refine congrArg (List.find? · s.tabs) (funext fun x => ?_)
      by_cases hx : x.number = n
      · simp [hx, hn]
      · simp [hx]
  refine keeps_tabs (e := s.engine) (List.length_filter_le _ _) (fun h => ⟨h.tabs.sublist (List.filter_sublist.map _), fun x hx =>
    h.range x (hmem x hx)⟩) (fun n h => ?_) (fun n line st hs _ => ?_) (fun _ h => ?_) (fun h => ?_)
  · rcases hfind n with hn | hn
    · exact hn
    · exact hn.trans h
  · rcases hfind n with hn | hn
    · exact .inl hn
    · exact .inr (by rw [← hs]; unfold lineState; exact congrArg (Option.bind · _) hn)
  · refine ⟨fun ho => ?_, fun x hx => h.numbered x (hmem x hx), fun x hx => h.fits x (hmem x hx), fun x hx => h.current x (hmem x hx)⟩
    dsimp only
    rw [h.offline ho, List.filter_nil]
  · refine ⟨h.station, h.tabs.sublist (List.filter_sublist.map _), fun x hx => h.fits x (hmem x hx), fun x hx => h.numbered x (hmem x hx),
      fun x hx => h.sums x (hmem x hx), fun x hx => h.shares x (hmem x hx), fun j hj => ?_, fun x hx => h.splitting x (hmem x hx)⟩
    obtain ⟨hv, x, hx, hn, hxs⟩ := h.job j hj
    refine ⟨hv, x, List.mem_filter.2 ⟨hx, ?_⟩, hn, hxs⟩
    rw [bne_iff_ne]
    intro heq
    rw [eq_of_findTab h.tabs ht hx heq, hst] at hxs
    exact absurd hxs (by simp)

/-! ## Split (R23 to R25) -/

theorem mem_membersOf {off n : Nat} {b : Byte} (h : n ∈ membersOf off b) : off ≤ n := by
  obtain ⟨i, -, rfl⟩ := List.mem_map.1 h
  omega

theorem membersOf_nodup (off : Nat) (b : Byte) : (membersOf off b).Nodup :=
  nodup_map (List.nodup_range.filter _) fun _ _ _ _ h => Nat.add_right_cancel h

theorem entryRefusal_none {t : Tab} {count : Nat} {earlier : List SplitEntry} {e : SplitEntry}
    (h : entryRefusal t count earlier e = none) : membersOf 1 e.sharers ≠ [] ∧ ∀ n ∈ membersOf 1 e.sharers, n ≤ count := by
  unfold entryRefusal at h
  dsimp only at h
  split at h
  · simp at h
  · split at h
    · simp at h
    · rename_i hs
      simp only [Bool.or_eq_true, List.isEmpty_iff, List.any_eq_true, decide_eq_true_eq, not_or, not_exists, not_and, Nat.not_lt] at hs
      exact hs

theorem entriesRefusal_none {t : Tab} {count : Nat} : ∀ {earlier rest : List SplitEntry}, entriesRefusal t count earlier rest = none →
    ∀ e ∈ rest, membersOf 1 e.sharers ≠ [] ∧ ∀ n ∈ membersOf 1 e.sharers, n ≤ count
  | _, [], _, e, he => by simp at he
  | earlier, x :: rest, h, e, he => by
    unfold entriesRefusal at h
    split at h
    · simp at h
    · rename_i hx
      rcases List.mem_cons.1 he with rfl | he
      · exact entryRefusal_none hx
      · exact entriesRefusal_none h e he

/-- What the tests of R24 leave to be said of a split taken. -/
structure SplitTaken (s : State) (tab count : Nat) (entries : List SplitEntry) (t : Tab) : Prop where
  found : findTab s tab = some t
  isOpen : t.state = .open
  counted : 1 ≤ count ∧ count ≤ 8
  sharers : ∀ e ∈ entries, membersOf 1 e.sharers ≠ [] ∧ ∀ n ∈ membersOf 1 e.sharers, n ≤ count
  idle : s.engine = none

theorem splitRefusal_none {count : Nat} {entries : List SplitEntry} (h : splitRefusal s tab count entries = none) :
    ∃ t, SplitTaken s tab count entries t := by
  unfold splitRefusal at h
  split at h
  · simp at h
  · rename_i t ht
    split at h
    · simp at h
    · rename_i hopen
      split at h
      · simp at h
      · rename_i hcount
        split at h
        · simp at h
        · split at h
          · simp at h
          · rename_i hentries
            refine ⟨t, ht, ?_, by omega, entriesRefusal_none hentries, ?_⟩
            · cases hst : t.state
              case splitting => rw [hst] at hopen; simp [openOnly] at hopen
              case split => rw [hst] at hopen; simp [openOnly] at hopen
              case closed => rw [hst] at hopen; simp [openOnly] at hopen
              · rfl
            · simpa using h

theorem engineJob_valid {count : Nat} {entries : List SplitEntry} {t : Tab} (h : SplitTaken s tab count entries t) (r : Requester) :
    (engineJob t r count entries).valid := by
  obtain ⟨hlow, hhigh⟩ := h.counted
  refine ⟨hlow, hhigh, fun x hx => ?_⟩
  obtain ⟨l, -, rfl⟩ := List.mem_map.1 hx
  unfold engineLine
  split
  · rename_i e he
    obtain ⟨hne, hle⟩ := h.sharers e (List.mem_of_find?_eq_some he)
    exact ⟨hne, membersOf_nodup 1 _, fun n hn => ⟨mem_membersOf hn, hle n hn⟩⟩
  · refine ⟨fun hnil => ?_, shareNumbers_nodup count, fun n hn => mem_shareNumbers.1 hn⟩
    have : 1 ∈ shareNumbers count := mem_shareNumbers.2 ⟨Nat.le_refl 1, hlow⟩
    exact absurd (hnil ▸ this : 1 ∈ ([] : List Nat)) (by simp)

theorem startSplit_kept {count : Nat} {entries : List SplitEntry} (h : splitRefusal s tab count entries = none) (r : Requester) :
    Keeps s (startSplit tab r count entries s) := by
  obtain ⟨t, ht⟩ := splitRefusal_none h
  have hnum := number_of_findTab ht.found
  unfold startSplit
  rw [ht.found]
  dsimp only
  refine keeps_modTab ?_ ?_ ?_ (fun hs => ?_)
  · exact fun _ => rfl
  · exact fun _ _ => .congr rfl
  · exact fun _ _ hc => hc.congr rfl rfl rfl
  · have hone : ∀ x ∈ s.tabs, x.number = tab → x = t := fun x hx hn => eq_of_findTab hs.tabs ht.found hx hn
    have htabs : ∀ x ∈ mapIf (fun x : Tab => x.number == tab) (fun x => { x with state := .splitting }) s.tabs,
        (x ∈ s.tabs ∧ x.state ≠ .splitting) ∨ x = { t with state := .splitting } := by
      intro x hx
      rcases mem_mapIf hx with ⟨hx, -⟩ | ⟨y, hy, hm, rfl⟩
      · refine .inl ⟨hx, fun hst => ?_⟩
        obtain ⟨j, hj, -⟩ := hs.splitting x hx hst
        rw [ht.idle] at hj
        exact absurd hj (by simp)
      · exact .inr (by rw [hone y hy (beq_iff_eq.1 hm)])
    have hsound : ∀ x ∈ mapIf (fun x : Tab => x.number == tab) (fun x => { x with state := .splitting }) s.tabs, x.Sound := by
      intro x hx
      rcases htabs x hx with ⟨hx, -⟩ | rfl
      · exact hs.tab hx
      · obtain ⟨hfits, h2, h3, h4⟩ := hs.tab (mem_of_findTab ht.found)
        unfold Tab.splitFits at hfits
        rw [ht.isOpen] at hfits
        exact ⟨hfits, h2, h3, h4⟩
    refine ⟨hs.station, ?_, fun x hx => (hsound x hx).fits, fun x hx => (hsound x hx).numbered, fun x hx => (hsound x hx).sums,
      fun x hx => (hsound x hx).shares, fun j hj => ?_, fun x hx hst => ?_⟩
    · rw [modTab_tabs, map_mapIf _ _ (fun x : Tab => x.number) (by exact fun _ _ => rfl)]
      exact hs.tabs
    · rw [modTab_engine] at hj
      rw [← Option.some.inj hj]
      refine ⟨engineJob_valid ht r, { t with state := .splitting }, ?_, rfl, rfl⟩
      rw [modTab_tabs]
      exact List.mem_map.2 ⟨t, mem_of_findTab ht.found, by simp [hnum]⟩
    · rw [modTab_tabs] at hx
      rcases htabs x hx with ⟨-, hne⟩ | rfl
      · exact absurd hst hne
      · exact ⟨_, rfl, rfl⟩

/-! ## The completion (R31 to R33) -/

/-- The engine's tab leaves SPLITTING as the engine's record goes. -/
theorem splitsSound_leave (h : SplitsSound s) {j : EngineJob} (hj : s.engine = some j) {f : Tab → Tab}
    (hn : ∀ t, (f t).number = t.number) (hf : ∀ t, t.Sound → t.state = .splitting → (f t).Sound ∧ (f t).state ≠ .splitting) :
    SplitsSound (modTab j.tab f { s with engine := none }) := by
  obtain ⟨-, t, ht, hnum, hst⟩ := h.job j hj
  have hone : ∀ x ∈ s.tabs, x.number = j.tab → x = t := fun x hx hxn =>
    eq_of_findTab h.tabs (hnum ▸ findTab_of_mem h.tabs ht) hx hxn
  have htabs : ∀ x ∈ mapIf (·.number == j.tab) f s.tabs, x.Sound ∧ x.state ≠ .splitting := by
    intro x hx
    rcases mem_mapIf hx with ⟨hx, hne⟩ | ⟨y, hy, hm, rfl⟩
    · refine ⟨h.tab hx, fun hxs => ?_⟩
      obtain ⟨j', hj', hjn⟩ := h.splitting x hx hxs
      rw [hj] at hj'
      obtain rfl := Option.some.inj hj'
      simp [hjn] at hne
    · rw [hone y hy (beq_iff_eq.1 hm)]
      exact hf t (h.tab ht) hst
  refine ⟨h.station, ?_, fun x hx => (htabs x hx).1.fits, fun x hx => (htabs x hx).1.numbered, fun x hx => (htabs x hx).1.sums,
    fun x hx => (htabs x hx).1.shares, fun j' hj' => ?_, fun x hx hxs => absurd hxs (htabs x hx).2⟩
  · rw [modTab_tabs, map_mapIf _ _ (·.number) fun x _ => hn x]
    exact h.tabs
  · rw [modTab_engine] at hj'
    exact absurd hj' (by simp)

theorem strikeLine_fields (input : List EngineLine) (l : Line) : (strikeLine input l).number = l.number ∧
    (strikeLine input l).state = l.state ∧ (strikeLine input l).tax = l.tax ∧ (strikeLine input l).amount = l.amount := by
  unfold strikeLine
  split
  · exact ⟨rfl, rfl, rfl, rfl⟩
  · exact ⟨rfl, rfl, rfl, rfl⟩

theorem struck_kept {j : EngineJob} (hj : s.engine = some j) :
    Keeps s (modTab j.tab (·.strike (own s) s.cfg.rates j) { s with engine := none }) := by
  refine keeps_modTab ?_ (fun t _ => ?_) (fun t _ hc => ?_) (fun hs => splitsSound_leave hs hj (fun _ => rfl) fun t ht hst => ?_)
  · exact fun _ => rfl
  · exact .mapLines rfl (fun l => (strikeLine_fields _ l).1) fun _ l _ _ => (strikeLine_fields _ l).2.1
  · refine hc.mapLines rfl rfl rfl (fun l => (strikeLine_fields _ l).1) fun l _ => ?_
    obtain ⟨-, h2, h3, h4⟩ := strikeLine_fields j.input l
    exact ⟨h3, by rw [h2], h4⟩
  · refine ⟨⟨⟨rfl, ht.outcome (by simp [hst])⟩, fun sp hsp => ?_, fun sp hsp => ?_, fun sp hsp sh hsh => ?_⟩, by simp [Tab.strike]⟩
    · rw [← Option.some.inj hsp]; exact struckShares_numbers
    · rw [← Option.some.inj hsp]; exact struckSplit_sum
    · rw [← Option.some.inj hsp] at hsh
      obtain ⟨i, -, rfl⟩ := List.mem_map.1 (show sh ∈ (List.range j.count).map (struckShare _ _ j.count j.input) from hsh)
      exact struckShare_sound i

theorem answerSplit_inner (station tag tab : Nat) (r : Reply) (s : State) : KeepsInner s (answerSplit station tag tab r s) :=
  .ite (.refl s) (sendAnswer_inner _ _ _ _ _ _ _)

theorem strike_kept {j : EngineJob} (hj : s.engine = some j) : Keeps s (strike j { s with engine := none }) := by
  have struck := struck_kept hj
  have closed : Keeps s (if (struckSplit (own s) s.cfg.rates j).allSettled then
      closeTab j.tab .paid (modTab j.tab (·.strike (own s) s.cfg.rates j) { s with engine := none })
      else modTab j.tab (·.strike (own s) s.cfg.rates j) { s with engine := none }) := by
    refine .ite (struck.trans (closeTab_inner _ fun _ x hx => ?_).toKeeps) struck
    rw [findTab_modTab _ _ (by exact fun _ => rfl)] at hx
    obtain ⟨t, -, rfl⟩ := Option.map_eq_some_iff.1 hx
    simp [Tab.strike]
  unfold strike
  dsimp only
  split
  · exact closed.trans (post_inner _ _).toKeeps
  · exact closed.trans (answerSplit_inner _ _ _ _ _).toKeeps

theorem redo_kept {j : EngineJob} (hj : s.engine = some j) : Keeps s (redo j { s with engine := none }) := by
  have opened : Keeps s (modTab j.tab Tab.withdrawSplit { s with engine := none }) := by
    refine keeps_modTab (fun _ => rfl) (fun t _ => t.withdrawSplit_finals) (fun _ _ hc => hc.withdrawn)
      (fun hs => splitsSound_leave hs hj (fun _ => rfl) fun t ht hst => ?_)
    exact ⟨.withdrawn (ht.outcome (by simp [hst])), by simp [Tab.withdrawSplit]⟩
  unfold redo
  dsimp only
  split
  · exact opened.trans (post_inner _ _).toKeeps
  · exact opened.trans (answerSplit_inner _ _ _ _ _).toKeeps

theorem completeSplit_kept (s : State) : Keeps s (completeSplit s) := by
  unfold completeSplit
  split
  · exact .refl s
  · rename_i j hj
    exact .ite (redo_kept hj) (strike_kept hj)

/-! ## Withdraw (R34) -/

theorem withdrawRefusal_none (h : withdrawRefusal s tab = none) : ∃ t, findTab s tab = some t ∧ t.state = .split := by
  unfold withdrawRefusal at h
  split at h
  · simp at h
  · rename_i t ht
    refine ⟨t, ht, ?_⟩
    cases hst : t.state
    case split => rfl
    case splitting => rw [hst] at h; simp at h
    case closed => rw [hst] at h; simp at h
    · rw [hst] at h; simp at h

theorem homeWithdraw_inner (tab : Nat) (s : State) : KeepsInner s (homeWithdraw tab s).2 := by
  unfold homeWithdraw
  split
  · exact .refl s
  · rename_i h
    obtain ⟨t, ht, hst⟩ := withdrawRefusal_none h
    exact withdrawSplit_inner fun x hx => by rw [ht] at hx; rw [← Option.some.inj hx]; exact .inr hst

/-! ## Claims at the home (R39 to R43) -/

theorem findShare_eq {t : Tab} {sp : SplitRec} {share : Nat} (ht : findTab s tab = some t) (hsp : t.split = some sp) :
    findShare s tab share = sp.share share := by simp [findShare, ht, hsp]

theorem granted_inner {k share ms : Nat} {sh : Share} (hk : SplitsSound s → isStation k = true) (hfind : findShare s tab share = some sh)
    (hst : sh.state ≠ .settled) : KeepsInner s (modShare tab share (Share.grant k ms) s) := by
  refine modShare_inner (fun _ => rfl) (fun _ => rfl) fun hs x hx hsound => ?_
  rw [hfind] at hx
  obtain rfl := Option.some.inj hx
  have hnone : sh.settlement = none := by
    unfold Share.sound at hsound
    cases h : sh.state with
    | available => rw [h] at hsound; exact hsound.2.2
    | claimed => rw [h] at hsound; exact hsound.2.2
    | settled => exact absurd h hst
  exact ⟨hk hs, rfl, hnone⟩

theorem homeClaim_inner {k : Nat} (tab share : Nat) (hk : SplitsSound s → isStation k = true) :
    KeepsInner s (homeClaim k tab share s).2 := by
  unfold homeClaim
  split
  · exact .refl s
  · rename_i t ht
    split
    · exact .refl s
    · exact .refl s
    · exact .refl s
    · exact .refl s
    · rename_i sp _ hsp
      split
      · exact .refl s
      · rename_i sh hsh
        have hfind : findShare s tab sh.number = some sh := by
          rw [findShare_eq ht hsp, number_of_share hsh, hsh]
        unfold claimShare
        split
        · exact .refl s
        · rename_i hst
          split
          · exact granted_inner hk hfind (by simp [hst])
          · exact .refl s
        · rename_i hst
          exact granted_inner hk hfind (by simp [hst])

theorem closeIfPaid_inner (tab : Nat) (s : State) : KeepsInner s (closeIfPaid tab s) := by
  unfold closeIfPaid
  split
  · rename_i sp hsp
    refine .ite (closeTab_inner _ fun hs t ht hst => ?_) (.refl s)
    have hfits := hs.fits t (mem_of_findTab ht)
    unfold Tab.splitFits at hfits
    rw [hst] at hfits
    rw [ht, Option.bind_some, hfits.1] at hsp
    exact absurd hsp (by simp)
  · exact .refl s

theorem settleShare_inner (k tab : Nat) (tender : Tender) (sh : Share) {ans : Answering} (ha : ans.Inner) (s : State) :
    KeepsInner s (settleShare k tab tender sh ans s).2 := by
  have told : ∀ r, KeepsInner s (answered ans r s).2 := fun r => ha r s
  unfold settleShare
  split
  · exact told _
  · split
    · exact told _
    · exact told _
  · exact told _
  · split
    · have settled : ∀ n, KeepsInner s (modShare tab sh.number (Share.settle k n tender) s) := fun n =>
        modShare_inner (fun _ => rfl) (fun _ => rfl) fun _ _ _ _ => ⟨rfl, rfl, rfl⟩
      refine .trans ?_ ((ha _ _).trans (closeIfPaid_inner _ _))
      exact .ite ((settled _).trans (countSettlement_inner _ _ _ _)) (settled _)
    · exact told _

theorem homeSettle_inner (k tab share tender : Nat) {ans : Answering} (ha : ans.Inner) (s : State) :
    KeepsInner s (homeSettle k tab share tender ans s).2 := by
  have told : ∀ r, KeepsInner s (answered ans r s).2 := fun r => ha r s
  unfold homeSettle
  split
  · exact told _
  · split
    · exact told _
    · split
      · exact told _
      · exact settleShare_inner _ _ _ _ ha _

/-- A split that Settle and Release share meet is that of the tab. -/
theorem settleSplit_ok {sp : SplitRec} (h : settleSplit s tab = .ok sp) : ∃ t, findTab s tab = some t ∧ t.split = some sp := by
  unfold settleSplit at h
  split at h
  · simp at h
  · rename_i t ht
    split at h
    · simp at h
    · simp at h
    · simp at h
    · obtain rfl := Except.ok.inj h
      exact ⟨t, ht, by assumption⟩

theorem freed_inner {share : Nat} {sh : Share} (hfind : findShare s tab share = some sh) (hst : sh.state = .claimed) :
    KeepsInner s (modShare tab share Share.free s) := by
  refine modShare_inner (fun _ => rfl) (fun _ => rfl) fun _ x hx hsound => ?_
  rw [hfind] at hx
  obtain rfl := Option.some.inj hx
  exact Share.free_sound hsound hst

theorem homeRelease_inner (k tab share : Nat) (s : State) : KeepsInner s (homeRelease k tab share s).2 := by
  unfold homeRelease
  split
  · exact .refl s
  · rename_i sp hok
    obtain ⟨t, ht, hsp⟩ := settleSplit_ok hok
    split
    · exact .refl s
    · rename_i sh hsh
      split
      · exact .refl s
      · exact .refl s
      · rename_i hst
        split
        · exact freed_inner (by rw [findShare_eq ht hsp, hsh]) hst
        · exact .refl s

theorem holdExpiry_inner (tab share : Nat) (s : State) : KeepsInner s (holdExpiry tab share s) := by
  unfold holdExpiry
  split
  · exact .refl s
  · split
    · rename_i sh hsh
      split
      · rename_i hc
        exact (freed_inner hsh hc.1).trans (tellClaimEnd_inner _ _ _ _ _)
      · exact .refl s
    · exact .refl s

end

end Sys2Proof.Machine
end

section
/-! The claims list, the exchange table, the stock view, the portion table and the transmitter under the invariants (R45 to R51, R91 to
R95, R123 to R132, R153 to R170). -/

namespace Sys2Proof.Machine

section
variable {s : State}

/-! ## The claims list (R45 to R51) -/

theorem modClaim_inner {home tab share : Nat} {f : ClaimEntry → ClaimEntry} (hf : ∀ e, (f e).key = e.key) (s : State) :
    KeepsInner s (modClaim home tab share f s) := by
  have hkeys : (mapIf (·.isFor home tab share) f s.claims).map ClaimEntry.key = s.claims.map ClaimEntry.key :=
    map_mapIf _ _ _ (fun e _ => hf e) _
  exact keeps_claims (by rw [length_mapIf]; exact id) (by rw [hkeys]; exact id)

theorem dropClaim_inner (home tab share : Nat) (s : State) : KeepsInner s (dropClaim home tab share s) := keeps_claims_filter _ s

theorem findClaim_none {home tab share : Nat} (h : findClaim s home tab share = none) :
    (home, tab, share) ∉ s.claims.map ClaimEntry.key := fun hin => by
  obtain ⟨e, he, hk⟩ := List.mem_map.1 hin
  have hnot := List.find?_eq_none.1 h e he
  simp only [ClaimEntry.key, Prod.mk.injEq] at hk
  obtain ⟨h1, h2, h3⟩ := hk
  simp [ClaimEntry.isFor, h1, h2, h3] at hnot

theorem takeGrant_inner (a : AnswerRec) (s : State) : KeepsInner s (takeGrant a s) := by
  unfold takeGrant
  dsimp only
  split
  · rename_i hnone
    split
    · rename_i hroom
      refine keeps_claims (fun _ => by rw [List.length_append]; exact hroom) fun h => ?_
      rw [List.map_append, List.map_singleton]
      refine List.nodup_append.2 ⟨h, nodup_singleton _, fun x hx y hy heq => ?_⟩
      rw [List.mem_singleton.1 hy] at heq
      rw [heq] at hx
      exact findClaim_none hnone hx
    · exact .refl s
  · exact .ite (modClaim_inner (by exact fun _ => rfl) s) (.refl s)

theorem claimAnswer_inner (a : AnswerRec) (s : State) : KeepsInner s (claimAnswer a s) := by
  unfold claimAnswer
  split
  · exact (takeGrant_inner a s).trans (post_inner _ _)
  · exact (KeepsInner.ite (dropClaim_inner _ _ _ s) (.refl s)).trans (post_inner _ _)

theorem countAnswered_inner (a : AnswerRec) (s : State) : KeepsInner s (countAnswered a s) := by
  have gone := dropClaim_inner a.source a.subject a.share s
  unfold countAnswered
  dsimp only
  split
  · exact gone.trans (countSettlement_inner _ _ _ _)
  · exact gone

theorem settleAnswer_inner (a : AnswerRec) (s : State) : KeepsInner s (settleAnswer a s) := by
  have gone : ∀ n, KeepsInner s (post n (dropClaim a.source a.subject a.share s)) := fun n =>
    (dropClaim_inner _ _ _ s).trans (post_inner n _)
  unfold settleAnswer
  split
  · exact post_inner _ s
  · split
    · exact (countAnswered_inner a s).trans (post_inner _ _)
    · split
      · exact post_inner _ s
      · exact post_inner _ s
      · exact .ite (gone _) (.ite ((modClaim_inner (by exact fun _ => rfl) s).trans (post_inner _ _)) (gone _))
      · exact .ite (gone _) (.ite (gone _) (gone _))

theorem claimsOutcome_inner (a : AnswerRec) (s : State) : KeepsInner s (claimsOutcome a s) :=
  .ite (claimAnswer_inner a s) (.ite (settleAnswer_inner a s) ((dropClaim_inner _ _ _ s).trans (post_inner _ _)))

theorem claimsLate_inner (a : AnswerRec) (s : State) : KeepsInner s (claimsLate a s) :=
  .ite (takeGrant_inner a s) (.ite (countAnswered_inner a s) (.refl s))

theorem claimEnded_inner (home tab share : Nat) (r : EndReason) (s : State) : KeepsInner s (claimEnded home tab share r s) := by
  unfold claimEnded
  split
  · exact .refl s
  · split
    · exact (dropClaim_inner _ _ _ s).trans (post_inner _ _)
    · exact (dropClaim_inner _ _ _ s).trans (post_inner _ _)
    · exact modClaim_inner (by exact fun _ => rfl) s
    · exact .refl s

theorem localExpired_inner (home tab share : Nat) (s : State) : KeepsInner s (localExpired home tab share s) := by
  unfold localExpired
  split
  · exact .refl s
  · split
    · exact .refl s
    · split
      · split
        · exact (dropClaim_inner _ _ _ s).trans (post_inner _ _)
        · exact (dropClaim_inner _ _ _ s).trans (post_inner _ _)
        · exact modClaim_inner (by exact fun _ => rfl) s
        · exact modClaim_inner (by exact fun _ => rfl) s
      · exact .refl s

/-! ## Requests to peers (R45, R166, R170) -/

theorem remoteRequest_inner (home : Nat) (tests : State → Option Result) (kind subject share : Nat) (owner : Owner) (payload : Bytes)
    (s : State) : KeepsInner s (remoteRequest home tests kind subject share owner payload s).2 := by
  unfold remoteRequest
  split
  · exact .refl s
  · split
    · exact .refl s
    · split
      · exact .refl s
      · split
        · exact .refl s
        · exact openExchange_inner _ _ _ _ _ _ s

theorem markStarted_inner {home tab share : Nat} {st : ClaimState} {p : Reply × State} (h : KeepsInner s p.2) :
    KeepsInner s (markStarted home tab share st p).2 := by
  unfold markStarted
  split
  · exact h.trans (modClaim_inner (by exact fun _ => rfl) _)
  · exact h

theorem testBody_inner (dest : Nat) (payload : Bytes) (s : State) : KeepsInner s (testBody dest payload s).2 := by
  unfold testBody
  split
  · exact .refl s
  · split
    · exact .refl s
    · split
      · exact .refl s
      · split
        · exact .refl s
        · exact openExchange_inner _ _ _ _ _ _ s

/-! ## The router's commands (R84, R92, R95) -/

theorem applyView_inner (ticket kitchen place : Nat) (voids : List Nat) (s : State) :
    KeepsInner s (applyView ticket kitchen place voids s) := by
  unfold applyView
  split
  · exact .refl s
  · rename_i t _
    split
    · split
      · have missed : ∀ (u : State) (n : Nat), KeepsInner u (missedVoid t u n) := fun u n =>
          .ite (tabKitchenVoid_inner _ _ u) (.refl u)
        dsimp only
        refine .trans ?_ ((KeepsInner.foldl missed voids _).trans (pruneTicket_inner _ _))
        split
        · exact applyPlaced_inner _ _ _ _ s
        · exact .refl s
      · exact .refl s
    · exact .refl s

theorem applyUnknown_inner (ticket kitchen : Nat) (s : State) : KeepsInner s (applyUnknown ticket kitchen s) := by
  unfold applyUnknown
  split
  · exact .refl s
  · exact .ite (endTicket_inner _ rfl s) (.refl s)

theorem refreshAnswer_inner (a : AnswerRec) (s : State) : KeepsInner s (refreshAnswer a s) := by
  unfold refreshAnswer
  refine .trans ?_ (post_inner _ _)
  split
  · split
    · exact applyView_inner _ _ _ _ s
    · exact .refl s
  · exact .ite (applyUnknown_inner _ _ s) (.refl s)

theorem refreshOwn_inner (ticket : Nat) (s : State) : KeepsInner s (refreshOwn ticket s).2 := by
  unfold refreshOwn
  split
  · exact applyView_inner _ _ _ _ s
  · exact applyUnknown_inner _ _ s

theorem refreshPeerAt_inner (ticket kitchen : Nat) (s : State) : KeepsInner s (refreshPeerAt ticket kitchen s).2 := by
  unfold refreshPeerAt
  split
  · exact .refl s
  · exact openExchange_inner _ _ _ _ _ _ s

/-! ## The outcome of an exchange (R167 to R169) -/

theorem freeEntry_inner (tag : Nat) (s : State) : KeepsInner s (freeEntry tag s) :=
  keeps_exch (Nat.le_trans (List.length_filter_le _ _)) fun ⟨h1, h2, h3, h4⟩ =>
    ⟨Nat.le_trans (List.length_filter_le _ _) h1, h2.sublist (List.filter_sublist.map _), fun e he => h3 e (List.mem_filter.1 he).1, h4⟩

theorem commandOutcome_inner (a : AnswerRec) (s : State) : KeepsInner s (commandOutcome a s) := by
  unfold commandOutcome
  exact .ite (post_inner _ s) (.ite ((KeepsInner.ite (countLineVoided_inner s) (.refl s)).trans (post_inner _ _))
    (.ite (post_inner _ s) (.ite (post_inner _ s) (.ite (post_inner _ s) (.ite (refreshAnswer_inner a s) (post_inner _ s))))))

theorem handOutcome_inner (e : ExchEntry) (a : AnswerRec) (s : State) : KeepsInner s (handOutcome e a s) := by
  unfold handOutcome
  split
  · exact commandOutcome_inner a s
  · exact claimsOutcome_inner a s
  · exact .ite (takeAccept_inner ownVoid_inner _ _ _ s) (failOffer_inner _ _ s)
  · exact voidEnd_inner _ _ s

theorem lateEffect_inner (a : AnswerRec) (s : State) : KeepsInner s (lateEffect a s) := by
  unfold lateEffect
  exact .ite (.refl s) (.ite (.ite (countLineVoided_inner s) (.refl s)) (.ite (.refl s)
    (.ite (.ite (takeLateAccept_inner ownVoid_inner _ _ _ s) (.refl s)) (claimsLate_inner a s))))

theorem lateAnswer_inner (a : AnswerRec) (s : State) : KeepsInner s (lateAnswer a s) :=
  .ite (.refl s) (.ite (lateEffect_inner a s) ((lateEffect_inner a s).trans (post_inner _ _)))

theorem exchangeExpiry_inner (tag : Nat) (s : State) : KeepsInner s (exchangeExpiry tag s) := by
  unfold exchangeExpiry
  split
  · exact .refl s
  · split
    · exact .ite ((freeEntry_inner tag s).trans (handOutcome_inner _ _ _)) (.refl s)
    · exact .refl s

/-! ## The stock view (R130) -/

theorem takeReport_inner (k : Nat) (b : StockFields) (st : StockState) (s : State) : KeepsInner s (takeReport k b st s) := by
  have dropped : ∀ l : List StockEntry, (dropPair b.item k l).Sublist l := fun l => List.filter_sublist
  have noted : ∀ e : StockEntry, e.item = b.item → e.kitchen = k → KeepsInner s { s with stock := noteStock e s.stock } := by
    intro e hi hk
    have hrest : ∃ rest, noteStock e s.stock = rest ++ [e] ∧ rest.Sublist (dropPair b.item k s.stock) ∧
        (s.stock.length ≤ Config.stockCapacity → rest.length < Config.stockCapacity) := by
      unfold noteStock
      rw [hi, hk]
      have hle := (dropped s.stock).length_le
      dsimp only
      split
      · exact ⟨_, rfl, List.tail_sublist _, fun h => by
          have hpos : 0 < Config.stockCapacity := by decide
          rw [List.length_tail]
          omega⟩
      · exact ⟨_, rfl, .refl _, fun _ => Nat.lt_of_not_le ‹_›⟩
    obtain ⟨rest, heq, hsub, hroom⟩ := hrest
    refine keeps_stock (fun h => ?_) fun h => ?_
    · rw [heq, List.length_append, List.length_singleton]
      exact hroom h
    · rw [heq, List.map_append, List.map_singleton]
      refine List.nodup_append.2 ⟨h.sublist ((hsub.trans (dropped _)).map _), nodup_singleton _, fun x hx y hy hxy => ?_⟩
      rw [List.mem_singleton.1 hy] at hxy
      obtain ⟨z, hz, hzk⟩ := List.mem_map.1 hx
      have hnot := (List.mem_filter.1 (hsub.subset hz)).2
      have hkey : z.item = b.item ∧ z.kitchen = k := by
        have : z.key = e.key := hzk.trans hxy
        simp only [StockEntry.key, Prod.mk.injEq] at this
        exact ⟨this.1.trans hi, this.2.trans hk⟩
      simp [StockEntry.isFor, hkey.1, hkey.2] at hnot
  unfold takeReport
  split
  · exact keeps_stock (Nat.le_trans (dropped _).length_le) fun h => h.sublist ((dropped _).map _)
  · exact noted _ rfl rfl

/-! ## The portion table (R124 to R128) -/

/-- A change of the entry found for an item, its item, held, used and waste standing, with loaded following remaining. -/
theorem modPortion_inner {item : Nat} {f : Portion → Portion} {p : Portion} (hp : findPortion s item = some p)
    (hi : ∀ q, q.item = item → (f q).item = item)
    (hf : ∀ k : Kitchen, p.Sound k → (f p).Sound k) : KeepsInner s (modPortion item f s) := by
  have hitems : (mapIf (·.item == item) f s.portions).map (·.item) = s.portions.map (·.item) :=
    map_mapIf _ _ (fun q : Portion => q.item) (fun q hq => by rw [hi q (beq_iff_eq.1 hq), beq_iff_eq.1 hq]) _
  refine ⟨keepsBlocks_kitchen (k := s.kitchen) id (fun h => h.congr rfl rfl rfl) (fun h => ?_) (by rw [length_mapIf]; exact id)
    (by rw [hitems]; exact id), fun _ => id, fun _ => id⟩
  obtain ⟨hks, hord, hsound, hlines, htaken⟩ := portionsBalance_iff.1 h
  refine portionsBalance_iff.2 ⟨hks.congr rfl rfl rfl, by dsimp only; rw [hitems]; exact hord, fun q hq => ?_, hlines,
    fun t ht l hl htk => ?_⟩
  · rcases mem_mapIf hq with ⟨hq, -⟩ | ⟨x, hx, hm, rfl⟩
    · exact hsound q hq
    · have hnodup : (s.portions.map (·.item)).Nodup := hord.imp Nat.ne_of_lt
      have hxp : x = p := eq_of_nodup_map hnodup hx (List.mem_of_find?_eq_some hp)
        (by rw [item_of_findPortion hp]; exact beq_iff_eq.1 hm)
      rw [hxp]
      exact hf _ (hsound p (List.mem_of_find?_eq_some hp))
  · obtain ⟨q, hq, hqi⟩ := htaken t ht l hl htk
    have hin : l.item ∈ (mapIf (·.item == item) f s.portions).map (·.item) := by rw [hitems]; exact List.mem_map.2 ⟨q, hq, hqi⟩
    obtain ⟨q', hq', hqi'⟩ := List.mem_map.1 hin
    exact ⟨q', hq', hqi'⟩

theorem withPortion_kept {item : Nat} {b : Bool} {body : Portion → Body}
    (h : b = true → ∀ p, findPortion s item = some p → Keeps s (body p s).2) : Keeps s (withPortion item b body s).2 := by
  unfold withPortion
  split
  · exact .refl s
  · rename_i hrange
    split
    · exact .refl s
    · rename_i p hp
      exact h (by simpa using (not_or.1 hrange).2) p hp

theorem Portion.Sound.refilled {p : Portion} {k : Kitchen} (h : p.Sound k) {n : Nat} (hr : n ≤ Config.portionLimit - p.remaining)
    (hl : p.loaded + n ≤ Config.max32) : ({ p with remaining := p.remaining + n, loaded := p.loaded + n } : Portion).Sound k := by
  obtain ⟨hb, hrem, -, hm, hh, hhr, ha, hu⟩ := h
  refine ⟨by dsimp only; omega, ?_, hl, hm, hh, hhr, ha, hu⟩
  generalize Config.portionLimit = limit at hr hrem ⊢
  dsimp only
  omega

theorem Portion.Sound.setRemaining {p : Portion} {k : Kitchen} (h : p.Sound k) {v : Nat} (hv : v ≤ Config.portionLimit)
    (hl : loadedFits ((p.loaded : Int) + ((v : Int) - (p.remaining : Int))) = true) : (p.setRemaining v).Sound k := by
  obtain ⟨hb, -, -, hm, hh, hhr, ha, hu⟩ := h
  simp only [loadedFits, decide_eq_true_eq] at hl
  refine ⟨?_, hv, ?_, hm, hh, hhr, ha, hu⟩
  · simp only [Portion.setRemaining]; omega
  · simp only [Portion.setRemaining]
    generalize Config.max32 = limit at hl ⊢
    omega

theorem clampAdjust_range (v : Int) : -(Config.maxSigned : Int) ≤ clampAdjust v ∧ clampAdjust v ≤ (Config.maxSigned : Int) := by
  have hpos : (0 : Int) ≤ (Config.maxSigned : Int) := Int.natCast_nonneg _
  unfold clampAdjust
  omega

/-- A new entry joins the table in item order (R124). -/
theorem loaded_kept {item n low : Nat} (hnone : findPortion s item = none) (hroom : s.portions.length < Config.portionCapacity)
    (hn : n ≤ Config.portionLimit) (hlow : low ≤ 999) :
    Keeps s { s with portions := insertBy (·.item) (Portion.fresh item n low) s.portions } := by
  have habsent : ∀ p ∈ s.portions, p.item ≠ item := fun p hp => by simpa using List.find?_eq_none.1 hnone p hp
  have hmem : ∀ p, p ∈ insertBy (·.item) (Portion.fresh item n low) s.portions ↔ p = Portion.fresh item n low ∨ p ∈ s.portions :=
    fun p => mem_insertBy _ _ _ _
  refine keepsBlocks_kitchen (k := s.kitchen) id (fun h => h.congr rfl rfl rfl) (fun h => ?_)
    (fun _ => by rw [length_insertBy]; exact hroom) (fun h => pairwise_insertBy _ _ _ h habsent)
  obtain ⟨hks, hord, hsound, hlines, htaken⟩ := portionsBalance_iff.1 h
  -- no line is portion-taken for an item without an entry
  have hzero : ∀ l : List KTicket, (∀ t ∈ l, t ∈ s.kitchen.all) → takenBy item l = 0 := by
    intro l hl
    induction l with
    | nil => rfl
    | cons t l ih =>
      rw [takenBy_cons, ih fun x hx => hl x (by simp [hx]), takenQty, List.filter_eq_nil_iff.2 fun x hx => ?_]
      · rfl
      · rw [Bool.and_eq_true, beq_iff_eq]
        rintro ⟨htk, hi⟩
        obtain ⟨p, hp, hpi⟩ := htaken t (hl t (by simp)) x (List.mem_filter.1 hx).1 htk
        exact habsent p hp (hpi.trans hi)
  refine portionsBalance_iff.2 ⟨hks.congr rfl rfl rfl, pairwise_insertBy _ _ _ hord habsent, fun p hp => ?_, hlines,
    fun t ht l hl htk => ?_⟩
  · rcases (hmem p).1 hp with rfl | hp
    · refine ⟨rfl, hn, Nat.le_trans hn (by decide), ⟨hn, hlow⟩, ?_, Nat.zero_le _, ⟨by simp [Portion.fresh], by simp [Portion.fresh]⟩, ?_⟩
      · exact (hzero _ fun t ht => Kitchen.mem_all.2 (.inl ht)).symm
      · have h1 := hzero s.kitchen.fired fun t ht => Kitchen.mem_all.2 (.inr (.inl ht))
        have h2 := hzero s.kitchen.ready fun t ht => Kitchen.mem_all.2 (.inr (.inr ht))
        simp only [Portion.fresh]
        omega
    · exact hsound p hp
  · obtain ⟨p, hp, hi⟩ := htaken t ht l hl htk
    exact ⟨p, (hmem p).2 (.inr hp), hi⟩

theorem clearTaken_active (item : Nat) (t : KTicket) :
    (clearTaken item t).active = t.active.map fun l => if l.item == item then { l with taken := false } else l := by
  unfold KTicket.active clearTaken mapIf
  dsimp only
  rw [List.filter_map]
  congr 1
  refine List.filter_congr fun l _ => ?_
  simp only [Function.comp_def]
  split <;> rfl

theorem takenQty_clear {item other : Nat} (h : other ≠ item) (l : List KLine) :
    takenQty other (l.map fun x => if x.item == item then { x with taken := false } else x) = takenQty other l := by
  unfold takenQty
  rw [List.filter_map, List.map_map]
  have hfilter : ∀ x : KLine, ((fun x : KLine => x.taken && x.item == other) ∘
      fun x => if x.item == item then { x with taken := false } else x) x = (x.taken && x.item == other) := by
    intro x
    simp only [Function.comp_def]
    split
    · rename_i hx
      have : (x.item == other) = false := by
        rw [beq_eq_false_iff_ne]
        exact fun heq => h (heq.symm.trans (beq_iff_eq.1 hx))
      simp [this]
    · rfl
  rw [List.filter_congr fun x _ => hfilter x]
  congr 1
  refine List.map_congr_left fun x _ => ?_
  simp only [Function.comp_def]
  split <;> rfl

theorem takenBy_clear {item other : Nat} (h : other ≠ item) (l : List KTicket) :
    takenBy other (l.map (clearTaken item)) = takenBy other l := by
  induction l with
  | nil => rfl
  | cons t l ih => rw [List.map_cons, takenBy_cons, takenBy_cons, ih, clearTaken_active, takenQty_clear h]

theorem clearTaken_from (item : Nat) (t : KTicket) : (clearTaken item t).From t := by
  refine ⟨rfl, by simp [clearTaken, length_mapIf], fun l' hl' => ?_⟩
  rcases mem_mapIf hl' with ⟨h, -⟩ | ⟨l, hl, -, rfl⟩
  · exact ⟨l', h, rfl, rfl, id, id⟩
  · exact ⟨l, hl, rfl, rfl, fun h => absurd h (by simp), id⟩

/-- An entry leaves the table, its lines' portion-taken flags cleared (R128). -/
theorem removed_kept (item : Nat) (s : State) :
    Keeps s { s with portions := s.portions.filter (·.item != item), kitchen := s.kitchen.mapAll (clearTaken item) } := by
  have hall : (s.kitchen.mapAll (clearTaken item)).all = s.kitchen.all.map (clearTaken item) := by simp [Kitchen.mapAll, Kitchen.all]
  have hsub : (s.portions.filter (·.item != item)).Sublist s.portions := List.filter_sublist
  have hshrinks : s.kitchen.Shrinks (s.kitchen.mapAll (clearTaken item)) := by
    refine ⟨?_, rfl, ?_⟩
    · rw [hall, List.map_map]; exact .refl _
    · simp only [Kitchen.mapAll, List.map_map]; exact List.Sublist.refl _
  have hkitchen : ∀ l, KitchenSound s → KitchenSound { s with kitchen := s.kitchen.mapAll (clearTaken item), portions := l } :=
    fun l h => h.shrinks hshrinks (by simp [Kitchen.mapAll])
  refine keepsBlocks_kitchen (by rw [hall, List.length_map]; exact id) (hkitchen _) (fun h => ?_) (Nat.le_trans hsub.length_le)
    (fun h => h.sublist (hsub.map _))
  obtain ⟨hks, hord, hsound, hlines, htaken⟩ := portionsBalance_iff.1 h
  refine portionsBalance_iff.2 ⟨hkitchen _ hks, hord.sublist (hsub.map _), fun p hp => ?_, fun t' ht' => ?_, fun t' ht' l' hl' htk => ?_⟩
  · obtain ⟨hp, hne⟩ := List.mem_filter.1 hp
    rw [bne_iff_ne] at hne
    obtain ⟨hb, hr, hl, hm, hh, hhr, ha, hu⟩ := hsound p hp
    refine ⟨hb, hr, hl, hm, ?_, hhr, ha, ?_⟩
    · simp only [Kitchen.mapAll, takenBy_clear hne]; exact hh
    · simp only [Kitchen.mapAll, takenBy_clear hne]; exact hu
  · dsimp only at ht'
    rw [hall] at ht'
    obtain ⟨t, ht, rfl⟩ := List.mem_map.1 ht'
    obtain ⟨hlen, hqty⟩ := hlines t ht
    have hfrom := clearTaken_from item t
    refine ⟨hfrom.length ▸ hlen, fun l' hl' => ?_⟩
    obtain ⟨l, hl, heq, -⟩ := hfrom.lines l' hl'
    exact heq ▸ hqty l hl
  · dsimp only at ht'
    rw [hall] at ht'
    obtain ⟨t, ht, rfl⟩ := List.mem_map.1 ht'
    rcases mem_mapIf hl' with ⟨hl, hne⟩ | ⟨l, -, -, rfl⟩
    · obtain ⟨p, hp, hpi⟩ := htaken t ht l' hl htk
      exact ⟨p, List.mem_filter.2 ⟨hp, by rw [hpi]; simpa using hne⟩, hpi⟩
    · exact absurd htk (by simp)

/-! ## The transmitter (R155 to R159) -/

theorem emptyTx_inner (s : State) : KeepsInner s (emptyTx s) := by
  refine .trans (t := { s with tx := { s.tx with slots := [], watched := [] } }) (keeps_tx fun h => ?_) (pause_inner false _)
  exact ⟨Nat.zero_le _, Nat.zero_le _, fun x hx => absurd hx (by simp), Nat.zero_le _, h.dropped⟩

theorem loseArbitration_inner (s : State) : KeepsInner s (loseArbitration s) := by
  refine .ite (keeps_tx fun h => ?_) (.refl s)
  refine h.mapSlots (g := fun x => if x.onWire then { x with age := min (x.age + 1) 7, onWire := false } else x) (fun y => ?_)
    (fun y hy => ?_) (fun y hy => ?_) (fun y => ?_)
  · split <;> rfl
  · split
    · exact ⟨Nat.min_le_right _ _, .inl hy.2⟩
    · exact ⟨hy.1, .inl hy.2⟩
  · split
    · exact (h.slots y hy).2
    · exact (h.slots y hy).2
  · split
    · exact fun h => absurd h (by simp)
    · exact id

theorem freeSlot_inner (s : State) : KeepsInner s (freeSlot s) := by
  refine .trans (t := { s with tx := { s.tx with slots := s.tx.slots.filter fun x => !x.onWire, watched := [] } })
    (keeps_tx fun ⟨h1, h2, h3, h4, h5⟩ => ?_) (pause_inner false _)
  have hsub : (s.tx.slots.filter fun x => !x.onWire).Sublist s.tx.slots := List.filter_sublist
  exact ⟨Nat.le_trans hsub.length_le h1, Nat.le_trans (hsub.filter _).length_le h2, fun x hx => h3 x (hsub.subset hx),
    Nat.le_trans (hsub.filter _).length_le h4, h5⟩

theorem onWire_unique {x : Slot} (h : TxFits s.tx) (hx : sending s = some x) : ∀ y ∈ s.tx.slots, y.onWire = true → y = x := by
  intro y hy hw
  have hx' := List.mem_of_find?_eq_some hx
  have hxw : x.onWire = true := List.find?_some hx
  have hone := h.wire
  have hmemy : y ∈ s.tx.slots.filter (·.onWire) := List.mem_filter.2 ⟨hy, hw⟩
  have hmemx : x ∈ s.tx.slots.filter (·.onWire) := List.mem_filter.2 ⟨hx', hxw⟩
  generalize s.tx.slots.filter (·.onWire) = l at hone hmemy hmemx
  match l, hone with
  | [], _ => simp at hmemx
  | [z], _ => rw [List.mem_singleton.1 hmemy, List.mem_singleton.1 hmemx]

theorem faultSlot_inner {x : Slot} (hx : sending s = some x) : KeepsInner s (faultSlot x s) := by
  unfold faultSlot
  split
  · exact (freeSlot_inner s).trans (post_inner _ _)
  · rename_i hfew
    refine keeps_tx fun h => ?_
    refine h.mapSlots (g := fun x => if x.onWire then { x with faults := x.faults + 1, onWire := false } else x) (fun y => ?_)
      (fun y hy => ?_) (fun y hy => ?_) (fun y => ?_)
    · split <;> rfl
    · split
      · exact ⟨hy.1, Nat.lt_or_ge 3 _ |>.symm⟩
      · exact ⟨hy.1, .inl hy.2⟩
    · split
      · rename_i hw
        rw [onWire_unique h hx y hy hw]
        dsimp only
        omega
      · exact (h.slots y hy).2
    · split
      · exact fun h => absurd h (by simp)
      · exact id

theorem beginFirst_cases (c : Nat) (l : List Slot) : beginFirst c l = l ∨
    ∃ a x b, l = a ++ x :: b ∧ beginFirst c l = a ++ { x with begun := true, onWire := true } :: b := by
  induction l with
  | nil => exact .inl rfl
  | cons y l ih =>
    unfold beginFirst
    split
    · exact .inr ⟨[], y, l, rfl, rfl⟩
    · rcases ih with h | ⟨a, x, b, hl, h⟩
      · exact .inl (by rw [h])
      · exact .inr ⟨y :: a, x, b, by rw [hl]; rfl, by rw [h]; rfl⟩

theorem startSending_inner (s : State) : KeepsInner s (startSending s) := by
  unfold startSending
  split
  · rename_i hready
    refine keeps_tx fun ⟨h1, h2, h3, h4, h5⟩ => ?_
    have hidle : s.tx.slots.filter (·.onWire) = [] := by
      simp only [readyToSend, Bool.and_eq_true, Bool.not_eq_true', driving] at hready
      refine List.filter_eq_nil_iff.2 fun x hx hw => ?_
      exact absurd hready.1.1.2 (by rw [Bool.not_eq_false]; exact List.any_eq_true.2 ⟨x, hx, hw⟩)
    rcases beginFirst_cases (lowestClass s.tx.slots) s.tx.slots with h | ⟨a, x, b, hl, h⟩
    · exact ⟨by dsimp only; rw [h]; exact h1, by dsimp only; rw [h]; exact h2, by dsimp only; rw [h]; exact h3,
        by dsimp only; rw [h]; exact h4, h5⟩
    · dsimp only
      rw [hl] at h1 h2 h3 hidle
      rw [h]
      have hparts : a.filter (·.onWire) = [] ∧ b.filter (·.onWire) = [] := by
        rw [List.filter_append, List.append_eq_nil_iff] at hidle
        refine ⟨hidle.1, ?_⟩
        have := hidle.2
        rw [List.filter_cons] at this
        split at this
        · simp at this
        · exact this
      refine ⟨by simpa using h1, ?_, fun y hy => ?_, ?_, h5⟩
      · have hlow : lowCount (a ++ { x with begun := true, onWire := true } :: b) = lowCount (a ++ x :: b) := by
          have hcons : ∀ y : Slot, lowCount (y :: b) = (if kindClass y.frame.kind != 0 then 1 else 0) + lowCount b := fun y => by
            unfold lowCount
            rw [List.filter_cons]
            split
            · rw [List.length_cons, Nat.add_comm]
            · rw [Nat.zero_add]
          rw [lowCount_append, lowCount_append, hcons, hcons]
        rw [hlow]; exact h2
      · rcases List.mem_append.1 hy with hy | hy
        · exact h3 y (List.mem_append_left _ hy)
        · rcases List.mem_cons.1 hy with rfl | hy
          · exact h3 x (by simp)
          · exact h3 y (by simp [hy])
      · simp [List.filter_append, hparts.1, hparts.2]
  · exact .refl s

/-! ## The receive queue (R152, R179) -/

theorem settleRx_inner (s : State) : KeepsInner s (settleRx s) :=
  keeps_rx (Nat.le_trans (List.dropWhile_sublist _).length_le)

theorem enqueueRx_inner (f : Frame) (s : State) : KeepsInner s (enqueueRx f s) := by
  unfold enqueueRx
  split
  · rename_i hroom
    exact (keeps_rx (l := s.rx ++ [f]) fun _ => by rw [List.length_append]; exact hroom).trans (settleRx_inner _)
  · exact keeps_link fun ⟨h1, h2, h3⟩ => ⟨h1, h2, h3⟩

end

end Sys2Proof.Machine
end

section
/-! What a row may do: parts kept, and at most one move of the station state, one configuration taken or one tab opened. -/

namespace Sys2Proof.Machine

/-- What one command or event that is not a reset leaves true: the moves of the station state, and every invariant of the block. -/
structure Row (c : Instr) (s t : State) : Prop where
  moves : stateMoves s.station.state t.station.state = true
  number : t.station.number = s.station.number
  inReset : t.station.inReset = s.station.inReset
  pending : t.pending = s.pending
  cfg : t.cfg = s.cfg ∨ (s.station.state = .offline ∧ t.station.state = .configured ∧ ∃ q, c = .configure q)
  finals : ∀ tab line st, lineState s tab line = some st → st.final = true → findTab t tab = none ∨ lineState t tab line = some st
  capacities : CapacitiesHold s → CapacitiesHold t
  keys : KeysDistinct s → KeysDistinct t
  tabs : KeysDistinct s → TabsCurrent s → TabsCurrent t
  splits : SplitsSound s → SplitsSound t
  directory : DirectorySound s → DirectorySound t
  kitchen : KitchenSound s → KitchenSound t
  balance : PortionsBalance s → PortionsBalance t

/-! ## The invariants from their parts -/

section
variable {s t u v : State}

theorem tabKeys_of_keysDistinct (h : KeysDistinct s) : TabKeys s.tabs := ⟨h.tabs, h.tabRange⟩

theorem Keeps.directory (h : Keeps s t) (hs : DirectorySound s) : DirectorySound t :=
  directorySound_iff.2 (h.dir (directorySound_iff.1 hs))

theorem Keeps.capacities (h : Keeps s t) (hs : CapacitiesHold s) : CapacitiesHold t := by
  have hport := h.port ⟨hs.link, hs.money, hs.kitchenNotices, hs.peers⟩
  have htx := h.tx ⟨hs.transmit, hs.transmitLow, hs.slots, hs.wire, hs.dropped⟩
  have hlink := h.toKeepsBlocks.link ⟨hs.disagree, hs.errorsA, hs.errorsB⟩
  have htakings := h.takings ⟨hs.period, hs.span, hs.accums, hs.captures⟩
  exact ⟨hport.link, hport.money, hport.kitchen, hport.peers, htx.transmit, htx.low, htx.slots, htx.wire, h.rx hs.receive,
    h.exch hs.exchanges, Nat.le_trans h.tabCount hs.tabs, h.tickets hs.tickets, h.voids hs.voids, h.claims hs.claims,
    h.kitchenCount hs.kitchen, h.portions hs.portions, h.stock hs.stock, h.directory hs.directory, h.loads hs.loads, htx.dropped,
    hlink.disagree, hlink.errorsA, hlink.errorsB, htakings.period, htakings.span, htakings.accums, htakings.captures⟩

theorem Keeps.keys (h : Keeps s t) (hs : KeysDistinct s) : KeysDistinct t := by
  have htabs := h.tabKeys (tabKeys_of_keysDistinct hs)
  have htickets := h.ticketKeys ⟨hs.tickets, hs.ticketRange, hs.counter⟩
  have hexch := h.exchKeys ⟨hs.entries, hs.tags, hs.tagRange, hs.tagCounter⟩
  exact ⟨htabs.tabs, htabs.range, htickets.tickets, htickets.range, htickets.counter, h.claimKeys hs.claims, h.portionKeys hs.portions,
    h.stockKeys hs.stock, hexch.entries, hexch.tags, hexch.tagRange, hexch.tagCounter⟩

theorem stateMoves_refl (a : StationState) : stateMoves a a = true := by cases a <;> rfl

theorem Keeps.row (c : Instr) (h : Keeps s t) : Row c s t where
  moves := by rw [h.state]; exact stateMoves_refl _
  number := h.number
  inReset := h.inReset
  pending := h.pending
  cfg := .inl h.cfg
  finals := h.finals
  capacities := h.capacities
  keys := h.keys
  tabs hk := h.tabsCurrent (tabKeys_of_keysDistinct hk)
  splits := h.splits
  directory := h.directory
  kitchen := h.kitchen
  balance := h.balance

theorem KeepsInner.row (c : Instr) (h : KeepsInner s t) : Row c s t := h.toKeeps.row c

theorem Row.followedBy {c : Instr} (h : Row c s u) (k : Keeps u t) : Row c s t where
  moves := by rw [k.state]; exact h.moves
  number := k.number.trans h.number
  inReset := k.inReset.trans h.inReset
  pending := k.pending.trans h.pending
  cfg := by rw [k.cfg, k.state]; exact h.cfg
  finals tab line st hs hf :=
    (h.finals tab line st hs hf).elim (fun hn => .inl (k.noTab tab hn)) fun hu => k.finals tab line st hu hf
  capacities := k.capacities ∘ h.capacities
  keys := k.keys ∘ h.keys
  tabs hk ht := k.tabsCurrent (tabKeys_of_keysDistinct (h.keys hk)) (h.tabs hk ht)
  splits := k.splits ∘ h.splits
  directory := k.directory ∘ h.directory
  kitchen := k.kitchen ∘ h.kitchen
  balance := k.balance ∘ h.balance

/-! ## A move of the station state -/

/-- The station moves along the chapter's moves, with its clock and timers as the move sets them; nothing else changes. -/
structure Moves (u v : State) : Prop where
  records : ∃ st clock online joinWindow isolation, v = { u with
    station := { u.station with
      state := st, clock := clock, online := online, joinWindow := joinWindow, isolation := isolation } }
  moves : stateMoves u.station.state v.station.state = true
  leaves : u.station.state ≠ .offline
  enters : v.station.state ≠ .offline

theorem Keeps.andMoves (c : Instr) (h : Keeps s u) (m : Moves u v) : Row c s v := by
  obtain ⟨⟨st, clock, online, jw, iso, rfl⟩, hm, hl, he⟩ := m
  exact
    { moves := by rw [← h.state]; exact hm
      number := h.number
      inReset := h.inReset
      pending := h.pending
      cfg := .inl h.cfg
      finals := h.finals
      capacities := fun hs =>
        have hu := h.capacities hs
        have hd := directorySound_iff.1 hu.directory
        { hu with directory := directorySound_iff.2 hd }
      keys := fun hs => { h.keys hs with }
      tabs := fun hk ht => { h.tabsCurrent (tabKeys_of_keysDistinct hk) ht with offline := fun ho => absurd ho he }
      splits := fun hs => { h.splits hs with station := fun _ => (h.splits hs).station hl }
      directory := fun hs =>
        have hd := directorySound_iff.1 (h.directory hs)
        directorySound_iff.2 hd
      kitchen := fun hs => { h.kitchen hs with offline := fun ho => absurd ho he }
      balance := fun hs => { h.balance hs with kitchen := { (h.balance hs).kitchen with offline := fun ho => absurd ho he } } }

/-! ## The lanes (R140, R146 to R150) -/

theorem rx_setRx_errors {l : Link} {r : Receiver} (lane : Lane) (h : LinkFits l) (hr : r.errors ≤ 255) : LinkFits (l.setRx r lane) := by
  obtain ⟨h1, h2, h3⟩ := h
  cases lane
  · exact ⟨h1, hr, h3⟩
  · exact ⟨h1, h2, hr⟩

theorem errors_rx {l : Link} (h : LinkFits l) (lane : Lane) : (l.rx lane).errors ≤ 255 := by
  cases lane
  · exact h.errorsA
  · exact h.errorsB

theorem modRx_inner {lane : Lane} {f : Receiver → Receiver} (hf : (s.link.rx lane).errors ≤ 255 → (f (s.link.rx lane)).errors ≤ 255) :
    KeepsInner s (modRx lane f s) := keeps_link fun h => rx_setRx_errors lane h (hf (errors_rx h lane))

theorem seeTag_inner (lane : Lane) (tag : Option Lane) (s : State) : KeepsInner s (seeTag lane tag s) := by
  have seen : KeepsInner s (modRx lane (fun r => { r with tagSeen := tag }) s) := modRx_inner id
  exact .ite seen (seen.trans (post_inner _ _))

/-- The station's timers are set as `watchLanes` sets them, or ISOLATED ends. -/
theorem watchLanes_cases (s : State) : KeepsInner s (watchLanes s) ∨
    s.station.state = .isolated ∧ ∃ v, Moves s v ∧ KeepsInner v (watchLanes s) := by
  unfold watchLanes
  split
  · exact .inl (.ite (keeps_timers s.station.clock s.station.online s.station.joinWindow _)
      (keeps_timers s.station.clock s.station.online s.station.joinWindow _))
  · rename_i hst
    split
    · refine .inr ⟨hst, _, ⟨⟨.online, s.station.clock, s.station.online, s.station.joinWindow, none, rfl⟩, ?_, ?_, ?_⟩, post_inner _ _⟩
      · rw [hst]; rfl
      · rw [hst]; decide
      · exact fun hno => nomatch hno
    · exact .inl (.refl s)
  · exact .inl (.refl s)

/-- A receiver's move before the station is watched. -/
theorem laneMoved_inner (lane : Lane) (st : RxState) (s : State) :
    KeepsInner s (post (.laneState lane (s.link.rx lane).state st) { s with link := s.link.setRx ((s.link.rx lane).enter st) lane }) :=
  (keeps_link fun h => rx_setRx_errors (r := (s.link.rx lane).enter st) lane h (errors_rx h lane)).trans (post_inner _ _)

theorem moveLane_inner {lane : Lane} {st : RxState} (h : s.station.state ≠ .isolated) : KeepsInner s (moveLane lane st s) := by
  have moved := laneMoved_inner lane st s
  refine .ite (.refl s) (moved.trans ?_)
  rcases watchLanes_cases (post (.laneState lane (s.link.rx lane).state st)
    { s with link := s.link.setRx ((s.link.rx lane).enter st) lane }) with hw | ⟨hst, -⟩
  · exact hw
  · exact absurd (moved.state ▸ hst) h

theorem moveLane_row (c : Instr) (h : Keeps s u) (lane : Lane) (st : RxState) : Row c s (moveLane lane st u) := by
  unfold moveLane
  dsimp only
  split
  · exact h.row c
  · have moved := h.trans (laneMoved_inner lane st u).toKeeps
    rcases watchLanes_cases (post (.laneState lane (u.link.rx lane).state st)
      { u with link := u.link.setRx ((u.link.rx lane).enter st) lane }) with hw | ⟨-, v, hm, hw⟩
    · exact (moved.trans hw.toKeeps).row c
    · exact (moved.andMoves c hm).followedBy hw.toKeeps

theorem Row.ite {c : Instr} {p : Prop} [Decidable p] {a b : State} (ha : Row c s a) (hb : Row c s b) : Row c s (if p then a else b) := by
  split
  · exact ha
  · exact hb

/-! ## A frame at a receiver (R143, R147, R150, R151) -/

theorem enterDuplicate_row (c : Instr) (h : Keeps s u)
    (hst : u.station.state = .joining ∨ u.station.state = .online ∨ u.station.state = .isolated) : Row c s (enterDuplicate u) := by
  have silent : Keeps s { emptyTx u with rx := [] } :=
    h.trans ((emptyTx_inner u).trans (keeps_rx (l := []) fun _ => Nat.zero_le _)).toKeeps
  have moved : Moves { emptyTx u with rx := [] } { emptyTx u with
      rx := []
      station := { (emptyTx u).station with state := .duplicate, joinWindow := none, isolation := none } } := by
    refine ⟨⟨.duplicate, u.station.clock, u.station.online, none, none, rfl⟩, ?_, ?_, fun hno => nomatch hno⟩
    · show stateMoves u.station.state .duplicate = true
      rcases hst with h | h | h <;> rw [h] <;> rfl
    · show u.station.state ≠ .offline
      rcases hst with h | h | h <;> rw [h] <;> decide
  refine (silent.andMoves c moved).followedBy ((keeps_beacon { (emptyTx u).beacon with interval := none }).trans (post_inner _ _)).toKeeps

theorem refreshSource_kept {f : Frame} (h : f.source ≠ own s) : Keeps s (refreshSource f s) := by
  unfold refreshSource
  split
  · rename_i hk
    exact refreshPeer_kept _ fun _ => ⟨hk, h⟩
  · exact .refl s

theorem acceptFrame_row (c : Instr) (h : Keeps s u) (f : Frame) : Row c s (acceptFrame f u) := by
  have heard : ∀ st, u.station.state = st → (st = .joining ∨ st = .online ∨ st = .isolated) →
      Row c s (if f.source = own u then enterDuplicate u
        else if addressedHere u f && keptByState u f then enqueueRx f (refreshSource f u) else refreshSource f u) := by
    intro st hst hany
    split
    · exact enterDuplicate_row c h (hst ▸ hany)
    · rename_i hother
      have refreshed := h.trans (refreshSource_kept hother)
      exact .ite ((refreshed.trans (enqueueRx_inner f _).toKeeps).row c) (refreshed.row c)
  unfold acceptFrame
  split
  · exact h.row c
  · exact h.row c
  · exact h.row c
  · exact .ite ((h.trans (enqueueRx_inner f _).toKeeps).row c) (h.row c)
  · rename_i hst; exact heard _ hst (.inl rfl)
  · rename_i hst; exact heard _ hst (.inr (.inl rfl))
  · rename_i hst; exact heard _ hst (.inr (.inr rfl))

theorem merge_row (c : Instr) (h : Keeps s u) (lane : Lane) (r : Reception) : Row c s (merge lane r u) := by
  unfold merge
  split
  · have closed : KeepsInner u (modRx lane.other (fun x => { x with window := none }) u) := modRx_inner id
    refine .ite ((h.trans closed.toKeeps).row c) ((h.trans (closed.trans (keeps_link fun hl => ?_)).toKeeps).row c)
    exact ⟨Nat.min_le_right _ _, hl.errorsA, hl.errorsB⟩
  · have opened : KeepsInner u (modRx lane (fun x => { x with window := some r.check }) u) := modRx_inner id
    exact acceptFrame_row c (h.trans opened.toKeeps) r.frame

theorem malformed_errors {r : Receiver} (h : r.errors ≤ 255) :
    (if r.state = .locked then min (r.errors + 1) 255 else r.errors) ≤ 255 := by
  split
  · exact Nat.min_le_right _ _
  · exact h

theorem takeMalformed_row (c : Instr) (h : Keeps s u) (lane : Lane) : Row c s (takeMalformed lane u) := by
  unfold takeMalformed
  dsimp only
  refine .ite (moveLane_row c (h.trans (modRx_inner fun he => ?_).toKeeps) lane .hunt) ((h.trans (modRx_inner fun he => ?_).toKeeps).row c)
  · exact malformed_errors he
  · exact malformed_errors he

theorem takeWellFormed_row (c : Instr) (h : Keeps s u) (lane : Lane) (rc : Reception) : Row c s (takeWellFormed lane rc u) := by
  unfold takeWellFormed
  dsimp only
  have counted : KeepsInner u (modRx lane (fun r => { r with goodRun := r.goodRun + 1, badRun := 0 }) u) := modRx_inner id
  generalize modRx lane (fun r => { r with goodRun := r.goodRun + 1, badRun := 0 }) u = w at counted
  by_cases hlocked : (u.link.rx lane).state = .locked
  · have hnot : ¬(movesMade u = true ∧ (u.link.rx lane).state = .hunt ∧ u.cfg.lockCount ≤ (u.link.rx lane).goodRun + 1) := by
      rintro ⟨-, hhunt, -⟩
      rw [hlocked] at hhunt
      exact absurd hhunt (by decide)
    rw [if_neg hnot]
    have tagged := h.trans (counted.trans (seeTag_inner lane (some rc.tag) w)).toKeeps
    exact .ite (merge_row c tagged lane rc) (tagged.row c)
  · rw [if_neg (fun hm => hlocked hm.1)]
    exact (Row.ite (moveLane_row c (h.trans counted.toKeeps) lane .locked) ((h.trans counted.toKeeps).row c)).followedBy
      (seeTag_inner lane _ _).toKeeps

theorem frameAt_row (c : Instr) (h : Keeps s u) (lane : Lane) (bits : List Bool) : Row c s (frameAt lane bits u) := by
  unfold frameAt
  split
  · exact h.row c
  · exact h.row c
  · split
    · exact takeWellFormed_row c h lane _
    · exact takeMalformed_row c h lane
  · split
    · exact takeWellFormed_row c h lane _
    · exact takeMalformed_row c h lane

/-! ## LOOPBACK (R137): no receiver moves and no peer is heard -/

theorem acceptFrame_loopback {f : Frame} (h : s.station.state = .loopback) : KeepsInner s (acceptFrame f s) := by
  unfold acceptFrame
  rw [h]
  exact .ite (enqueueRx_inner f s) (.refl s)

theorem takeMalformed_loopback {lane : Lane} (h : s.station.state = .loopback) : KeepsInner s (takeMalformed lane s) := by
  unfold takeMalformed
  dsimp only
  rw [if_neg (fun hm => by simp [movesMade, h] at hm)]
  exact modRx_inner fun he => malformed_errors he

theorem merge_loopback {lane : Lane} {r : Reception} (h : s.station.state = .loopback) : KeepsInner s (merge lane r s) := by
  unfold merge
  split
  · have closed : KeepsInner s (modRx lane.other (fun x => { x with window := none }) s) := modRx_inner id
    refine .ite closed (closed.trans (keeps_link fun hl => ?_))
    exact ⟨Nat.min_le_right _ _, hl.errorsA, hl.errorsB⟩
  · have opened : KeepsInner s (modRx lane (fun x => { x with window := some r.check }) s) := modRx_inner id
    exact opened.trans (acceptFrame_loopback (opened.state.trans h))

theorem takeWellFormed_loopback {lane : Lane} {rc : Reception} (h : s.station.state = .loopback) :
    KeepsInner s (takeWellFormed lane rc s) := by
  unfold takeWellFormed
  dsimp only
  have still : ¬(movesMade s = true ∧ (s.link.rx lane).state = .hunt ∧ s.cfg.lockCount ≤ (s.link.rx lane).goodRun + 1) := fun hm => by
    simp [movesMade, h] at hm
  rw [if_neg still]
  have counted : KeepsInner s (modRx lane (fun r => { r with goodRun := r.goodRun + 1, badRun := 0 }) s) := modRx_inner id
  have tagged := counted.trans (seeTag_inner lane (some rc.tag) _)
  exact .ite (tagged.trans (merge_loopback (tagged.state.trans h))) tagged

theorem frameAt_loopback {lane : Lane} {bits : List Bool} (h : s.station.state = .loopback) : KeepsInner s (frameAt lane bits s) := by
  unfold frameAt
  split
  · exact .refl s
  · exact .refl s
  · split
    · exact takeWellFormed_loopback h
    · exact takeMalformed_loopback h
  · split
    · exact takeWellFormed_loopback h
    · exact takeMalformed_loopback h

theorem loopBroken_inner (s : State) : KeepsInner s (loopBroken s) := by
  unfold loopBroken
  split
  · rename_i h
    have first := takeMalformed_loopback (lane := .A) h
    exact first.trans (takeMalformed_loopback (first.state.trans h))
  · exact .refl s

theorem takeFault_inner (s : State) : KeepsInner s (takeFault s) := by
  unfold takeFault
  split
  · rename_i x hx
    exact (faultSlot_inner hx).trans (loopBroken_inner _)
  · exact .refl s

theorem loopFrame_inner (x : Slot) (s : State) : KeepsInner s (loopFrame x s) := by
  unfold loopFrame
  split
  · rename_i h
    have first := frameAt_loopback (lane := .A) (bits := wireBits .A (own s) x.age x.frame) h
    exact first.trans (frameAt_loopback (first.state.trans h))
  · exact .refl s

theorem completeSending_inner (s : State) : KeepsInner s (completeSending s) := by
  unfold completeSending
  split
  · exact (freeSlot_inner s).trans ((KeepsInner.ite (keeps_beacon _) (.refl _)).trans (loopFrame_inner _ _))
  · exact .refl s

end

end Sys2Proof.Machine
end

section
/-! Every command and event that is not a reset runs, and leaves what `Row` says: the bodies of the rows, event by event. -/

namespace Sys2Proof.Machine

/-- An outcome that is a next state, with what a row leaves true of it. -/
def Runs (c : Instr) (s : State) (o : Host.Outcome State Fault Refusal) : Prop := ∃ t, o = .next t ∧ Row c s t

section
variable {s t u : State} {c : Instr}

/-! ## Events and commands -/

theorem event_runs_row {body : State → State} (h : Row c s (body s)) : Runs c s (event body s) := by
  unfold event
  split
  · exact ⟨s, rfl, (Keeps.refl s).row c⟩
  · exact ⟨_, rfl, h.followedBy (endEvent_kept _ _)⟩

theorem carryOut_runs_row {body : Body} (h : Row c s (body s).2) : Runs c s (carryOut c body s) := by
  unfold carryOut
  split
  · exact ⟨_, rfl, (h.followedBy (setAnswer_inner c _ _).toKeeps).followedBy (endEvent_kept _ _)⟩
  · exact ⟨s, rfl, (Keeps.refl s).row c⟩

theorem event_kept {body : State → State} (h : Keeps s (body s)) : Runs c s (event body s) := event_runs_row (h.row c)

theorem event_inner {body : State → State} (h : KeepsInner s (body s)) : Runs c s (event body s) := event_kept h.toKeeps

theorem carryOut_kept {body : Body} (h : Keeps s (body s).2) : Runs c s (carryOut c body s) := carryOut_runs_row (h.row c)

theorem needRole_kept {role : Option Role} {body : Body} (h : Keeps s (body s).2) : Keeps s (needRole role body s).2 := by
  unfold needRole
  split
  · exact h
  · split
    · exact h
    · exact .refl s

theorem job_kept {role : Option Role} {body : Body} (h : inService s = true → Keeps s (body s).2) : Keeps s (job role body s).2 := by
  unfold job
  split
  · rename_i hs
    exact needRole_kept (h hs)
  · exact .refl s

theorem job_inner {role : Option Role} {body : Body} (h : inService s = true → KeepsInner s (body s).2) : Keeps s (job role body s).2 :=
  job_kept fun hs => (h hs).toKeeps

theorem readCommand_kept {role : Option Role} {body : Body} (h : Keeps s (body s).2) : Keeps s (readCommand role body s).2 := by
  unfold readCommand
  split
  · exact .refl s
  · exact needRole_kept h

theorem modPort_inner {f : Port → Port} (h : PortFits s.port → PortFits (f s.port)) : KeepsInner s (modPort f s) := keeps_port h

theorem fillSnapshot_inner (kind : Nat) (fields bytes : Bytes) (s : State) : KeepsInner s (fillSnapshot kind fields bytes s).2 :=
  keeps_port fun ⟨h1, h2, h3, h4⟩ => ⟨h1, h2, h3, h4⟩

theorem snapshot_kept {role : Option Role} (kind : Nat) (fields bytes : State → Bytes) :
    Keeps s (readCommand role (fun s => fillSnapshot kind (fields s) (bytes s) s) s).2 :=
  readCommand_kept (fillSnapshot_inner kind (fields s) (bytes s) s).toKeeps

/-! ## Frames -/

theorem deliver_kept {kind : Nat} {block : Frame → State → State} (h : ∀ f u, deliverable f = true → Keeps u (block f u)) :
    Keeps s (deliver kind block s) := by
  unfold deliver
  split
  · exact .refl s
  · rename_i f rest hrx
    have popped : Keeps s { s with rx := rest } := (keeps_rx fun hfits => by
      rw [hrx, List.length_cons] at hfits
      exact Nat.le_of_succ_le hfits).toKeeps
    split
    · dsimp only
      split
      · rename_i hf
        exact popped.trans ((h f _ hf).trans (settleRx_inner _).toKeeps)
      · exact popped.trans (settleRx_inner _).toKeeps
    · exact .refl s

theorem sendAnswer_answering (f : Frame) (subject share : Nat) :
    Answering.Inner fun r s => sendAnswer f.source f.kind f.tag subject share r s := fun r s => sendAnswer_inner _ _ _ _ _ r s

theorem serve_kept {role : Role} {f : Frame} {subject share : Nat} {block : Answering → State → State}
    (h : ∀ ans, Answering.Inner ans → inService s = true → Keeps s (block ans s)) : Keeps s (serve role f subject share block s) := by
  unfold serve
  split
  · exact .refl s
  · rename_i hs
    split
    · exact h _ (sendAnswer_answering f subject share) (by simpa using hs)
    · exact (sendAnswer_inner _ _ _ _ _ _ s).toKeeps

theorem request_kept {α : Type} {kind : Nat} {r : Reader α} {role : Role} {subject share : α → Nat}
    {block : Frame → α → Answering → State → State}
    (h : ∀ f a ans u, deliverable f = true → Answering.Inner ans → inService u = true → Keeps u (block f a ans u)) :
    Keeps s (request kind r role subject share block s) := by
  refine deliver_kept fun f u hf => ?_
  split
  · exact serve_kept fun ans ha hs => h f _ ans u hf ha hs
  · exact .refl u

theorem answering_inner {b : Body} {ans : Answering} (ha : ans.Inner) (h : KeepsInner u (b u).2) : KeepsInner u (answering b ans u) :=
  h.trans (ha _ _)

theorem isStation_of_deliverable {f : Frame} (h : deliverable f = true) : isStation f.source = true := by
  simp only [deliverable, Bool.and_eq_true] at h
  obtain ⟨⟨⟨⟨⟨⟨hsource, -⟩, -⟩, -⟩, -⟩, -⟩, -⟩ := h
  exact hsource

theorem not_offline_of_inService (h : inService s = true) : s.station.state ≠ .offline := by
  intro ho
  simp [inService, ho] at h

theorem isStation_own (h : inService s = true) (hs : SplitsSound s) : isStation (own s) = true :=
  hs.station (not_offline_of_inService h)

/-! ## The local port -/

theorem portFits_congr {p q : Port} (h1 : q.link = p.link) (h2 : q.money = p.money) (h3 : q.kitchen = p.kitchen) (h4 : q.peers = p.peers)
    (h : PortFits p) : PortFits q :=
  ⟨h1 ▸ h.link, h2 ▸ h.money, h3 ▸ h.kitchen, h4 ▸ h.peers⟩

theorem takeCommand_inner (code : Nat) (params : Bytes) (s : State) : KeepsInner s (takeCommand code params s) := by
  unfold takeCommand
  split
  · exact modPort_inner (portFits_congr rfl rfl rfl rfl)
  · exact modPort_inner (portFits_congr rfl rfl rfl rfl)
  · exact modPort_inner (portFits_congr rfl rfl rfl rfl)

theorem transaction_inner (pdi : Bytes) (s : State) : KeepsInner s (transaction pdi s) := by
  have settled : KeepsInner s (modPort (fun p =>
      { p with pdo := shiftedOut p.answer pdi.length, answer := if answerRead s.port.answer pdi.length then none else p.answer }) s) :=
    modPort_inner (portFits_congr rfl rfl rfl rfl)
  unfold transaction
  dsimp only
  split
  · exact .ite settled (settled.trans (takeCommand_inner _ _ _))
  · exact settled

theorem clearStatus_inner (s : State) : KeepsInner s (clearStatus s) :=
  (keeps_link (l := { s.link with a := { s.link.a with changed := false }, b := { s.link.b with changed := false }, overrun := false })
    fun ⟨h1, h2, h3⟩ => ⟨h1, h2, h3⟩).trans (keeps_port (portFits_congr rfl rfl rfl rfl))

theorem popNotice_fits {p q : Port} {n : Notice} (h : popNotice p = some (n, q)) (hp : PortFits p) : PortFits q := by
  obtain ⟨h1, h2, h3, h4⟩ := hp
  unfold popNotice at h
  split at h
  · rename_i hl
    obtain ⟨-, rfl⟩ : _ = n ∧ _ = q := by simpa using h
    rw [hl] at h1
    exact ⟨Nat.le_of_succ_le h1, h2, h3, h4⟩
  · split at h
    · rename_i hl
      obtain ⟨-, rfl⟩ : _ = n ∧ _ = q := by simpa using h
      rw [hl] at h2
      exact ⟨h1, Nat.le_of_succ_le h2, h3, h4⟩
    · split at h
      · rename_i hl
        obtain ⟨-, rfl⟩ : _ = n ∧ _ = q := by simpa using h
        rw [hl] at h3
        exact ⟨h1, h2, Nat.le_of_succ_le h3, h4⟩
      · split at h
        · rename_i hl
          obtain ⟨-, rfl⟩ : _ = n ∧ _ = q := by simpa using h
          rw [hl] at h4
          exact ⟨h1, h2, h3, Nat.le_of_succ_le h4⟩
        · exact nomatch h

theorem nextNotice_inner (s : State) : KeepsInner s (nextNoticeBody s).2 := by
  unfold nextNoticeBody
  split
  · rename_i hpop
    exact keeps_port (popNotice_fits hpop)
  · exact .refl s

theorem readPageBody_kept (offset length : Nat) : Keeps s (readPageBody offset length s).2 := by
  refine readCommand_kept ?_
  split
  · exact .refl s
  · split
    · exact .refl s
    · exact .refl s

/-! ## Takings (R56 to R60) -/

theorem pinEdge_inner (s : State) : KeepsInner s (pinEdge s) := by
  unfold pinEdge
  split
  · exact (localAdvance_inner s).trans (keeps_takings fun ⟨h1, h2, h3, h4⟩ => ⟨h1, h2, h3, h4⟩)
  · exact .refl s

theorem lockoutExpiry_inner (s : State) : KeepsInner s (lockoutExpiry s) :=
  .ite (.refl s) (keeps_takings fun ⟨h1, h2, h3, h4⟩ => ⟨h1, h2, h3, h4⟩)

theorem readCaptureBody_kept (slot : Nat) : Keeps s (readCaptureBody slot s).2 := by
  refine readCommand_kept ?_
  split
  · exact .refl s
  · split
    · exact (fillSnapshot_inner 3 [] _ s).toKeeps
    · exact .refl s

theorem TakingsFit.freed {t : Takings} (h : TakingsFit t) (n : Nat) : TakingsFit (t.freeSlot n) := by
  obtain ⟨h1, h2, h3, h4⟩ := h
  unfold Takings.freeSlot
  split
  · exact ⟨h1, h2, h3, fun c hc => h4 c (.inr (hc.resolve_left fun hn => nomatch hn))⟩
  · exact ⟨h1, h2, h3, fun c hc => h4 c (.inl (hc.resolve_right fun hn => nomatch hn))⟩

theorem releaseCaptureBody_kept (slot : Nat) : Keeps s (releaseCaptureBody slot s).2 := by
  refine readCommand_kept ?_
  split
  · exact .refl s
  · split
    · exact (keeps_takings fun h => h.freed slot).toKeeps
    · exact .refl s

/-! ## Peers -/

theorem takeBeaconFrame_kept (s : State) : Keeps s (takeBeaconFrame s) := by
  refine deliver_kept fun f u _ => ?_
  split
  · rename_i b _
    split
    · have recorded := takeBeacon_kept f.source b u
      dsimp only
      split
      · rename_i hp
        exact recorded.trans (heardPeriod_inner hp _).toKeeps
      · exact recorded
    · exact .refl u
  · exact .refl u

theorem notePeriod_inner (k n : Nat) (s : State) : KeepsInner s (modPeer k (fun p => { p with period := some n }) s) := by
  refine mapPeers_inner (g := fun p => if p.station == k then { p with period := some n } else p) (fun p => ?_) (fun p => ?_)
    (fun p => ?_) (fun p h => ?_) (fun p h => ?_) <;> split
  · rfl
  · rfl
  · rfl
  · rfl
  · rfl
  · rfl
  · exact h
  · exact h
  · exact h
  · exact h

theorem takePeriodFrame_kept (s : State) : Keeps s (takePeriodFrame s) := by
  refine deliver_kept fun f u _ => ?_
  split
  · rename_i n _
    split
    · rename_i hc
      have hn : n ≤ Config.maxPeriod := by
        simp only [Bool.and_eq_true, decide_eq_true_eq] at hc
        exact hc.2
      exact ((notePeriod_inner f.source n u).trans (heardPeriod_inner hn _)).toKeeps
    · exact .refl u
  · exact .refl u

theorem silenceExpiry_inner (k : Nat) (s : State) : KeepsInner s (silenceExpiry k s) := by
  unfold silenceExpiry
  split
  · exact .refl s
  · split
    · rename_i p hp
      split
      · rename_i h
        exact losePeer_inner hp h.1
      · exact .refl s
    · exact .refl s

theorem intervalExpiry_inner (s : State) : KeepsInner s (intervalExpiry s) := .ite (genBeacon_inner s) (.refl s)

theorem holdOffEnd_inner (s : State) : KeepsInner s (holdOffEnd s) := by
  unfold holdOffEnd
  split
  · have lapsed := keeps_beacon (s := s) { s.beacon with holdOff := none, due := false }
    exact .ite (lapsed.trans (genBeacon_inner _)) lapsed
  · exact .refl s

/-! ## Routing -/

theorem retryBody_kept (ticket : Nat) : Keeps s (retryBody ticket s).2 := by
  refine job_inner fun _ => ?_
  split
  · exact .refl s
  · split
    · exact (modTicket_inner (fun _ => by exact fun h => h) s).trans (moveFrom_inner (by decide) (by decide) _)
    · exact .refl s

theorem refreshBody_kept (ticket : Nat) : Keeps s (refreshBody ticket s).2 := by
  refine job_inner fun _ => ?_
  split
  · exact .refl s
  · split
    · split
      · exact refreshOwn_inner ticket s
      · exact refreshPeerAt_inner ticket _ s
    · exact .refl s

theorem abandonBody_kept (ticket : Nat) : Keeps s (abandonBody ticket s).2 := by
  refine job_inner fun _ => ?_
  split
  · exact .refl s
  · split
    · exact endTicket_inner _ (by decide) s
    · exact .refl s

theorem takeTicketState_kept (s : State) : Keeps s (takeTicketState s) := by
  refine deliver_kept fun f u _ => ?_
  split
  · exact .ite (applyReport_inner ownVoid_inner _ _ _ u).toKeeps (.refl u)
  · exact .refl u

end

end Sys2Proof.Machine
end

section
/-! The rows that move the station state, take a configuration or open a tab, and the passing of time. -/

namespace Sys2Proof.Machine

section
variable {s t u : State} {c : Instr}

/-! ## Configure (R135, R136) -/

theorem isStation_of_configureRefusal {n : Nat} {q : ConfigReq} (h : configureRefusal n q = none) : isStation n = true := by
  unfold configureRefusal at h
  split at h
  · exact nomatch h
  · rename_i hn
    simpa using hn

/-- The state a Configure in OFFLINE leaves: the tab store and the kitchen queue are empty there, so no figure of theirs turns on the
configuration. -/
theorem configured_row {q : ConfigReq} (hst : s.station.state = .offline) (hn : isStation s.station.number = true) (cfg : StationCfg) :
    Row (.configure q) s { s with cfg := cfg, station := { s.station with state := .configured } } where
  moves := by rw [hst]; rfl
  number := rfl
  inReset := rfl
  pending := rfl
  cfg := .inr ⟨hst, rfl, q, rfl⟩
  finals _ _ _ h _ := .inr h
  capacities h := { h with directory := directorySound_iff.2 (show DirSound (own s) s.dir from directorySound_iff.1 h.directory) }
  keys h := { h with }
  tabs _ h := by
    have hnone := h.offline hst
    exact
      { offline := fun ho => nomatch ho
        numbered := hnone.symm ▸ fun _ ht => nomatch ht
        fits := hnone.symm ▸ fun _ ht => nomatch ht
        current := hnone.symm ▸ fun _ ht => nomatch ht }
  splits h := { h with station := fun _ => hn }
  directory h := directorySound_iff.2 (show DirSound (own s) s.dir from directorySound_iff.1 h)
  kitchen h := configuredKitchen h
  balance h := { h with kitchen := configuredKitchen h.kitchen }
where
  configuredKitchen (h : KitchenSound s) : KitchenSound { s with cfg := cfg, station := { s.station with state := .configured } } :=
    { h with
      offline := fun ho => nomatch ho
      fired := by
        have hnone := h.offline hst
        have hfired : s.kitchen.fired = [] := by
          simp only [Kitchen.all, List.append_eq_nil_iff] at hnone
          exact hnone.1.2
        simp [hfired] }

theorem configureBody_row (q : ConfigReq) : Row (.configure q) s (configureBody q s).2 := by
  unfold configureBody
  split
  · rename_i hst
    split
    · exact (Keeps.refl s).row _
    · rename_i hnone
      exact configured_row hst (isStation_of_configureRefusal hnone) _
  · exact (Keeps.refl s).row _
  · exact (Keeps.refl s).row _

/-! ## Loopback, Join and the two timers (R137 to R140) -/

theorem noEntries_inner (s : State) : KeepsInner s { s with exch := { s.exch with entries := [] } } :=
  keeps_exch (fun _ => Nat.zero_le _) fun h => ⟨Nat.zero_le _, List.nodup_nil, (fun _ he => nomatch he), h.tagCounter⟩

theorem endTraffic_inner (s : State) : KeepsInner s (endTraffic s) :=
  (emptyTx_inner s).trans ((keeps_rx fun _ => Nat.zero_le _).trans ((noEntries_inner _).trans
    (keeps_link fun ⟨h1, h2, h3⟩ => ⟨h1, h2, h3⟩)))

theorem endTraffic_state (s : State) : (endTraffic s).station.state = s.station.state := (endTraffic_inner s).state

theorem setStation_moves {st : StationState} (hm : stateMoves s.station.state st = true) (hl : s.station.state ≠ .offline)
    (he : st ≠ .offline) : Moves s (setStation st s) :=
  ⟨⟨st, s.station.clock, s.station.online, s.station.joinWindow, s.station.isolation, rfl⟩, hm, hl, he⟩

theorem loopbackOnBody_row : Row c s (loopbackOnBody s).2 := by
  unfold loopbackOnBody
  split
  · rename_i h
    have moved : Moves (endTraffic s) (setStation .loopback (endTraffic s)) := by
      refine setStation_moves ?_ ?_ (by decide)
      · rw [endTraffic_state, h]; rfl
      · rw [endTraffic_state, h]; decide
    have first : KeepsInner (setStation .loopback (endTraffic s)) (moveLane .A .locked (setStation .loopback (endTraffic s))) :=
      moveLane_inner fun hno => nomatch hno
    have second := moveLane_inner (lane := .B) (st := .locked) (s := moveLane .A .locked (setStation .loopback (endTraffic s)))
      (by rw [first.state]; exact fun hno => nomatch hno)
    exact ((endTraffic_inner s).toKeeps.andMoves c moved).followedBy (first.trans second).toKeeps
  · exact (Keeps.refl s).row c

theorem loopbackOffBody_row : Row c s (loopbackOffBody s).2 := by
  unfold loopbackOffBody
  split
  · rename_i h
    have moved : Moves (endTraffic s) (setStation .configured (endTraffic s)) := by
      refine setStation_moves ?_ ?_ (by decide)
      · rw [endTraffic_state, h]; rfl
      · rw [endTraffic_state, h]; decide
    have first : KeepsInner (setStation .configured (endTraffic s)) (moveLane .A .hunt (setStation .configured (endTraffic s))) :=
      moveLane_inner fun hno => nomatch hno
    have second := moveLane_inner (lane := .B) (st := .hunt) (s := moveLane .A .hunt (setStation .configured (endTraffic s)))
      (by rw [first.state]; exact fun hno => nomatch hno)
    have fresh : ∀ (lane : Lane) (v : State), KeepsInner v (modRx lane (fun r => { r with silence := some Config.laneSilenceMs }) v) :=
      fun lane v => modRx_inner id
    exact ((endTraffic_inner s).toKeeps.andMoves c moved).followedBy
      (first.trans (second.trans ((fresh .A _).trans (fresh .B _)))).toKeeps
  · exact (Keeps.refl s).row c

theorem joinBody_row : Row c s (joinBody s).2 := by
  unfold joinBody
  split
  · rename_i h
    refine (Keeps.refl s).andMoves c ⟨⟨.joining, s.station.clock, s.station.online, some Config.joinWindowMs, s.station.isolation, rfl⟩,
      ?_, ?_, fun hno => nomatch hno⟩
    · rw [h]; rfl
    · rw [h]; decide
  · exact (Keeps.refl s).row c

theorem joinExpiry_row : Row c s (joinExpiry s) := by
  unfold joinExpiry
  split
  · rename_i h
    have moved : Moves s { s with station := { s.station with state := .online, online := 0, joinWindow := none } } := by
      refine ⟨⟨.online, s.station.clock, 0, none, s.station.isolation, rfl⟩, ?_, ?_, fun hno => nomatch hno⟩
      · rw [h.1]; rfl
      · rw [h.1]; decide
    have watched : KeepsInner { s with station := { s.station with state := .online, online := 0, joinWindow := none } }
        (watchLanes { s with station := { s.station with state := .online, online := 0, joinWindow := none } }) :=
      (watchLanes_cases _).resolve_right fun hno => nomatch hno.1
    exact ((Keeps.refl s).andMoves c moved).followedBy (watched.trans ((genBeacon_inner _).trans (post_inner _ _))).toKeeps
  · exact (Keeps.refl s).row c

theorem isolationExpiry_row : Row c s (isolationExpiry s) := by
  unfold isolationExpiry
  split
  · rename_i h
    have moved : Moves s { s with station := { s.station with state := .isolated, isolation := none } } := by
      refine ⟨⟨.isolated, s.station.clock, s.station.online, s.station.joinWindow, none, rfl⟩, ?_, ?_, fun hno => nomatch hno⟩
      · rw [h.1]; rfl
      · rw [h.1]; decide
    exact ((Keeps.refl s).andMoves c moved).followedBy (post_inner _ _).toKeeps
  · exact (Keeps.refl s).row c

/-! ## The lanes' rows (R144, R147, R150) -/

theorem restartLane_row (lane : Lane) : Row c s (restartLane lane s) :=
  (moveLane_row c (.refl s) lane .hunt).followedBy
    (KeepsInner.trans (modRx_inner fun _ => Nat.zero_le _) (seeTag_inner lane none _)).toKeeps

theorem laneRestartBody_row (lane : Nat) : Row c s (laneRestartBody lane s).2 := by
  unfold laneRestartBody
  split
  · exact (Keeps.refl s).row c
  · exact (Keeps.refl s).row c
  · split
    · exact restartLane_row .A
    · exact restartLane_row .B
    · exact (Keeps.refl s).row c

theorem notCarrying_inner (lane : Lane) (s : State) : KeepsInner s (modRx lane (fun r => { r with carrying := false }) s) := modRx_inner id

theorem laneActive_row (lane : Lane) : Row c s (laneActive lane s) := .ite (moveLane_row c (.refl s) lane .hunt) ((Keeps.refl s).row c)

theorem laneSilent_row (lane : Lane) : Row c s (laneSilent lane s) := .ite (moveLane_row c (.refl s) lane .down) ((Keeps.refl s).row c)

theorem laneHeld_row (lane : Lane) : Row c s (laneHeld lane s) :=
  .ite (moveLane_row c (notCarrying_inner lane s).toKeeps lane .stuck) ((Keeps.refl s).row c)

theorem laneFreed_row (lane : Lane) : Row c s (laneFreed lane s) := .ite (moveLane_row c (.refl s) lane .hunt) ((Keeps.refl s).row c)

theorem frameEnds_row (lane : Lane) (bits : List Bool) : Row c s (frameEnds lane bits s) :=
  .ite (frameAt_row c (notCarrying_inner lane s).toKeeps lane bits) ((notCarrying_inner lane s).toKeeps.row c)

theorem frameStarts_inner (lane : Lane) (s : State) : KeepsInner s (frameStarts lane s) := by
  refine .ite (modRx_inner fun he => ?_) (.refl s)
  split <;> exact he

theorem windowExpiry_inner (lane : Lane) (s : State) : KeepsInner s (windowExpiry lane s) := modRx_inner id

/-! ## Open (R2, R7) -/

theorem find_insertBy {l : List Tab} {a : Tab} {p : Tab → Bool} (h : p a = false) :
    (insertBy (·.number) a l).find? p = l.find? p := by
  induction l with
  | nil => simp [insertBy, h]
  | cons b l ih =>
    unfold insertBy
    split
    · simp [h]
    · simp only [List.find?_cons, ih]

theorem tabSound_fresh (n : Nat) (label : Bytes) (time : Nat) : (Tab.fresh n label time).Sound :=
  ⟨⟨rfl, rfl⟩, (fun _ h => nomatch h), (fun _ h => nomatch h), fun _ h => nomatch h⟩

theorem recompute_fresh (n : Nat) (label : Bytes) (time : Nat) (rates : ClassVec) :
    (Tab.fresh n label time).recompute rates = Tab.fresh n label time := by
  simp [Tab.recompute, Tab.fresh, classBase, classTax, ClassVec.ofFn, ClassVec.sum, ClassVec.get]

theorem splitsSound_opened (h : SplitsSound s) {a : Tab} (ha : a.Sound) (hst : a.state = .open) (habsent : ∀ t ∈ s.tabs, t.number ≠ a.number) :
    SplitsSound { s with tabs := insertBy (·.number) a s.tabs } := by
  have hmem : ∀ t, t ∈ insertBy (·.number) a s.tabs ↔ t = a ∨ t ∈ s.tabs := fun t => mem_insertBy _ _ _ _
  have sound : ∀ t ∈ insertBy (·.number) a s.tabs, t.Sound := fun t ht => ((hmem t).1 ht).elim (fun he => he ▸ ha) h.tab
  exact
    { station := h.station
      tabs := pairwise_insertBy _ _ _ h.tabs habsent
      fits := fun t ht => (sound t ht).fits
      numbered := fun t ht => (sound t ht).numbered
      sums := fun t ht => (sound t ht).sums
      shares := fun t ht => (sound t ht).shares
      job := fun j hj =>
        have ⟨hv, t, ht, hn, hs⟩ := h.job j hj
        ⟨hv, t, (hmem t).2 (.inr ht), hn, hs⟩
      splitting := fun t ht hs => by
        rcases (hmem t).1 ht with rfl | ht
        · rw [hst] at hs; exact nomatch hs
        · exact h.splitting t ht hs }

theorem opened_row {n : Nat} (label : Bytes) (time : Nat) (ho : s.station.state ≠ .offline) (h1 : 1 ≤ n) (h64 : n ≤ Config.tabCapacity)
    (hnone : findTab s n = none) (hroom : s.tabs.length < Config.tabCapacity) :
    Row c s { s with tabs := insertBy (·.number) (Tab.fresh n label time) s.tabs } := by
  have habsent : ∀ t ∈ s.tabs, t.number ≠ n := fun t ht => by simpa using List.find?_eq_none.1 hnone t ht
  have hmem : ∀ t, t ∈ insertBy (·.number) (Tab.fresh n label time) s.tabs ↔ t = Tab.fresh n label time ∨ t ∈ s.tabs :=
    fun t => mem_insertBy _ _ _ _
  exact
    { moves := stateMoves_refl _
      number := rfl
      inReset := rfl
      pending := rfl
      cfg := .inl rfl
      finals := fun tab line st hs _ => .inr (by
        rw [← hs]
        by_cases htab : tab = n
        · subst htab
          simp [lineState, hnone] at hs
        · unfold lineState findTab
          rw [find_insertBy (by simpa [Tab.fresh] using fun h => htab h.symm)])
      capacities := fun h =>
        { h with
          tabs := by dsimp only; rw [length_insertBy]; exact hroom
          directory := directorySound_iff.2 (show DirSound (own s) s.dir from directorySound_iff.1 h.directory) }
      keys := fun h =>
        { h with
          tabs := pairwise_insertBy _ _ _ h.tabs habsent
          tabRange := fun t ht => by
            rcases (hmem t).1 ht with rfl | ht
            · exact ⟨h1, h64⟩
            · exact h.tabRange t ht }
      tabs := fun _ h => by
        refine ⟨fun hoff => absurd hoff ho, fun t ht => ?_, fun t ht => ?_, fun t ht => ?_⟩ <;> rcases (hmem t).1 ht with rfl | ht
        · rfl
        · exact h.numbered t ht
        · exact Nat.zero_le _
        · exact h.fits t ht
        · exact recompute_fresh n label time s.cfg.rates
        · exact h.current t ht
      splits := fun h => splitsSound_opened h (tabSound_fresh n label time) rfl habsent
      directory := fun h => directorySound_iff.2 (show DirSound (own s) s.dir from directorySound_iff.1 h)
      kitchen := fun h => h.congr rfl rfl rfl
      balance := fun h => h.congr (fun hk => hk.congr rfl rfl rfl) rfl rfl }

theorem openBody_row (label : Bytes) : Row c s (openBody label s).2 := by
  unfold openBody job needRole
  split
  · rename_i hs
    dsimp only
    split
    · split
      · exact (Keeps.refl s).row c
      · rename_i hroom
        split
        · exact (Keeps.refl s).row c
        · split
          · exact (Keeps.refl s).row c
          · rename_i n hn
            obtain ⟨h1, h64, hfree⟩ := leastFree_spec hn
            exact opened_row _ _ (not_offline_of_inService hs) h1 h64 (by simpa using hfree) (Nat.lt_of_not_le hroom)
    · exact (Keeps.refl s).row c
  · exact (Keeps.refl s).row c

/-! ## Time (log entries 6 and 7) -/

theorem tickReceiver_errors (r : Receiver) : (tickReceiver r).errors = r.errors := by
  unfold tickReceiver
  split <;> rfl

theorem clocked_inner (s : State) : KeepsInner s
    { s with
      station := { s.station with clock := s.station.clock + 1 }
      link := if s.station.state = .loopback then s.link else { s.link with a := tickReceiver s.link.a, b := tickReceiver s.link.b } } := by
  refine (keeps_timers (s.station.clock + 1) s.station.online s.station.joinWindow s.station.isolation).trans (keeps_link fun h => ?_)
  obtain ⟨h1, h2, h3⟩ := h
  split
  · exact ⟨h1, h2, h3⟩
  · exact ⟨h1, by rw [tickReceiver_errors]; exact h2, by rw [tickReceiver_errors]; exact h3⟩

theorem tickClaims_inner (s : State) :
    KeepsInner s { s with claims := s.claims.map fun c => { c with expiry := Timer.tick c.expiry } } := by
  refine keeps_claims (fun h => by rw [List.length_map]; exact h) fun h => ?_
  rw [List.map_map]
  exact h

theorem tickPeers_inner (s : State) : KeepsInner s
    { s with dir := { s.dir with entries := s.dir.entries.map fun p => { p with silence := Timer.tick p.silence } } } :=
  mapPeers_inner (fun _ => rfl) (fun _ => rfl) (fun p => by simp [Timer.tick]) (fun _ h => h) fun _ h => h

theorem tickExchanges_inner (s : State) :
    KeepsInner s { s with exch := { s.exch with entries := s.exch.entries.map fun e => { e with timer := Timer.tick e.timer } } } := by
  refine keeps_exch (fun h => by rw [List.length_map]; exact h) fun h => ⟨by rw [List.length_map]; exact h.entries, ?_, ?_, h.tagCounter⟩
  · rw [List.map_map]
    exact h.tags
  · intro e he
    obtain ⟨x, hx, rfl⟩ := List.mem_map.1 he
    exact h.tagRange x hx

theorem tickBlocks_inner (s : State) : KeepsInner s (tickBlocks s) :=
  (keeps_timers s.station.clock (if inService s then s.station.online + 1 else s.station.online) (Timer.tick s.station.joinWindow)
    (Timer.tick s.station.isolation)).trans <|
  tickTab_inner.trans <|
  (tickClaims_inner _).trans <|
  KeepsInner.trans (keeps_takings (x := { s.takings with lockout := Timer.tick s.takings.lockout })
    fun ⟨h1, h2, h3, h4⟩ => ⟨h1, h2, h3, h4⟩) <|
  (tickPeers_inner _).trans <|
  (keeps_beacon { s.beacon with interval := Timer.tick s.beacon.interval, holdOff := Timer.tick s.beacon.holdOff }).trans <|
  KeepsInner.trans (mapAll_inner (f := tickKTicket) (fun _ => rfl) (fun _ => rfl) fun _ => rfl) <|
  tickExchanges_inner _

theorem tick_inner (s : State) : KeepsInner s (tick s) := by
  unfold tick
  split
  · exact .refl s
  · dsimp only
    exact .ite (clocked_inner s) ((clocked_inner s).trans (tickBlocks_inner _))

end

end Sys2Proof.Machine
end

section
/-! The rows of the tab store, the claims, the kitchen, the portion table and the exchange table, and what every command and event leaves. -/

namespace Sys2Proof.Machine

section
variable {s t u : State} {c : Instr}

/-! ## The tab store -/

theorem addBody_kept (home tab : Nat) (lines : List LineReq) (send : Nat) : Keeps s (addBody home tab lines send s).2 := by
  refine job_inner fun _ => ?_
  split
  · exact homeAdd_inner _ _ _ _ s
  · exact remoteRequest_inner _ _ _ _ _ _ _ s

theorem takeAdd_kept (s : State) : Keeps s (takeAdd s) :=
  request_kept fun _ _ _ u _ ha _ => (answering_inner ha (homeAdd_inner _ _ _ _ u)).toKeeps

theorem sendBody_kept (tab : Nat) : Keeps s (sendBody tab s).2 := by
  refine job_inner fun _ => ?_
  split
  · exact .refl s
  · split
    · exact .refl s
    · exact sent_inner _

theorem lineVoidBody_kept (home tab line : Nat) : Keeps s (lineVoidBody home tab line s).2 := by
  refine job_inner fun _ => ?_
  split
  · have voided := homeLineVoid_inner tab line noAnswer_inner s
    exact .ite (voided.trans (countLineVoided_inner _)) voided
  · exact remoteRequest_inner _ _ _ _ _ _ _ s

theorem takeLineVoid_kept (s : State) : Keeps s (takeLineVoid s) :=
  request_kept fun _ _ _ u _ ha _ => (homeLineVoid_inner _ _ ha u).toKeeps

theorem tabVoidBody_kept (tab : Nat) : Keeps s (tabVoidBody tab s).2 := by
  refine job_inner fun _ => ?_
  split
  · exact .refl s
  · rename_i t ht
    split
    · exact .refl s
    · rename_i hnone
      exact tabVoided_inner ht hnone _

theorem releaseBody_kept (tab : Nat) : Keeps s (releaseBody tab s).2 := by
  refine job_kept fun _ => ?_
  split
  · exact .refl s
  · rename_i t ht
    split
    · exact .refl s
    · rename_i hst
      split
      · exact .refl s
      · exact released_kept ht (by simpa using hst)

theorem homeQuery_inner (tab : Nat) (s : State) : KeepsInner s (homeQuery tab s).2 := by
  unfold homeQuery
  split <;> exact .refl s

theorem queryBody_kept (home tab : Nat) : Keeps s (queryBody home tab s).2 := by
  refine job_inner fun _ => ?_
  split
  · exact homeQuery_inner tab s
  · exact remoteRequest_inner _ _ _ _ _ _ _ s

theorem takeTabQuery_kept (s : State) : Keeps s (takeTabQuery s) :=
  request_kept fun _ _ _ u _ ha _ => (answering_inner ha (homeQuery_inner _ u)).toKeeps

theorem readTabBody_kept (tab : Nat) : Keeps s (readTabBody tab s).2 := by
  refine readCommand_kept ?_
  split
  · exact .refl s
  · exact (fillSnapshot_inner _ _ _ s).toKeeps

/-! ## Splitting and claims -/

theorem splitBody_kept (home tab count : Nat) (entries : List SplitEntry) : Keeps s (splitBody home tab count entries s).2 := by
  refine job_kept fun _ => ?_
  split
  · split
    · exact .refl s
    · rename_i hnone
      exact startSplit_kept hnone _
  · exact (remoteRequest_inner _ _ _ _ _ _ _ s).toKeeps

theorem takeSplit_kept (s : State) : Keeps s (takeSplit s) := by
  refine request_kept fun _ _ _ u _ ha _ => ?_
  split
  · exact (ha _ u).toKeeps
  · rename_i hnone
    exact startSplit_kept hnone _

theorem withdrawBody_kept (home tab : Nat) : Keeps s (withdrawBody home tab s).2 := by
  refine job_inner fun _ => ?_
  split
  · exact homeWithdraw_inner tab s
  · exact remoteRequest_inner _ _ _ _ _ _ _ s

theorem takeWithdraw_kept (s : State) : Keeps s (takeWithdraw s) :=
  request_kept fun _ _ _ u _ ha _ => (answering_inner ha (homeWithdraw_inner _ u)).toKeeps

theorem claimBody_kept (home tab share : Nat) : Keeps s (claimBody home tab share s).2 := by
  refine job_inner fun hs => ?_
  split
  · exact homeClaim_inner tab share (isStation_own hs)
  · exact remoteRequest_inner _ _ _ _ _ _ _ s

theorem takeClaim_kept (s : State) : Keeps s (takeClaim s) :=
  request_kept fun _ _ _ _ hf ha _ => (answering_inner ha (homeClaim_inner _ _ fun _ => isStation_of_deliverable hf)).toKeeps

theorem settleBody_kept (home tab share tender : Nat) : Keeps s (settleBody home tab share tender s).2 := by
  refine job_inner fun _ => ?_
  split
  · exact homeSettle_inner _ _ _ _ noAnswer_inner s
  · exact markStarted_inner (remoteRequest_inner _ _ _ _ _ _ _ s)

theorem takeSettle_kept (s : State) : Keeps s (takeSettle s) :=
  request_kept fun _ _ _ u _ ha _ => (homeSettle_inner _ _ _ _ ha u).toKeeps

theorem releaseShareBody_kept (home tab share : Nat) : Keeps s (releaseShareBody home tab share s).2 := by
  refine job_inner fun _ => ?_
  split
  · exact homeRelease_inner _ _ _ s
  · exact markStarted_inner (remoteRequest_inner _ _ _ _ _ _ _ s)

theorem takeRelease_kept (s : State) : Keeps s (takeRelease s) :=
  request_kept fun _ _ _ u _ ha _ => (answering_inner ha (homeRelease_inner _ _ _ u)).toKeeps

theorem takeClaimEnd_kept (s : State) : Keeps s (takeClaimEnd s) := by
  refine deliver_kept fun f u _ => ?_
  split
  · split
    · exact .ite (claimEnded_inner _ _ _ _ u).toKeeps (.refl u)
    · exact .refl u
  · exact .refl u

/-! ## The kitchen queue -/

theorem fireBody_kept (ref : Nat) : Keeps s (fireBody ref s).2 := by
  refine job_inner fun _ => ?_
  split
  · exact .refl s
  · rename_i t ht
    split
    · exact .refl s
    · rename_i hroom
      exact fireTicket_inner ownReport_inner (byRef_at ht).2 (Nat.lt_of_not_le hroom)
  · exact .refl s

theorem readyBody_kept (ref : Nat) : Keeps s (readyBody ref s).2 := by
  refine job_inner fun _ => ?_
  split
  · exact .refl s
  · rename_i t ht
    exact (readyTicket_inner (byRef_at ht).2 (by decide)).trans (holdTest_inner _)
  · rename_i t ht
    exact (readyTicket_inner (byRef_at ht).2 (by decide)).trans ((holdTest_inner _).trans (autoFire_inner ownReport_inner _))
  · exact .refl s

theorem collectBody_kept (ref : Nat) : Keeps s (collectBody ref s).2 := by
  refine job_inner fun _ => ?_
  split
  · exact .refl s
  · rename_i t ht
    exact collectTicket_inner (byRef_at ht).2 _
  · exact .refl s

theorem kitchenVoidBody_kept (ref : Nat) (lines : List Nat) : Keeps s (kitchenVoidBody ref lines s).2 := by
  refine job_inner fun _ => ?_
  split
  · exact .refl s
  · exact .refl s
  · rename_i p t _ ht
    split
    · exact .refl s
    · split
      · exact .refl s
      · exact voidKLines_inner ownReport_inner (byRef_at ht).2 _ _

theorem nextNewBody_kept (s : State) : Keeps s (nextNewBody s).2 := by
  refine readCommand_kept ?_
  split
  · exact .refl s
  · rename_i t _
    exact ((fillSnapshot_inner 7 _ _ s).trans (modRef_inner (f := fun t => { t with unread := false }) (fun _ => rfl) (fun _ => rfl)
      fun _ => rfl)).toKeeps

theorem takeTicket_kept (s : State) : Keeps s (takeTicket s) :=
  request_kept fun _ _ _ _ _ ha hs => takeOffer_kept ownReport_inner ha (not_offline_of_inService hs) _ _

theorem takeTicketVoid_kept (s : State) : Keeps s (takeTicketVoid s) := by
  refine request_kept fun _ _ _ u _ ha _ => ?_
  split
  · exact (ha _ u).toKeeps
  · exact ((ha _ u).trans (kitchenTicketVoid_inner ownReport_inner _ _ _ _)).toKeeps

theorem takeTicketQuery_kept (s : State) : Keeps s (takeTicketQuery s) := by
  refine request_kept fun _ _ _ u _ ha _ => ?_
  split
  · exact (ha _ u).toKeeps
  · exact (ha _ u).toKeeps

/-! ## The portion table and the stock view -/

theorem Portion.Sound.marked {p : Portion} {k : Kitchen} (h : p.Sound k) {n low : Nat} (hn : n ≤ Config.portionLimit) (hl : low ≤ 999) :
    ({ p with preset := n, low := low } : Portion).Sound k := { h with marks := ⟨hn, hl⟩ }

theorem findPortion_item {item : Nat} {p : Portion} (h : findPortion s item = some p) : p.item = item := by
  simpa using List.find?_some h

theorem loadBody_kept (item n low : Nat) : Keeps s (loadBody item n low s).2 := by
  refine job_kept fun _ => ?_
  split
  · exact .refl s
  · rename_i hrange
    obtain ⟨-, hn, hlow⟩ : ¬4095 < item ∧ ¬Config.portionLimit < n ∧ ¬999 < low := by
      refine ⟨fun h => hrange (.inl h), fun h => hrange (.inr (.inl h)), fun h => hrange (.inr (.inr h))⟩
    split
    · rename_i p hp
      have hitem := findPortion_item hp
      exact (modPortion_inner (f := fun _ => { p with preset := n, low := low }) hp (fun _ _ => hitem)
        fun _ hs => hs.marked (Nat.le_of_not_lt hn) (Nat.le_of_not_lt hlow)).toKeeps
    · rename_i hnone
      split
      · exact .refl s
      · rename_i hroom
        exact loaded_kept hnone (Nat.lt_of_not_le hroom) (Nat.le_of_not_lt hn) (Nat.le_of_not_lt hlow)

theorem refillBody_kept (item n : Nat) : Keeps s (refillBody item n s).2 := by
  refine job_kept fun _ => withPortion_kept fun _ p hp => ?_
  dsimp only
  split
  · exact .refl s
  · rename_i hfits
    have hitem := findPortion_item hp
    exact (modPortion_inner (f := fun _ => { p with
        remaining := p.remaining + min n (Config.portionLimit - p.remaining)
        loaded := p.loaded + min n (Config.portionLimit - p.remaining) }) hp (fun _ _ => hitem)
      fun _ hs => hs.refilled (Nat.min_le_right _ _) (Nat.le_of_not_lt hfits)).toKeeps

theorem reloadBody_kept (item : Nat) : Keeps s (reloadBody item s).2 := by
  refine job_kept fun _ => withPortion_kept fun _ p hp => ?_
  dsimp only
  split
  · exact .refl s
  · rename_i hfits
    exact (modPortion_inner (f := fun p => p.setRemaining p.preset) hp (fun _ h => h)
      fun _ hs => hs.setRemaining hs.marks.1 (by simpa using hfits)).toKeeps

theorem recountBody_kept (item n : Nat) : Keeps s (recountBody item n s).2 := by
  refine job_kept fun _ => withPortion_kept fun hrange p hp => ?_
  dsimp only
  split
  · exact .refl s
  · rename_i hfits
    have taken := modPortion_inner (f := fun q => { q.setRemaining n with adjust := clampAdjust (q.adjust + ((n : Int) - (p.remaining : Int))) }) hp
      (fun _ h => h) fun _ hs => { hs.setRemaining (by simpa using hrange) (by simpa using hfits) with adjust := clampAdjust_range _ }
    exact taken.toKeeps

theorem removeBody_kept (item : Nat) : Keeps s (removeBody item s).2 := by
  refine job_kept fun _ => withPortion_kept fun _ p hp => ?_
  split
  · exact .refl s
  · exact removed_kept item s

theorem readPortionsBody_kept (item : Option Nat) : Keeps s (readPortionsBody item s).2 := by
  refine readCommand_kept ?_
  split
  · exact withPortion_kept fun _ _ _ => .refl s
  · exact (fillSnapshot_inner _ _ _ s).toKeeps

theorem takeStock_kept (s : State) : Keeps s (takeStock s) := by
  refine deliver_kept fun f u _ => ?_
  split
  · split
    · exact .ite (takeReport_inner _ _ _ u).toKeeps (.refl u)
    · exact .refl u
  · exact .refl u

/-! ## The exchange table, the directory and the attention mask -/

theorem setAttentionBody_kept (mask : Byte) (s : State) : Keeps s (setAttentionBody mask s).2 :=
  readCommand_kept (body := fun s => (.bare .OK, modPort (fun p => { p with mask := levelsOf mask }) s))
    (modPort_inner (f := fun p => { p with mask := levelsOf mask }) (portFits_congr rfl rfl rfl rfl)).toKeeps


theorem takeTest_kept (s : State) : Keeps s (takeTest s) :=
  deliver_kept fun _ u _ => .ite (sendAnswer_inner _ _ _ _ _ _ u).toKeeps (.refl u)

theorem takeAnswer_kept (s : State) : Keeps s (takeAnswer s) := by
  refine deliver_kept fun f u _ => ?_
  split
  · split
    · split
      · exact ((freeEntry_inner _ u).trans (handOutcome_inner _ _ _)).toKeeps
      · exact (lateAnswer_inner _ u).toKeeps
    · exact .refl u
  · exact .refl u

theorem readPeersBody_kept (s : State) : Keeps s (readPeersBody s).2 :=
  readCommand_kept ((fillSnapshot_inner 4 _ _ s).trans
    (mapPeers_inner (g := fun p => { p with changed := false }) (fun _ => rfl) (fun _ => rfl) (fun _ => rfl) (fun _ h => h)
      fun _ h => h)).toKeeps

/-! ## Every command and event -/

/-- Every command and event that is not a reset runs, and leaves what `Row` says. -/
theorem exec_runs (c : Instr) (s : State) (h : isReset c = false) : Runs c s (exec c s) := by
  cases c with
  | resetAsserted => exact nomatch h
  | resetEnd straps => exact nomatch h
  | periodPinEdge => exact event_inner (body := pinEdge) (pinEdge_inner s)
  | periodLockoutExpiry => exact event_inner (body := lockoutExpiry) (lockoutExpiry_inner s)
  | portTransaction pdi => exact event_inner (body := transaction pdi) (transaction_inner pdi s)
  | status => exact carryOut_kept (body := statusBody) (clearStatus_inner s).toKeeps
  | nextNotice => exact carryOut_kept (body := nextNoticeBody) (nextNotice_inner s).toKeeps
  | setAttention mask => exact carryOut_kept (body := setAttentionBody mask) (setAttentionBody_kept mask s)
  | readPage offset length => exact carryOut_kept (body := readPageBody offset length) (readPageBody_kept offset length)
  | configure req => exact carryOut_runs_row (body := configureBody req) (configureBody_row req)
  | loopbackOn => exact carryOut_runs_row (body := loopbackOnBody) loopbackOnBody_row
  | loopbackOff => exact carryOut_runs_row (body := loopbackOffBody) loopbackOffBody_row
  | join => exact carryOut_runs_row (body := joinBody) joinBody_row
  | laneRestart lane => exact carryOut_runs_row (body := laneRestartBody lane) (laneRestartBody_row lane)
  | test dest payload => exact carryOut_kept (body := testBody dest payload) (testBody_inner dest payload s).toKeeps
  | openTab label => exact carryOut_runs_row (body := openBody label) (openBody_row label)
  | add home tab lines send => exact carryOut_kept (body := addBody home tab lines send) (addBody_kept home tab lines send)
  | send tab => exact carryOut_kept (body := sendBody tab) (sendBody_kept tab)
  | lineVoid home tab line => exact carryOut_kept (body := lineVoidBody home tab line) (lineVoidBody_kept home tab line)
  | tabVoid tab => exact carryOut_kept (body := tabVoidBody tab) (tabVoidBody_kept tab)
  | release tab => exact carryOut_kept (body := releaseBody tab) (releaseBody_kept tab)
  | query home tab => exact carryOut_kept (body := queryBody home tab) (queryBody_kept home tab)
  | readTab tab => exact carryOut_kept (body := readTabBody tab) (readTabBody_kept tab)
  | split home tab count entries => exact carryOut_kept (body := splitBody home tab count entries) (splitBody_kept home tab count entries)
  | withdraw home tab => exact carryOut_kept (body := withdrawBody home tab) (withdrawBody_kept home tab)
  | claim home tab share => exact carryOut_kept (body := claimBody home tab share) (claimBody_kept home tab share)
  | settle home tab share tender => exact carryOut_kept (body := settleBody home tab share tender) (settleBody_kept home tab share tender)
  | releaseShare home tab share => exact carryOut_kept (body := releaseShareBody home tab share) (releaseShareBody_kept home tab share)
  | readClaims => exact carryOut_kept (body := readClaimsBody) (snapshot_kept 2 _ _)
  | markPeriod => exact carryOut_kept (body := markPeriodBody) (job_inner fun _ => localAdvance_inner s)
  | readCapture slot => exact carryOut_kept (body := readCaptureBody slot) (readCaptureBody_kept slot)
  | releaseCapture slot => exact carryOut_kept (body := releaseCaptureBody slot) (releaseCaptureBody_kept slot)
  | readPeers => exact carryOut_kept (body := readPeersBody) (readPeersBody_kept s)
  | retry ticket => exact carryOut_kept (body := retryBody ticket) (retryBody_kept ticket)
  | refresh ticket => exact carryOut_kept (body := refreshBody ticket) (refreshBody_kept ticket)
  | abandon ticket => exact carryOut_kept (body := abandonBody ticket) (abandonBody_kept ticket)
  | readTickets => exact carryOut_kept (body := readTicketsBody) (snapshot_kept 5 _ _)
  | fire ref => exact carryOut_kept (body := fireBody ref) (fireBody_kept ref)
  | ready ref => exact carryOut_kept (body := readyBody ref) (readyBody_kept ref)
  | collect ref => exact carryOut_kept (body := collectBody ref) (collectBody_kept ref)
  | kitchenVoid ref lines => exact carryOut_kept (body := kitchenVoidBody ref lines) (kitchenVoidBody_kept ref lines)
  | readQueue => exact carryOut_kept (body := readQueueBody) (snapshot_kept 6 _ _)
  | nextNew => exact carryOut_kept (body := nextNewBody) (nextNewBody_kept s)
  | load item n low => exact carryOut_kept (body := loadBody item n low) (loadBody_kept item n low)
  | refill item n => exact carryOut_kept (body := refillBody item n) (refillBody_kept item n)
  | reloadToPreset item => exact carryOut_kept (body := reloadBody item) (reloadBody_kept item)
  | recount item n => exact carryOut_kept (body := recountBody item n) (recountBody_kept item n)
  | remove item => exact carryOut_kept (body := removeBody item) (removeBody_kept item)
  | readPortions item => exact carryOut_kept (body := readPortionsBody item) (readPortionsBody_kept item)
  | readStockView => exact carryOut_kept (body := readStockViewBody) (snapshot_kept 9 _ _)
  | laneActivity lane => exact event_runs_row (body := laneActive lane) (laneActive_row lane)
  | laneFrameStart lane => exact event_inner (body := frameStarts lane) (frameStarts_inner lane s)
  | laneFrameEnd lane bits => exact event_runs_row (body := frameEnds lane bits) (frameEnds_row lane bits)
  | laneSilenceExpiry lane => exact event_runs_row (body := laneSilent lane) (laneSilent_row lane)
  | laneStuck lane => exact event_runs_row (body := laneHeld lane) (laneHeld_row lane)
  | laneRecessive lane => exact event_runs_row (body := laneFreed lane) (laneFreed_row lane)
  | twinWindowExpiry lane => exact event_inner (body := windowExpiry lane) (windowExpiry_inner lane s)
  | beaconFrame => exact event_kept (body := takeBeaconFrame) (takeBeaconFrame_kept s)
  | periodFrame => exact event_kept (body := takePeriodFrame) (takePeriodFrame_kept s)
  | stockFrame => exact event_kept (body := takeStock) (takeStock_kept s)
  | addFrame => exact event_kept (body := takeAdd) (takeAdd_kept s)
  | lineVoidFrame => exact event_kept (body := takeLineVoid) (takeLineVoid_kept s)
  | tabQueryFrame => exact event_kept (body := takeTabQuery) (takeTabQuery_kept s)
  | splitFrame => exact event_kept (body := takeSplit) (takeSplit_kept s)
  | withdrawFrame => exact event_kept (body := takeWithdraw) (takeWithdraw_kept s)
  | claimFrame => exact event_kept (body := takeClaim) (takeClaim_kept s)
  | settleFrame => exact event_kept (body := takeSettle) (takeSettle_kept s)
  | releaseFrame => exact event_kept (body := takeRelease) (takeRelease_kept s)
  | claimEndFrame => exact event_kept (body := takeClaimEnd) (takeClaimEnd_kept s)
  | ticketFrame => exact event_kept (body := takeTicket) (takeTicket_kept s)
  | ticketVoidFrame => exact event_kept (body := takeTicketVoid) (takeTicketVoid_kept s)
  | ticketQueryFrame => exact event_kept (body := takeTicketQuery) (takeTicketQuery_kept s)
  | ticketStateFrame => exact event_kept (body := takeTicketState) (takeTicketState_kept s)
  | testFrame => exact event_kept (body := takeTest) (takeTest_kept s)
  | answerFrame => exact event_kept (body := takeAnswer) (takeAnswer_kept s)
  | exchangeTimeout tag => exact event_inner (body := exchangeExpiry tag) (exchangeExpiry_inner tag s)
  | splitCompletion => exact event_kept (body := completeSplit) (completeSplit_kept s)
  | holdTimerExpiry tab share => exact event_inner (body := holdExpiry tab share) (holdExpiry_inner tab share s)
  | localExpiry home tab share => exact event_inner (body := localExpired home tab share) (localExpired_inner home tab share s)
  | silenceTimerExpiry station => exact event_inner (body := silenceExpiry station) (silenceExpiry_inner station s)
  | intervalTimerExpiry => exact event_inner (body := intervalExpiry) (intervalExpiry_inner s)
  | holdOffExpiry => exact event_inner (body := holdOffEnd) (holdOffEnd_inner s)
  | joinWindowExpiry => exact event_runs_row (body := joinExpiry) joinExpiry_row
  | isolationTimerExpiry => exact event_runs_row (body := isolationExpiry) isolationExpiry_row
  | warnTimerExpiry ref => exact event_inner (body := warnExpiry ref) (warnExpiry_inner ref s)
  | lateTimerExpiry ref => exact event_inner (body := lateExpiry ref) (lateExpiry_inner ref s)
  | collectTimerExpiry ref => exact event_inner (body := collectExpiry ref) (collectExpiry_inner ref s)
  | transmitStart => exact event_inner (body := startSending) (startSending_inner s)
  | arbitrationLost => exact event_inner (body := loseArbitration) (loseArbitration_inner s)
  | transmitFault => exact event_inner (body := takeFault) (takeFault_inner s)
  | transmitComplete => exact event_inner (body := completeSending) (completeSending_inner s)

end

end Sys2Proof.Machine
end

section
/-! What every step keeps: the invariants of the block, the moves of the station state and the lines that have ended. -/

namespace Sys2Proof.Machine

section
variable {s t : State} {c : Instr}

/-! ## The reset state (R133) -/

/-- The block at its reset value, with whatever commands wait. -/
def atReset (inReset : Bool) (number : Nat) (pending : List Instr) : State := { State.resetWith inReset number with pending := pending }

theorem exec_reset (h : isReset c = true) (s : State) : ∃ b n, exec c s = .next (atReset b n s.pending) := by
  cases c with
  | resetAsserted => exact ⟨true, 0, rfl⟩
  | resetEnd straps => exact ⟨false, straps % 128, rfl⟩
  | _ => exact nomatch h

section
variable (b : Bool) (n : Nat) (l : List Instr)

theorem directorySound_atReset : DirectorySound (atReset b n l) :=
  ⟨Nat.zero_le _, List.Pairwise.nil, (fun _ h => nomatch h), List.nodup_nil,
    (fun _ => ⟨(fun h => nomatch h), fun ⟨_, h, _⟩ => nomatch h⟩), (fun _ h => nomatch h), fun _ h => nomatch h⟩

theorem capacitiesHold_atReset : CapacitiesHold (atReset b n l) where
  link := Nat.zero_le _
  money := Nat.zero_le _
  kitchenNotices := Nat.zero_le _
  peers := Nat.zero_le _
  transmit := Nat.zero_le _
  transmitLow := Nat.zero_le _
  slots _ h := nomatch h
  wire := Nat.zero_le _
  receive := Nat.zero_le _
  exchanges := Nat.zero_le _
  tabs := Nat.zero_le _
  tickets := Nat.zero_le _
  voids := Nat.zero_le _
  claims := Nat.zero_le _
  kitchen := Nat.zero_le _
  portions := Nat.zero_le _
  stock := Nat.zero_le _
  directory := directorySound_atReset b n l
  loads _ h := nomatch h
  dropped := Nat.zero_le _
  disagree := Nat.zero_le _
  errorsA := Nat.zero_le _
  errorsB := Nat.zero_le _
  period := Nat.zero_le _
  span := Nat.zero_le _
  accums := Accums.zero_inRange
  captures _ h := h.elim (fun h => nomatch h) fun h => nomatch h

theorem keysDistinct_atReset : KeysDistinct (atReset b n l) where
  tabs := List.Pairwise.nil
  tabRange _ h := nomatch h
  tickets := List.nodup_nil
  ticketRange _ h := nomatch h
  counter := ⟨Nat.le_refl 1, show 1 ≤ 65535 by decide⟩
  claims := List.nodup_nil
  portions := List.Pairwise.nil
  stock := List.nodup_nil
  entries := Nat.zero_le _
  tags := List.nodup_nil
  tagRange _ h := nomatch h
  tagCounter := show 0 < 256 by decide

theorem tabsCurrent_atReset : TabsCurrent (atReset b n l) :=
  ⟨fun _ => rfl, (fun _ h => nomatch h), (fun _ h => nomatch h), fun _ h => nomatch h⟩

theorem splitsSound_atReset : SplitsSound (atReset b n l) where
  station h := absurd rfl h
  tabs := List.Pairwise.nil
  fits _ h := nomatch h
  numbered _ h := nomatch h
  sums _ h := nomatch h
  shares _ h := nomatch h
  job _ h := nomatch h
  splitting _ h := nomatch h

theorem kitchenSound_atReset : KitchenSound (atReset b n l) :=
  ⟨fun _ => rfl, Nat.zero_le _, List.nodup_nil, (fun _ h => nomatch h), (fun _ h => nomatch h), List.Pairwise.nil, Nat.zero_le _⟩

theorem portionsBalance_atReset : PortionsBalance (atReset b n l) :=
  portionsBalance_iff.2 ⟨kitchenSound_atReset b n l, List.Pairwise.nil, (fun _ h => nomatch h), (fun _ h => nomatch h),
    fun _ h => nomatch h⟩

end

/-! ## One step -/

/-- A step is a row on the state with some commands waiting, a reset, or the passing of a millisecond. -/
theorem step_cases (h : step s = .next t) :
    (∃ c l, Row c { s with pending := l } t) ∨ (∃ b n l, t = atReset b n l) ∨ t = tick s := by
  have ran : ∀ c l, exec c { s with pending := l } = .next t → (∃ c l, Row c { s with pending := l } t) ∨ ∃ b n l, t = atReset b n l := by
    intro c l hc
    cases hr : isReset c with
    | true =>
      obtain ⟨b, n, he⟩ := exec_reset hr { s with pending := l }
      rw [he] at hc
      exact .inr ⟨b, n, l, by cases hc; rfl⟩
    | false =>
      obtain ⟨u, hu, row⟩ := exec_runs c { s with pending := l } hr
      rw [hu] at hc
      cases hc
      exact .inl ⟨c, l, row⟩
  unfold step at h
  split at h
  · unfold idle at h
    split at h
    · exact (ran _ s.pending h).imp id .inl
    · cases h; exact .inr (.inr rfl)
  · exact (ran _ _ h).imp id .inl

/-- An invariant that does not look at the waiting commands is kept by a step where the reset state has it and rows and time keep it. -/
theorem step_keeps {P : State → Prop} (waiting : ∀ s l, P s → P { s with pending := l }) (reset : ∀ b n l, P (atReset b n l))
    (row : ∀ c s t, Row c s t → P s → P t) (time : ∀ s, P s → P (tick s)) (hs : P s) (h : step s = .next t) : P t := by
  rcases step_cases h with ⟨c, l, hrow⟩ | ⟨b, n, l, rfl⟩ | rfl
  · exact row c _ t hrow (waiting s l hs)
  · exact reset b n l
  · exact time s hs

theorem tick_row (s : State) : Row .status s (tick s) := (tick_inner s).toKeeps.row _

end

theorem DirectorySound.waiting {s : State} (h : DirectorySound s) (l : List Instr) : DirectorySound { s with pending := l } :=
  directorySound_iff.2 (show DirSound (own s) s.dir from directorySound_iff.1 h)

/-- Settles O44: the peer directory, through what each row keeps of it. -/
theorem stepKeepsDirectorySound : Obligations.StepKeepsDirectorySound := fun _ _ =>
  step_keeps (fun _ l h => h.waiting l) directorySound_atReset (fun _ _ _ row => row.directory) fun s => (tick_row s).directory

/-- Settles O58: the capacities and ranges, through what each row keeps of them. -/
theorem stepKeepsCapacities : Obligations.StepKeepsCapacities := fun _ _ =>
  step_keeps (fun _ l h => { h with directory := h.directory.waiting l }) capacitiesHold_atReset (fun _ _ _ row => row.capacities)
    fun s => (tick_row s).capacities

/-- Settles O59: the keys and counters, through what each row keeps of them. -/
theorem stepKeepsKeysDistinct : Obligations.StepKeepsKeysDistinct := fun _ _ =>
  step_keeps (fun _ _ h => { h with }) keysDistinct_atReset (fun _ _ _ row => row.keys) fun s => (tick_row s).keys

/-- Settles O26: the running totals, kept together with the distinct tab numbers by which a row finds its tab. -/
theorem stepKeepsTabsCurrent : Obligations.StepKeepsTabsCurrent := by
  intro s t hs hk h
  have both := step_keeps (P := fun s => KeysDistinct s ∧ TabsCurrent s) (fun _ _ h => ⟨{ h.1 with }, { h.2 with }⟩)
    (fun b n l => ⟨keysDistinct_atReset b n l, tabsCurrent_atReset b n l⟩) (fun _ _ _ row h => ⟨row.keys h.1, row.tabs h.1 h.2⟩)
    (fun s h => ⟨(tick_row s).keys h.1, (tick_row s).tabs h.1 h.2⟩) ⟨hk, hs⟩ h
  exact both.2

/-- Settles O31: the splits and the engine's record, through what each row keeps of them. -/
theorem stepKeepsSplitsSound : Obligations.StepKeepsSplitsSound := fun _ _ =>
  step_keeps (fun _ _ h => { h with }) splitsSound_atReset (fun _ _ _ row => row.splits) fun s => (tick_row s).splits

/-- Settles O51: the kitchen queue, through what each row keeps of it. -/
theorem stepKeepsKitchenSound : Obligations.StepKeepsKitchenSound := fun _ _ =>
  step_keeps (fun _ _ h => { h with }) kitchenSound_atReset (fun _ _ _ row => row.kitchen) fun s => (tick_row s).kitchen

/-- Settles O54: the portion figures, through what each row keeps of them. -/
theorem stepKeepsPortionsBalanced : Obligations.StepKeepsPortionsBalanced := fun _ _ =>
  step_keeps (fun _ _ h => { h with kitchen := { h.kitchen with } }) portionsBalance_atReset (fun _ _ _ row => row.balance)
    fun s => (tick_row s).balance

/-- Settles O25: a row keeps a final line or drops its tab, a reset holds no tab, and time moves no line. -/
theorem finalLinesStay : Obligations.FinalLinesStay := by
  intro s t tab line st h hst hf
  rcases step_cases h with ⟨c, l, row⟩ | ⟨b, n, l, rfl⟩ | rfl
  · exact row.finals tab line st hst hf
  · exact .inl rfl
  · exact (tick_row s).finals tab line st hst hf

/-- Settles O16: by the moves, the number and the configuration every row leaves. -/
theorem stationLifeRules : Obligations.StationLifeRules := by
  have ran : ∀ (c : Instr) (s t : State), isReset c = false → exec c s = .next t → Row c s t := by
    intro c s t hc h
    obtain ⟨u, hu, row⟩ := exec_runs c s hc
    rw [hu] at h
    cases h
    exact row
  refine ⟨fun c s t hc h => (ran c s t hc h).moves, fun c s t hc h => ?_⟩
  have row := ran c s t hc h
  exact ⟨row.number, row.inReset, row.cfg.resolve_left⟩

/-- Settles O3: a reset runs by its arm, every other command by `exec_runs`. -/
theorem everyCommandCompletes : Obligations.EveryCommandCompletes := by
  intro c s
  cases hc : isReset c with
  | true =>
    obtain ⟨b, n, he⟩ := exec_reset hc s
    exact ⟨_, he, rfl⟩
  | false =>
    obtain ⟨t, ht, row⟩ := exec_runs c s hc
    exact ⟨t, ht, row.pending⟩

/-- Settles O60: `State.reset` is the block at its reset value with nothing waiting. -/
theorem resetMeetsTheInvariants : Obligations.ResetMeetsTheInvariants :=
  ⟨capacitiesHold_atReset false 0 [], keysDistinct_atReset false 0 [], tabsCurrent_atReset false 0 [], splitsSound_atReset false 0 [],
    directorySound_atReset false 0 [], kitchenSound_atReset false 0 [], portionsBalance_atReset false 0 []⟩

/-- Settles O1: by what `step` does with a command at the front. -/
theorem stepRunsFrontCommand : Obligations.StepRunsFrontCommand := by
  intro c rest s h
  simp only [step, h]

end Sys2Proof.Machine
end

section
/-! DUPLICATE (R143): with both queues empty, every record stands still. -/

namespace Sys2Proof.Machine

section
variable {s t u : State} {c : Instr}

/-! ## The end of an event with nothing to do -/

theorem foldl_fixed_on {α : Type} {f : State → α → State} {l : List α} (h : ∀ a ∈ l, f s a = s) : l.foldl f s = s := by
  induction l with
  | nil => rfl
  | cons a l ih => rw [List.foldl_cons, h a (by simp), ih fun b hb => h b (by simp [hb])]

/-- The stock states by which the end of an event compares the portion table with the one before (R120). -/
def stockStates (l : List Portion) : List (Nat × StockState) := l.map fun p => (p.item, stockState p)

theorem stockReports_same {before : List Portion} (hn : (s.portions.map (·.item)).Nodup)
    (h : stockStates before = stockStates s.portions) : stockReports before s = s := by
  have hitems : before.map (·.item) = s.portions.map (·.item) := by
    have hfst := congrArg (List.map Prod.fst) h
    rwa [stockStates, stockStates, List.map_map, List.map_map] at hfst
  have gone : before.filter (fun p => !s.portions.any (·.item == p.item)) = [] := by
    refine List.filter_eq_nil_iff.2 fun p hp => ?_
    have hmem : p.item ∈ s.portions.map (·.item) := hitems ▸ List.mem_map_of_mem hp
    obtain ⟨q, hq, hqi⟩ := List.mem_map.1 hmem
    simpa using ⟨q, hq, hqi⟩
  unfold stockReports
  dsimp only
  rw [gone, List.foldl_nil]
  refine foldl_fixed_on fun p hp => if_pos ?_
  have hkey : (p.item, stockState p) ∈ stockStates before := h ▸ List.mem_map.2 ⟨p, hp, rfl⟩
  obtain ⟨q, hq, heq⟩ := List.mem_map.1 hkey
  obtain ⟨hqi, hqs⟩ := Prod.mk.inj heq
  obtain ⟨r, hr⟩ := Option.isSome_iff_exists.1 (List.find?_isSome.2 ⟨q, hq, by simpa using hqi⟩ :
    (before.find? (·.item == p.item)).isSome = true)
  have hri : r.item = p.item := by simpa using List.find?_some hr
  have hrq : r = q := eq_of_nodup_map (hitems ▸ hn) (List.mem_of_find?_eq_some hr) hq (hri.trans hqi.symm)
  rw [hr, hrq, Option.map_some, hqs]

theorem routerLoop_out (n : Nat) (h1 : s.station.state ≠ .online) (h2 : s.station.state ≠ .isolated) : routerLoop n s = s := by
  cases n with
  | zero => rfl
  | succ n => rw [routerLoop, if_neg h1, if_neg h2]

/-! ## Only the local port and the link -/

/-- Only the local port, the link and the lanes watched may differ. -/
def OnlyPortAndLink (s t : State) : Prop := ∃ port link watched, t = { s with port := port, link := link, tx := { s.tx with watched := watched } }

theorem OnlyPortAndLink.refl (s : State) : OnlyPortAndLink s s := ⟨s.port, s.link, s.tx.watched, rfl⟩

theorem OnlyPortAndLink.trans (h : OnlyPortAndLink s t) (k : OnlyPortAndLink t u) : OnlyPortAndLink s u := by
  obtain ⟨_, _, _, rfl⟩ := h
  obtain ⟨p, l, w, rfl⟩ := k
  exact ⟨p, l, w, rfl⟩

theorem OnlyPortAndLink.ite {p : Prop} [Decidable p] {a b : State} (ha : OnlyPortAndLink s a) (hb : OnlyPortAndLink s b) :
    OnlyPortAndLink s (if p then a else b) := by
  split
  · exact ha
  · exact hb

theorem OnlyPortAndLink.state (h : OnlyPortAndLink s t) : t.station.state = s.station.state := by
  obtain ⟨_, _, _, rfl⟩ := h
  rfl

theorem OnlyPortAndLink.portions (h : OnlyPortAndLink s t) : t.portions = s.portions := by
  obtain ⟨_, _, _, rfl⟩ := h
  rfl

theorem onlyPort (p : Port) (s : State) : OnlyPortAndLink s { s with port := p } := ⟨p, s.link, s.tx.watched, rfl⟩

theorem onlyLink (l : Link) (s : State) : OnlyPortAndLink s { s with link := l } := ⟨s.port, l, s.tx.watched, rfl⟩

theorem post_only (n : Notice) (s : State) : OnlyPortAndLink s (post n s) := onlyPort _ s

theorem modRx_only (lane : Lane) (f : Receiver → Receiver) (s : State) : OnlyPortAndLink s (modRx lane f s) := onlyLink _ s

theorem seeTag_only (lane : Lane) (tag : Option Lane) (s : State) : OnlyPortAndLink s (seeTag lane tag s) :=
  have seen := modRx_only lane (fun r => { r with tagSeen := tag }) s
  .ite seen (seen.trans (post_only _ _))

/-! ## The rows in DUPLICATE -/

theorem moveLane_frozen (h : s.station.state = .duplicate) (lane : Lane) (st : RxState) : OnlyPortAndLink s (moveLane lane st s) := by
  unfold moveLane
  refine .ite (.refl s) ?_
  have moved := (onlyLink (s.link.setRx ((s.link.rx lane).enter st) lane) s).trans (post_only (.laneState lane (s.link.rx lane).state st) _)
  have hst := moved.state.trans h
  have quiet := watchLanes_quiet _ (fun h => nomatch hst.symm.trans h) (fun h => nomatch hst.symm.trans h)
  exact quiet.symm ▸ moved

theorem acceptFrame_frozen (h : s.station.state = .duplicate) (f : Frame) : acceptFrame f s = s := by
  unfold acceptFrame
  rw [h]

theorem merge_frozen (h : s.station.state = .duplicate) (lane : Lane) (r : Reception) : OnlyPortAndLink s (merge lane r s) := by
  unfold merge
  split
  · have closed := modRx_only lane.other (fun x => { x with window := none }) s
    exact .ite closed (closed.trans (onlyLink _ _))
  · have opened := modRx_only lane (fun x => { x with window := some r.check }) s
    rw [acceptFrame_frozen (opened.state.trans h)]
    exact opened

theorem takeMalformed_frozen (h : s.station.state = .duplicate) (lane : Lane) : OnlyPortAndLink s (takeMalformed lane s) := by
  unfold takeMalformed
  have counted := fun f => modRx_only lane f s
  exact .ite ((counted _).trans (moveLane_frozen ((counted _).state.trans h) lane .hunt)) (counted _)

theorem takeWellFormed_frozen (h : s.station.state = .duplicate) (lane : Lane) (rc : Reception) :
    OnlyPortAndLink s (takeWellFormed lane rc s) := by
  have counted := modRx_only lane (fun r => { r with goodRun := r.goodRun + 1, badRun := 0 }) s
  have moved := OnlyPortAndLink.ite (p := movesMade s = true ∧ (s.link.rx lane).state = .hunt ∧ s.cfg.lockCount ≤ (s.link.rx lane).goodRun + 1)
    (counted.trans (moveLane_frozen (counted.state.trans h) lane .locked)) counted
  have tagged := moved.trans (seeTag_only lane (some rc.tag) _)
  exact .ite (tagged.trans (merge_frozen (tagged.state.trans h) lane rc)) tagged

theorem frameAt_frozen (h : s.station.state = .duplicate) (lane : Lane) (bits : List Bool) : OnlyPortAndLink s (frameAt lane bits s) := by
  unfold frameAt
  split
  · exact .refl s
  · exact .refl s
  · split
    · exact takeWellFormed_frozen h lane _
    · exact takeMalformed_frozen h lane
  · split
    · exact takeWellFormed_frozen h lane _
    · exact takeMalformed_frozen h lane

theorem restartLane_frozen (h : s.station.state = .duplicate) (lane : Nat) : (laneRestartBody lane s).2 = s := by
  unfold laneRestartBody
  rw [h]
  rfl

theorem frameEnds_frozen (h : s.station.state = .duplicate) (lane : Lane) (bits : List Bool) : OnlyPortAndLink s (frameEnds lane bits s) := by
  have ended := modRx_only lane (fun r => { r with carrying := false }) s
  exact .ite (ended.trans (frameAt_frozen (ended.state.trans h) lane bits)) ended

theorem laneHeld_frozen (h : s.station.state = .duplicate) (lane : Lane) : OnlyPortAndLink s (laneHeld lane s) := by
  have ended := modRx_only lane (fun r => { r with carrying := false }) s
  exact .ite (ended.trans (moveLane_frozen (ended.state.trans h) lane .stuck)) (.refl s)

theorem takeCommand_only (code : Nat) (params : Bytes) (s : State) : OnlyPortAndLink s (takeCommand code params s) := by
  unfold takeCommand
  split <;> exact onlyPort _ s

theorem transaction_only (pdi : Bytes) (s : State) : OnlyPortAndLink s (transaction pdi s) := by
  unfold transaction
  dsimp only
  split
  · exact .ite (onlyPort _ s) ((onlyPort _ s).trans (takeCommand_only _ _ _))
  · exact onlyPort _ s

theorem clearStatus_only (s : State) : OnlyPortAndLink s (clearStatus s) := ⟨_, _, s.tx.watched, rfl⟩

theorem nextNotice_only (s : State) : OnlyPortAndLink s (nextNoticeBody s).2 := by
  unfold nextNoticeBody
  split
  · exact onlyPort _ s
  · exact .refl s

theorem deliver_empty (kind : Nat) (block : Frame → State → State) (h : s.rx = []) : deliver kind block s = s := by
  unfold deliver
  rw [h]

theorem request_empty {α : Type} (kind : Nat) (r : Reader α) (role : Role) (subject share : α → Nat)
    (block : Frame → α → Answering → State → State) (h : s.rx = []) : request kind r role subject share block s = s := deliver_empty _ _ h

section
variable (h : s.station.state = .duplicate)
include h

theorem inService_frozen : inService s = false := by simp [inService, h]

theorem job_frozen (role : Option Role) (body : Body) : (job role body s).2 = s := by
  rw [job_out_of_service role body (inService_frozen h)]

theorem readCommand_frozen (role : Option Role) (body : Body) : (readCommand role body s).2 = s := by
  unfold readCommand
  rw [if_pos h]
  rfl

theorem onTicket_frozen (ref : Nat) (f : Place → KTicket → State → State) : onTicket ref f s = s := if_pos h

theorem testBody_frozen (dest : Nat) (payload : Bytes) : (testBody dest payload s).2 = s := by
  unfold testBody testable
  rw [inService_frozen h, h]
  rfl

theorem startSending_frozen : startSending s = s := by
  unfold startSending readyToSend
  rw [h]
  rfl

end

theorem loseArbitration_frozen (hs : s.tx.slots = []) : OnlyPortAndLink s (loseArbitration s) := by
  refine .ite ⟨s.port, s.link, if driving s then [] else s.tx.watched, ?_⟩ (.refl s)
  dsimp only
  rw [show s.tx = { s.tx with slots := [] } by rw [← hs]]
  rfl

theorem sending_empty (h : s.tx.slots = []) : sending s = none := by
  unfold sending
  rw [h]
  rfl

/-! ## Every command and event -/

/-- What a command or event of DUPLICATE leaves once its own rule has left the records alone: the end of the event leaves them alone too. -/
theorem endEvent_frozen (h : s.station.state = .duplicate) (hn : (s.portions.map (·.item)).Nodup) (ht : OnlyPortAndLink s t) :
    endEvent s.portions t = t := by
  have hst := ht.state.trans h
  unfold endEvent routerWork
  rw [routerLoop_out _ (by rw [hst]; decide) (by rw [hst]; decide)]
  exact stockReports_same (ht.portions ▸ hn) (by rw [ht.portions])

/-- An outcome that leaves all but the local port and the link as it was. -/
def Freezes (s : State) (o : Host.Outcome State Fault Refusal) : Prop := ∃ t, o = .next t ∧ OnlyPortAndLink s t

section
variable (h : s.station.state = .duplicate) (hn : (s.portions.map (·.item)).Nodup)
include h hn

theorem event_frozen {body : State → State} (hb : OnlyPortAndLink s (body s)) : Freezes s (event body s) := by
  unfold event
  split
  · exact ⟨s, rfl, .refl s⟩
  · rw [endEvent_frozen h hn hb]
    exact ⟨_, rfl, hb⟩

theorem event_still {body : State → State} (hb : body s = s) : Freezes s (event body s) :=
  event_frozen h hn (by rw [hb]; exact .refl s)

theorem carryOut_frozen {body : Body} (hb : OnlyPortAndLink s (body s).2) : Freezes s (carryOut c body s) := by
  have answered := hb.trans (onlyPort { (body s).2.port with
    answer := some ⟨commandCode c, (body s).1.result, (body s).1.data⟩, taken := none } (body s).2)
  unfold carryOut
  split
  · refine ⟨_, rfl, ?_⟩
    have hend := endEvent_frozen h hn answered
    exact hend.symm ▸ answered
  · exact ⟨s, rfl, .refl s⟩

theorem carryOut_still {body : Body} (hb : (body s).2 = s) : Freezes s (carryOut c body s) :=
  carryOut_frozen h hn (by rw [hb]; exact .refl s)

end

/-- In DUPLICATE with both queues empty, what is no reset and no split completion leaves all but the local port and the link. -/
theorem exec_freezes (c : Instr) (h : s.station.state = .duplicate) (hrx : s.rx = []) (hs : s.tx.slots = [])
    (hn : (s.portions.map (·.item)).Nodup) (hr : isReset c = false) (hc : c ≠ .splitCompletion) : Freezes s (exec c s) := by
  cases c with
  | resetAsserted => exact nomatch hr
  | resetEnd straps => exact nomatch hr
  | periodPinEdge => exact event_still h hn (body := pinEdge) (if_neg fun hp => by simp [inService_frozen h] at hp)
  | periodLockoutExpiry => exact event_still h hn (body := lockoutExpiry) (if_pos h)
  | portTransaction pdi => exact event_frozen h hn (transaction_only pdi s)
  | status => exact carryOut_frozen h hn (body := statusBody) (clearStatus_only s)
  | nextNotice => exact carryOut_frozen h hn (nextNotice_only s)
  | setAttention mask => exact carryOut_still h hn (body := setAttentionBody mask) (readCommand_frozen h _ _)
  | readPage offset length => exact carryOut_still h hn (body := readPageBody offset length) (readCommand_frozen h _ _)
  | configure req => exact carryOut_still h hn (body := configureBody req) (by simp [configureBody, h, refuse])
  | loopbackOn => exact carryOut_still h hn (body := loopbackOnBody) (by simp [loopbackOnBody, h, refuse])
  | loopbackOff => exact carryOut_still h hn (body := loopbackOffBody) (by simp [loopbackOffBody, h, refuse])
  | join => exact carryOut_still h hn (body := joinBody) (by simp [joinBody, h, refuse])
  | laneRestart lane => exact carryOut_still h hn (restartLane_frozen h lane)
  | test dest payload => exact carryOut_still h hn (testBody_frozen h dest payload)
  | openTab label => exact carryOut_still h hn (body := openBody label) (job_frozen h _ _)
  | add home tab lines send => exact carryOut_still h hn (body := addBody home tab lines send) (job_frozen h _ _)
  | send tab => exact carryOut_still h hn (body := sendBody tab) (job_frozen h _ _)
  | lineVoid home tab line => exact carryOut_still h hn (body := lineVoidBody home tab line) (job_frozen h _ _)
  | tabVoid tab => exact carryOut_still h hn (body := tabVoidBody tab) (job_frozen h _ _)
  | release tab => exact carryOut_still h hn (body := releaseBody tab) (job_frozen h _ _)
  | query home tab => exact carryOut_still h hn (body := queryBody home tab) (job_frozen h _ _)
  | readTab tab => exact carryOut_still h hn (body := readTabBody tab) (readCommand_frozen h _ _)
  | split home tab count entries => exact carryOut_still h hn (body := splitBody home tab count entries) (job_frozen h _ _)
  | withdraw home tab => exact carryOut_still h hn (body := withdrawBody home tab) (job_frozen h _ _)
  | claim home tab share => exact carryOut_still h hn (body := claimBody home tab share) (job_frozen h _ _)
  | settle home tab share tender => exact carryOut_still h hn (body := settleBody home tab share tender) (job_frozen h _ _)
  | releaseShare home tab share => exact carryOut_still h hn (body := releaseShareBody home tab share) (job_frozen h _ _)
  | readClaims => exact carryOut_still h hn (body := readClaimsBody) (readCommand_frozen h _ _)
  | markPeriod => exact carryOut_still h hn (body := markPeriodBody) (job_frozen h _ _)
  | readCapture slot => exact carryOut_still h hn (body := readCaptureBody slot) (readCommand_frozen h _ _)
  | releaseCapture slot => exact carryOut_still h hn (body := releaseCaptureBody slot) (readCommand_frozen h _ _)
  | readPeers => exact carryOut_still h hn (body := readPeersBody) (readCommand_frozen h _ _)
  | retry ticket => exact carryOut_still h hn (body := retryBody ticket) (job_frozen h _ _)
  | refresh ticket => exact carryOut_still h hn (body := refreshBody ticket) (job_frozen h _ _)
  | abandon ticket => exact carryOut_still h hn (body := abandonBody ticket) (job_frozen h _ _)
  | readTickets => exact carryOut_still h hn (body := readTicketsBody) (readCommand_frozen h _ _)
  | fire ref => exact carryOut_still h hn (body := fireBody ref) (job_frozen h _ _)
  | ready ref => exact carryOut_still h hn (body := readyBody ref) (job_frozen h _ _)
  | collect ref => exact carryOut_still h hn (body := collectBody ref) (job_frozen h _ _)
  | kitchenVoid ref lines => exact carryOut_still h hn (body := kitchenVoidBody ref lines) (job_frozen h _ _)
  | readQueue => exact carryOut_still h hn (body := readQueueBody) (readCommand_frozen h _ _)
  | nextNew => exact carryOut_still h hn (body := nextNewBody) (readCommand_frozen h _ _)
  | load item n low => exact carryOut_still h hn (body := loadBody item n low) (job_frozen h _ _)
  | refill item n => exact carryOut_still h hn (body := refillBody item n) (job_frozen h _ _)
  | reloadToPreset item => exact carryOut_still h hn (body := reloadBody item) (job_frozen h _ _)
  | recount item n => exact carryOut_still h hn (body := recountBody item n) (job_frozen h _ _)
  | remove item => exact carryOut_still h hn (body := removeBody item) (job_frozen h _ _)
  | readPortions item => exact carryOut_still h hn (body := readPortionsBody item) (readCommand_frozen h _ _)
  | readStockView => exact carryOut_still h hn (body := readStockViewBody) (readCommand_frozen h _ _)
  | laneActivity lane => exact event_frozen h hn (body := laneActive lane) (.ite (moveLane_frozen h lane .hunt) (.refl s))
  | laneFrameStart lane => exact event_frozen h hn (body := frameStarts lane) (.ite (modRx_only _ _ s) (.refl s))
  | laneFrameEnd lane bits => exact event_frozen h hn (frameEnds_frozen h lane bits)
  | laneSilenceExpiry lane => exact event_frozen h hn (body := laneSilent lane) (.ite (moveLane_frozen h lane .down) (.refl s))
  | laneStuck lane => exact event_frozen h hn (laneHeld_frozen h lane)
  | laneRecessive lane => exact event_frozen h hn (body := laneFreed lane) (.ite (moveLane_frozen h lane .hunt) (.refl s))
  | twinWindowExpiry lane => exact event_frozen h hn (body := windowExpiry lane) (modRx_only _ _ s)
  | beaconFrame => exact event_still h hn (body := takeBeaconFrame) (deliver_empty _ _ hrx)
  | periodFrame => exact event_still h hn (body := takePeriodFrame) (deliver_empty _ _ hrx)
  | stockFrame => exact event_still h hn (body := takeStock) (deliver_empty _ _ hrx)
  | addFrame => exact event_still h hn (body := takeAdd) (request_empty _ _ _ _ _ _ hrx)
  | lineVoidFrame => exact event_still h hn (body := takeLineVoid) (request_empty _ _ _ _ _ _ hrx)
  | tabQueryFrame => exact event_still h hn (body := takeTabQuery) (request_empty _ _ _ _ _ _ hrx)
  | splitFrame => exact event_still h hn (body := takeSplit) (request_empty _ _ _ _ _ _ hrx)
  | withdrawFrame => exact event_still h hn (body := takeWithdraw) (request_empty _ _ _ _ _ _ hrx)
  | claimFrame => exact event_still h hn (body := takeClaim) (request_empty _ _ _ _ _ _ hrx)
  | settleFrame => exact event_still h hn (body := takeSettle) (request_empty _ _ _ _ _ _ hrx)
  | releaseFrame => exact event_still h hn (body := takeRelease) (request_empty _ _ _ _ _ _ hrx)
  | claimEndFrame => exact event_still h hn (body := takeClaimEnd) (deliver_empty _ _ hrx)
  | ticketFrame => exact event_still h hn (body := takeTicket) (request_empty _ _ _ _ _ _ hrx)
  | ticketVoidFrame => exact event_still h hn (body := takeTicketVoid) (request_empty _ _ _ _ _ _ hrx)
  | ticketQueryFrame => exact event_still h hn (body := takeTicketQuery) (request_empty _ _ _ _ _ _ hrx)
  | ticketStateFrame => exact event_still h hn (body := takeTicketState) (deliver_empty _ _ hrx)
  | testFrame => exact event_still h hn (body := takeTest) (deliver_empty _ _ hrx)
  | answerFrame => exact event_still h hn (body := takeAnswer) (deliver_empty _ _ hrx)
  | exchangeTimeout tag => exact event_still h hn (body := exchangeExpiry tag) (if_pos h)
  | splitCompletion => exact absurd rfl hc
  | holdTimerExpiry tab share => exact event_still h hn (body := holdExpiry tab share) (if_pos h)
  | localExpiry home tab share => exact event_still h hn (body := localExpired home tab share) (if_pos h)
  | silenceTimerExpiry station => exact event_still h hn (body := silenceExpiry station) (if_pos h)
  | intervalTimerExpiry => exact event_still h hn (body := intervalExpiry) (if_neg fun hp => by simp [inService_frozen h] at hp)
  | holdOffExpiry => exact event_still h hn (body := holdOffEnd) (if_neg fun hp => by simp [inService_frozen h] at hp)
  | joinWindowExpiry => exact event_still h hn (body := joinExpiry) (if_neg fun hp => by simp [h] at hp)
  | isolationTimerExpiry => exact event_still h hn (body := isolationExpiry) (if_neg fun hp => by simp [h] at hp)
  | warnTimerExpiry ref => exact event_still h hn (body := warnExpiry ref) (onTicket_frozen h ref _)
  | lateTimerExpiry ref => exact event_still h hn (body := lateExpiry ref) (onTicket_frozen h ref _)
  | collectTimerExpiry ref => exact event_still h hn (body := collectExpiry ref) (onTicket_frozen h ref _)
  | transmitStart => exact event_still h hn (startSending_frozen h)
  | arbitrationLost => exact event_frozen h hn (loseArbitration_frozen hs)
  | transmitFault => exact event_still h hn (body := takeFault) (by simp [takeFault, sending_empty hs])
  | transmitComplete => exact event_still h hn (body := completeSending) (by simp [completeSending, sending_empty hs])

end

/-- Settles O17: whatever runs there touches the local port and the link alone, and the end of the event has nothing to do. -/
theorem duplicateFreezesTheRecords : Obligations.DuplicateFreezesTheRecords := by
  intro c s t h hrx hs hn hr hc ht
  obtain ⟨u, hu, port, link, watched, rfl⟩ := exec_freezes c h hrx hs hn hr hc
  rw [hu] at ht
  cases ht
  exact ⟨rfl, hrx, hs, rfl, rfl, rfl, rfl, rfl, rfl, rfl, rfl, rfl, rfl, rfl, rfl, rfl⟩

end Sys2Proof.Machine
end

section
/-! The steps with nothing waiting, the reset rows, the rows that turn a command away or find nothing to act on, Open and Release. -/

namespace Sys2Proof.Machine

section
variable {s t : State} {c : Instr}

/-! ## A millisecond (log entries 6, 7 and 8) -/

theorem inService_iff : inService s = true ↔ s.station.state = .online ∨ s.station.state = .isolated := by
  simp [inService]

theorem tickReceiver_eq (r : Receiver) : tickReceiver r = if r.state = .stuck then r else { r with silence := Timer.tick r.silence } := by
  unfold tickReceiver
  split
  · rename_i h
    rw [if_pos h]
  · rename_i h
    rw [if_neg h]

theorem tick_lane (loop : Prop) [Decidable loop] (r : Receiver) :
    (if loop ∨ r.state = .stuck then r else { r with silence := Timer.tick r.silence }) = if loop then r else tickReceiver r := by
  by_cases h : loop
  · simp [h]
  · simp [h, tickReceiver_eq]

theorem tick_link (loop : Prop) [Decidable loop] (l : Link) :
    ({ l with a := if loop then l.a else tickReceiver l.a, b := if loop then l.b else tickReceiver l.b } : Link) =
      if loop then l else { l with a := tickReceiver l.a, b := tickReceiver l.b } := by
  by_cases h : loop
  · simp [h]
  · simp [h]

theorem step_idle (h : s.pending = []) : step s = idle s := by simp only [step, h]

end

/-- Settles O2: by the two parts of a millisecond, the clock with the lanes and the blocks' timers. -/
theorem emptyQueueStep : Obligations.EmptyQueueStep := by
  intro s h
  refine ⟨fun c hc => ?_, fun hnone hreset => ?_, fun hnone hreset => ⟨fun hdup => ?_, fun hdup => ?_⟩⟩
  · rw [step_idle h, idle, hc]
  · rw [step_idle h, idle, hnone, tick, if_pos hreset]
  · have hlink := tick_link (s.station.state = .loopback) s.link
    rw [step_idle h, idle, hnone, tick, if_neg (by simp [hreset]), if_pos hdup, ← hlink]
    simp only [← tick_lane]
    rfl
  · have hlink := tick_link (s.station.state = .loopback) s.link
    rw [step_idle h, idle, hnone, tick, if_neg (by simp [hreset]), if_neg hdup, ← hlink]
    simp only [← tick_lane, ← inService_iff]
    rfl

/-- Settles O4: both rows leave `State.resetWith`. -/
theorem resetLeavesResetValues : Obligations.ResetLeavesResetValues := by
  intro s straps h
  refine ⟨atReset true 0 s.pending, atReset false (straps % 128) s.pending, rfl, rfl, rfl, rfl, rfl, rfl, Nat.mod_eq_of_lt h, ?_⟩
  rintro t (rfl | rfl)
  · and_intros <;> rfl
  · and_intros <;> rfl

/-! ## The shape of a row -/

section
variable {s t : State} {c : Instr}

/-- A local command is carried out as one; what the catalogue does not list and is no reset is an event. -/
theorem exec_shape (c : Instr) (h : isReset c = false) :
    ((catalogue c).isSome = true ∧ ∃ body, ∀ s, exec c s = carryOut c body s) ∨
    ((catalogue c).isSome = false ∧ ∃ body, ∀ s, exec c s = event body s) := by
  cases c with
  | resetAsserted | resetEnd _ => exact nomatch h
  | periodPinEdge | periodLockoutExpiry | portTransaction _ | laneActivity _ | laneFrameStart _ | laneFrameEnd _ _
  | laneSilenceExpiry _ | laneStuck _ | laneRecessive _ | twinWindowExpiry _ | beaconFrame | periodFrame | stockFrame | addFrame
  | lineVoidFrame | tabQueryFrame | splitFrame | withdrawFrame | claimFrame | settleFrame | releaseFrame | claimEndFrame
  | ticketFrame | ticketVoidFrame | ticketQueryFrame | ticketStateFrame | testFrame | answerFrame | exchangeTimeout _
  | splitCompletion | holdTimerExpiry _ _ | localExpiry _ _ _ | silenceTimerExpiry _ | intervalTimerExpiry | holdOffExpiry
  | joinWindowExpiry | isolationTimerExpiry | warnTimerExpiry _ | lateTimerExpiry _ | collectTimerExpiry _ | transmitStart
  | arbitrationLost | transmitFault | transmitComplete => exact .inr ⟨rfl, _, fun _ => rfl⟩
  | status => exact .inl ⟨rfl, statusBody, fun _ => rfl⟩
  | nextNotice => exact .inl ⟨rfl, nextNoticeBody, fun _ => rfl⟩
  | setAttention mask => exact .inl ⟨rfl, setAttentionBody mask, fun _ => rfl⟩
  | readPage offset length => exact .inl ⟨rfl, readPageBody offset length, fun _ => rfl⟩
  | configure req => exact .inl ⟨rfl, configureBody req, fun _ => rfl⟩
  | loopbackOn => exact .inl ⟨rfl, loopbackOnBody, fun _ => rfl⟩
  | loopbackOff => exact .inl ⟨rfl, loopbackOffBody, fun _ => rfl⟩
  | join => exact .inl ⟨rfl, joinBody, fun _ => rfl⟩
  | laneRestart lane => exact .inl ⟨rfl, laneRestartBody lane, fun _ => rfl⟩
  | test dest payload => exact .inl ⟨rfl, testBody dest payload, fun _ => rfl⟩
  | openTab label => exact .inl ⟨rfl, openBody label, fun _ => rfl⟩
  | add home tab lines send => exact .inl ⟨rfl, addBody home tab lines send, fun _ => rfl⟩
  | send tab => exact .inl ⟨rfl, sendBody tab, fun _ => rfl⟩
  | lineVoid home tab line => exact .inl ⟨rfl, lineVoidBody home tab line, fun _ => rfl⟩
  | tabVoid tab => exact .inl ⟨rfl, tabVoidBody tab, fun _ => rfl⟩
  | release tab => exact .inl ⟨rfl, releaseBody tab, fun _ => rfl⟩
  | query home tab => exact .inl ⟨rfl, queryBody home tab, fun _ => rfl⟩
  | readTab tab => exact .inl ⟨rfl, readTabBody tab, fun _ => rfl⟩
  | split home tab count entries => exact .inl ⟨rfl, splitBody home tab count entries, fun _ => rfl⟩
  | withdraw home tab => exact .inl ⟨rfl, withdrawBody home tab, fun _ => rfl⟩
  | claim home tab share => exact .inl ⟨rfl, claimBody home tab share, fun _ => rfl⟩
  | settle home tab share tender => exact .inl ⟨rfl, settleBody home tab share tender, fun _ => rfl⟩
  | releaseShare home tab share => exact .inl ⟨rfl, releaseShareBody home tab share, fun _ => rfl⟩
  | readClaims => exact .inl ⟨rfl, readClaimsBody, fun _ => rfl⟩
  | markPeriod => exact .inl ⟨rfl, markPeriodBody, fun _ => rfl⟩
  | readCapture slot => exact .inl ⟨rfl, readCaptureBody slot, fun _ => rfl⟩
  | releaseCapture slot => exact .inl ⟨rfl, releaseCaptureBody slot, fun _ => rfl⟩
  | readPeers => exact .inl ⟨rfl, readPeersBody, fun _ => rfl⟩
  | retry ticket => exact .inl ⟨rfl, retryBody ticket, fun _ => rfl⟩
  | refresh ticket => exact .inl ⟨rfl, refreshBody ticket, fun _ => rfl⟩
  | abandon ticket => exact .inl ⟨rfl, abandonBody ticket, fun _ => rfl⟩
  | readTickets => exact .inl ⟨rfl, readTicketsBody, fun _ => rfl⟩
  | fire ref => exact .inl ⟨rfl, fireBody ref, fun _ => rfl⟩
  | ready ref => exact .inl ⟨rfl, readyBody ref, fun _ => rfl⟩
  | collect ref => exact .inl ⟨rfl, collectBody ref, fun _ => rfl⟩
  | kitchenVoid ref lines => exact .inl ⟨rfl, kitchenVoidBody ref lines, fun _ => rfl⟩
  | readQueue => exact .inl ⟨rfl, readQueueBody, fun _ => rfl⟩
  | nextNew => exact .inl ⟨rfl, nextNewBody, fun _ => rfl⟩
  | load item n low => exact .inl ⟨rfl, loadBody item n low, fun _ => rfl⟩
  | refill item n => exact .inl ⟨rfl, refillBody item n, fun _ => rfl⟩
  | reloadToPreset item => exact .inl ⟨rfl, reloadBody item, fun _ => rfl⟩
  | recount item n => exact .inl ⟨rfl, recountBody item n, fun _ => rfl⟩
  | remove item => exact .inl ⟨rfl, removeBody item, fun _ => rfl⟩
  | readPortions item => exact .inl ⟨rfl, readPortionsBody item, fun _ => rfl⟩
  | readStockView => exact .inl ⟨rfl, readStockViewBody, fun _ => rfl⟩

theorem commandTaken_in_reset (h : s.station.inReset = true) : commandTaken c s = false := by simp [commandTaken, h]

theorem commandTaken_beside {c' : Instr} (h : s.port.taken = some c') (hc : c ≠ c') : commandTaken c s = false := by
  simp [commandTaken, h, Ne.symm hc]

/-- An event whose rule finds nothing to act on is only the end of an event. -/
theorem event_idles {body : State → State} (h : s.station.inReset = false) (hb : body s = s) : event body s = .next (afterEvent s s) := by
  rw [event_runs _ h, hb]

theorem isPending_none : isPending none = false := rfl

theorem setRx_self (l : Link) (lane : Lane) : l.setRx (l.rx lane) lane = l := by cases lane <;> rfl

theorem modRx_fixed {lane : Lane} {f : Receiver → Receiver} (h : f (s.link.rx lane) = s.link.rx lane) : modRx lane f s = s := by
  unfold modRx
  rw [h, setRx_self]

theorem windowExpiry_closed {lane : Lane} (h : (s.link.rx lane).window = none) : windowExpiry lane s = s :=
  modRx_fixed (by rw [← h])

theorem lockoutExpiry_stopped (h : s.takings.lockout = none) : lockoutExpiry s = s := by
  have stopped : ({ s with takings := { s.takings with lockout := none } } : State) = s := by rw [← h]
  rw [lockoutExpiry, stopped, ite_self]

theorem driving_idle (h : ∀ x ∈ s.tx.slots, x.onWire = false) : driving s = false := by
  simpa [driving] using h

theorem sending_idle (h : ∀ x ∈ s.tx.slots, x.onWire = false) : sending s = none :=
  List.find?_eq_none.2 fun x hx => by simp [h x hx]

theorem loseArbitration_idle (h : ∀ x ∈ s.tx.slots, x.onWire = false) : loseArbitration s = s := by
  unfold loseArbitration
  rw [mapIf_none _ _ _ h, driving_idle h]
  exact ite_self s

theorem exec_in_reset (hr : isReset c = false) (h : s.station.inReset = true) : exec c s = .next s := by
  rcases exec_shape c hr with ⟨-, body, hb⟩ | ⟨-, body, hb⟩
  · rw [hb, carryOut_turned_away _ (commandTaken_in_reset h)]
  · rw [hb, event_in_reset _ h]

theorem exec_beside {c' : Instr} (ht : s.port.taken = some c') (hc : c ≠ c') (hl : (catalogue c).isSome = true) :
    exec c s = .next s := by
  have hr : isReset c = false := by
    cases c with
    | resetAsserted | resetEnd _ => exact nomatch hl
    | _ => rfl
  rcases exec_shape c hr with ⟨-, body, hb⟩ | ⟨hno, -⟩
  · rw [hb, carryOut_turned_away _ (commandTaken_beside ht hc)]
  · rw [hl] at hno
    exact nomatch hno

/-! ## Expiries of stopped timers (log entry 6) -/

theorem silenceExpiry_idle {k : Nat} (h : ∀ p, findPeer s k = some p → p.silence = none ∨ p.presence = .lost) : silenceExpiry k s = s := by
  unfold silenceExpiry
  split
  · rfl
  · split
    · rename_i p hp
      refine if_neg fun ⟨hpres, hpend⟩ => ?_
      rcases h p hp with hs | hl
      · rw [hs] at hpend; exact nomatch hpend
      · rw [hl] at hpres; exact nomatch hpres
    · rfl

theorem holdExpiry_idle {tab share : Nat} (h : ∀ sh, findShare s tab share = some sh → sh.hold = none ∨ sh.state ≠ .claimed) :
    holdExpiry tab share s = s := by
  unfold holdExpiry
  split
  · rfl
  · split
    · rename_i sh hsh
      refine if_neg fun ⟨hst, hpend⟩ => ?_
      rcases h sh hsh with hs | hl
      · rw [hs] at hpend; exact nomatch hpend
      · exact hl hst
    · rfl

theorem localExpired_idle {home tab share : Nat} (h : ∀ e, findClaim s home tab share = some e → e.expiry = none) :
    localExpired home tab share s = s := by
  unfold localExpired
  split
  · rfl
  · split
    · rfl
    · rename_i e he
      rw [h e he]
      rfl

theorem exchangeExpiry_idle {tag : Nat} (h : ∀ e ∈ s.exch.entries, e.tag = tag → e.timer = none) : exchangeExpiry tag s = s := by
  unfold exchangeExpiry
  split
  · rfl
  · split
    · rename_i e he
      rw [h e (List.mem_of_find?_eq_some he) (by simpa using List.find?_some he)]
      rfl
    · rfl

theorem onTicket_idle {ref : Nat} {f : Place → KTicket → State → State} (h : ∀ p t, s.kitchen.byRef ref = some (p, t) → f p t s = s) :
    onTicket ref f s = s := by
  unfold onTicket
  split
  · rfl
  · split
    · exact h _ _ ‹_›
    · rfl

theorem laneSilent_idle {lane : Lane} (h : (s.link.rx lane).silence = none) : laneSilent lane s = s :=
  if_neg fun hp => by rw [h] at hp; exact nomatch hp.2.2

theorem joinExpiry_idle (h : s.station.joinWindow = none ∨ s.station.state ≠ .joining) : joinExpiry s = s := by
  refine if_neg fun ⟨hst, hpend⟩ => ?_
  rcases h with hn | hs
  · rw [hn] at hpend; exact nomatch hpend
  · exact hs hst

theorem isolationExpiry_idle (h : s.station.isolation = none ∨ s.station.state ≠ .online) : isolationExpiry s = s := by
  refine if_neg fun ⟨hst, hpend⟩ => ?_
  rcases h with hn | hs
  · rw [hn] at hpend; exact nomatch hpend
  · exact hs hst

theorem intervalExpiry_idle (h : s.beacon.interval = none ∨ inService s = false) : intervalExpiry s = s := by
  refine if_neg fun ⟨hst, hpend⟩ => ?_
  rcases h with hn | hs
  · rw [hn] at hpend; exact nomatch hpend
  · rw [hs] at hst; exact nomatch hst

theorem holdOffEnd_idle (h : s.beacon.holdOff = none ∨ inService s = false) : holdOffEnd s = s := by
  refine if_neg fun ⟨hst, hpend⟩ => ?_
  rcases h with hn | hs
  · rw [hn] at hpend; exact nomatch hpend
  · rw [hs] at hst; exact nomatch hst

theorem completeSplit_idle (h : s.engine = none) : completeSplit s = s := by
  unfold completeSplit
  rw [h]

theorem takeFault_idle (h : ∀ x ∈ s.tx.slots, x.onWire = false) : takeFault s = s := by
  unfold takeFault
  rw [sending_idle h]

theorem completeSending_idle (h : ∀ x ∈ s.tx.slots, x.onWire = false) : completeSending s = s := by
  unfold completeSending
  rw [sending_idle h]

/-! ## Frames that are not delivered (R152, R162, R179) -/

theorem deliver_other {kind : Nat} {f : Frame} {rest : List Frame} (block : Frame → State → State) (h : s.rx = f :: rest)
    (hk : f.kind ≠ kind) : deliver kind block s = s := by
  unfold deliver
  simp only [h, if_neg hk]

theorem deliver_undeliverable {kind : Nat} {f : Frame} {rest : List Frame} (block : Frame → State → State) (h : s.rx = f :: rest)
    (hk : f.kind = kind) (hd : deliverable f = false) : deliver kind block s = settleRx (popped rest s) := by
  unfold deliver
  simp only [h, if_pos hk, hd]
  rfl

/-- The frame rows, each the delivery of its kind. -/
theorem frame_rows : ∀ row ∈ [(Kind.beacon, Instr.beaconFrame), (Kind.period, .periodFrame), (Kind.stock, .stockFrame),
      (Kind.add, .addFrame), (Kind.lineVoid, .lineVoidFrame), (Kind.tabQuery, .tabQueryFrame), (Kind.split, .splitFrame),
      (Kind.withdraw, .withdrawFrame), (Kind.claim, .claimFrame), (Kind.settle, .settleFrame), (Kind.release, .releaseFrame),
      (Kind.claimEnd, .claimEndFrame), (Kind.ticket, .ticketFrame), (Kind.ticketVoid, .ticketVoidFrame),
      (Kind.ticketQuery, .ticketQueryFrame), (Kind.ticketState, .ticketStateFrame), (Kind.test, .testFrame), (Kind.answer, .answerFrame)],
    ∃ block, ∀ s, exec row.2 s = event (deliver row.1 block) s := by
  simp only [List.forall_mem_cons]
  refine ⟨⟨_, fun _ => rfl⟩, ⟨_, fun _ => rfl⟩, ⟨_, fun _ => rfl⟩, ⟨_, fun _ => rfl⟩, ⟨_, fun _ => rfl⟩, ⟨_, fun _ => rfl⟩,
    ⟨_, fun _ => rfl⟩, ⟨_, fun _ => rfl⟩, ⟨_, fun _ => rfl⟩, ⟨_, fun _ => rfl⟩, ⟨_, fun _ => rfl⟩, ⟨_, fun _ => rfl⟩,
    ⟨_, fun _ => rfl⟩, ⟨_, fun _ => rfl⟩, ⟨_, fun _ => rfl⟩, ⟨_, fun _ => rfl⟩, ⟨_, fun _ => rfl⟩, ⟨_, fun _ => rfl⟩, fun _ h => nomatch h⟩

end

/-- Settles O5: by the shape of every row, and for each row of the third part by what its rule does with nothing to act on. -/
theorem turnedAwayCommandsChangeNothing : Obligations.TurnedAwayCommandsChangeNothing := by
  refine ⟨fun c s h hr => exec_in_reset hr h, fun c c' s ht hc hl => exec_beside ht hc hl, fun s h => ?_, fun row hrow s h => ?_⟩
  · have idles : ∀ {body : State → State}, body s = s → event body s = .next (afterEvent s s) := event_idles h
    exact ⟨fun hn => idles (body := lockoutExpiry) (lockoutExpiry_stopped hn), fun hn => idles (body := joinExpiry) (joinExpiry_idle hn),
      fun hn => idles (body := isolationExpiry) (isolationExpiry_idle hn), fun hn => idles (body := intervalExpiry) (intervalExpiry_idle hn),
      fun hn => idles (body := holdOffEnd) (holdOffEnd_idle hn), fun hn => idles (body := completeSplit) (completeSplit_idle hn),
      fun hn => ⟨idles (body := loseArbitration) (loseArbitration_idle hn), idles (body := takeFault) (takeFault_idle hn),
        idles (body := completeSending) (completeSending_idle hn)⟩,
      fun lane hn => idles (body := laneSilent lane) (laneSilent_idle hn),
      fun lane hn => idles (body := windowExpiry lane) (windowExpiry_closed hn),
      fun k hn => idles (body := silenceExpiry k) (silenceExpiry_idle hn),
      fun tab share hn => idles (body := holdExpiry tab share) (holdExpiry_idle hn),
      fun home tab share hn => idles (body := localExpired home tab share) (localExpired_idle hn),
      fun tag hn => idles (body := exchangeExpiry tag) (exchangeExpiry_idle hn),
      fun ref =>
        ⟨fun hn => idles (body := warnExpiry ref) (onTicket_idle fun p t ht => if_neg (by simp [hn p t ht, isPending])),
        fun hn => idles (body := lateExpiry ref) (onTicket_idle fun p t ht => if_neg (by simp [hn p t ht, isPending])),
        fun hn => idles (body := collectExpiry ref) (onTicket_idle fun p t ht => if_neg fun ⟨hp, hpend⟩ =>
          (hn p t ht).elim (fun hs => by rw [hs] at hpend; exact nomatch hpend) fun hs => hs hp)⟩⟩
  · obtain ⟨block, hblock⟩ := frame_rows row hrow
    refine ⟨fun hrx => ?_, fun f rest hrx => ⟨fun hk => ?_, fun hk hd => ?_⟩⟩
    · rw [hblock, event_idles h (deliver_empty _ _ hrx)]
    · rw [hblock, event_idles h (deliver_other _ hrx hk)]
    · rw [hblock, event_runs _ h, deliver_undeliverable _ hrx hk hd]
      rfl

/-! ## Open and Release (R2, R7, R19) -/

section
variable {s : State}

theorem freeTab_eq {n : Nat} (h1 : 1 ≤ n) (h64 : n ≤ 64) (hfree : ∀ t ∈ s.tabs, t.number ≠ n)
    (hleast : ∀ m, 1 ≤ m → m < n → ∃ t ∈ s.tabs, t.number = m) : freeTab s = some n := by
  refine leastFree_some h1 h64 ?_ fun m hm1 hmn => ?_
  · have hnone : findTab s n = none := List.find?_eq_none.2 fun t ht => by simpa using hfree t ht
    rw [hnone]
    rfl
  · obtain ⟨t, ht, hn⟩ := hleast m hm1 hmn
    exact List.find?_isSome.2 ⟨t, ht, by simpa using hn⟩

end

/-- Settles O18: the two commands' tests in their order. -/
theorem openAndReleaseTabs : Obligations.OpenAndReleaseTabs := by
  refine ⟨fun label n s h hroom hprint h1 h64 hfree hleast => ?_, fun tab t s h ht hst hnone => ?_, fun label s h => ⟨fun hfull => ?_,
    fun hroom hbad => ?_⟩, fun tab s h => ⟨fun hnone => ?_, fun t ht => ⟨fun hst => ?_, fun hst hopen => ?_⟩⟩⟩
  · refine (carryOut_job _ h).trans ?_
    have hcap : ¬Config.tabCapacity ≤ s.tabs.length := Nat.not_le_of_lt hroom
    have hall : (label.take 8).all printable = true := hprint
    simp only [if_neg hcap, hall, freeTab_eq h1 h64 hfree hleast]
    rfl
  · refine (carryOut_job _ h).trans ?_
    have hany : (s.router.tickets.any (·.tab == tab)) = false := by simpa using hnone
    simp only [ht, hst, hany]
    rfl
  · refine (carryOut_job _ h).trans ?_
    have hcap : Config.tabCapacity ≤ s.tabs.length := hfull
    simp only [if_pos hcap]
    rfl
  · refine (carryOut_job _ h).trans ?_
    have hcap : ¬Config.tabCapacity ≤ s.tabs.length := Nat.not_le_of_lt hroom
    have hall : (label.take 8).all printable = false := by
      obtain ⟨b, hb, hr⟩ := hbad
      refine List.all_eq_false.2 ⟨b, hb, ?_⟩
      simp only [printable, Bool.and_eq_true, decide_eq_true_eq]
      omega
    simp only [if_neg hcap, hall]
    rfl
  · refine (carryOut_job _ h).trans ?_
    simp only [hnone]
    rfl
  · refine (carryOut_job _ h).trans ?_
    simp only [ht, if_pos hst]
    rfl
  · refine (carryOut_job _ h).trans ?_
    have hany : (s.router.tickets.any (·.tab == tab)) = true := by simpa using hopen
    simp only [ht, hst, hany]
    rfl

end Sys2Proof.Machine
end

section
/-! The end of an event (R79, R82, R90, R120): the router's rounds, the tags its requests draw, and the stock reports. -/

namespace Sys2Proof.Machine

section
variable {s t : State}

/-! ## The tag a request draws (R166) -/

/-- The tags from a counter on, in the order they are tried. -/
def tagFrom (counter i : Nat) : Nat := if i = 0 then counter else (counter + i) % 256

theorem tagFrom_succ (counter i : Nat) : tagFrom ((counter + 1) % 256) i = tagFrom counter (i + 1) := by
  unfold tagFrom
  split
  · rename_i h
    simp [h]
  · rw [if_neg (Nat.succ_ne_zero i)]
    omega

theorem freeTag_drawn {used : List Nat} : ∀ {n i counter : Nat}, i < n → tagFrom counter i ∉ used →
    (∀ j, j < i → tagFrom counter j ∈ used) → freeTag n counter used = tagFrom counter i := by
  intro n
  induction n with
  | zero => exact fun hi => absurd hi (Nat.not_lt_zero _)
  | succ n ih =>
    intro i counter hi hfree hused
    unfold freeTag
    cases i with
    | zero =>
      have hnot : counter ∉ used := hfree
      rw [if_neg (by simpa using hnot)]
      rfl
    | succ i =>
      have hmem : counter ∈ used := hused 0 (Nat.succ_pos i)
      rw [if_pos (by simpa using hmem), ih (Nat.lt_of_succ_lt_succ hi) (by rw [tagFrom_succ]; exact hfree)
        fun j hj => by rw [tagFrom_succ]; exact hused (j + 1) (Nat.succ_lt_succ hj), tagFrom_succ]

/-- The tag is the counter's, or the first after it that no live entry holds. -/
def Drawn (s : State) (c : Nat) : Prop :=
  ∃ i, i < 8 ∧ c = tagFrom s.exch.counter i ∧ (∀ e ∈ s.exch.entries, e.tag ≠ c) ∧
    ∀ j, j < i → ∃ e ∈ s.exch.entries, e.tag = tagFrom s.exch.counter j

theorem freeTag_of_drawn {c : Nat} (h : Drawn s c) :
    freeTag Config.exchangeCapacity s.exch.counter (s.exch.entries.map (·.tag)) = c := by
  obtain ⟨i, hi, rfl, hfree, hused⟩ := h
  refine freeTag_drawn hi (fun hm => ?_) fun j hj => ?_
  · obtain ⟨e, he, heq⟩ := List.mem_map.1 hm
    exact hfree e he heq
  · obtain ⟨e, he, heq⟩ := hused j hj
    exact List.mem_map.2 ⟨e, he, heq⟩

theorem exchangeFree_iff : exchangeFree s = true ↔ s.exch.entries.length < 8 := by
  simp only [exchangeFree, decide_eq_true_eq]
  exact Iff.rfl

/-- A request frame is offered under its tag, which is used up (R166). -/
def offerRequest (kind dest c : Nat) (payload : Bytes) (s : State) : Bool × State :=
  sendFrame ⟨kind, dest, c, payload⟩ { s with exch := { s.exch with counter := (c + 1) % 256 } }

theorem openExchange_drawn {kind dest subject share c : Nat} {owner : Owner} {payload : Bytes}
    (hl : kind = Kind.test ∨ isLost s dest = false) (he : s.exch.entries.length < 8) (hc : Drawn s c) :
    openExchange kind dest subject share owner payload s =
      if (offerRequest kind dest c payload s).1 then
        (.STARTED,
          { (offerRequest kind dest c payload s).2 with
            exch :=
              { (offerRequest kind dest c payload s).2.exch with
                entries := s.exch.entries ++ [⟨c, kind, dest, subject, share, owner, some 300⟩] } })
      else (.LINK_BUSY, (offerRequest kind dest c payload s).2) := by
  have hlost : ¬(kind ≠ Kind.test ∧ isLost s dest = true) := by
    rintro ⟨hk, hi⟩
    rcases hl with h | h
    · exact hk h
    · rw [hi] at h; exact nomatch h
  have hfree : ¬exchangeFree s = false := by rw [exchangeFree_iff.2 he]; decide
  have hkept : (offerRequest kind dest c payload s).2.exch.entries = s.exch.entries := by simp [offerRequest]
  unfold openExchange
  rw [if_neg hlost, if_neg hfree, freeTag_of_drawn hc, ← hkept]
  rfl

theorem openExchange_lost {kind dest subject share : Nat} {owner : Owner} {payload : Bytes} (hk : kind ≠ Kind.test)
    (hl : isLost s dest = true) :
    openExchange kind dest subject share owner payload s = (if isKitchenRequest kind then .KITCHEN_LOST else .HOME_LOST, s) := by
  unfold openExchange
  rw [if_pos ⟨hk, hl⟩]

/-! ## One round of the router (R79, R90) -/

theorem find_first {α : Type} {p : α → Bool} {l before after : List α} {a : α} (hl : l = before ++ a :: after) (ha : p a = true)
    (hb : ∀ x ∈ before, p x = false) : l.find? p = some a :=
  List.find?_eq_some_iff_append.2 ⟨ha, before, after, hl, fun x hx => by simp [hb x hx]⟩

/-- A record the router can act on now: bound for no kitchen, for its own, or for a peer with the offer pause clear. -/
theorem offerable_iff {t : Ticket} :
    offerable s t = true ↔ t.state = .pending ∧ ∀ k, chooseKitchen s t = some k → k = own s ∨ s.router.pause = false := by
  unfold offerable
  cases chooseKitchen s t with
  | none => simp
  | some k => simp

theorem ownOfferable_iff {t : Ticket} : ownOfferable s t = true ↔ t.state = .pending ∧ own s ∈ candidates s t := by
  simp [ownOfferable]

theorem round_full {n : Nat} (hst : s.station.state = .online) (he : 8 ≤ s.exch.entries.length) : routerLoop (n + 1) s = s := by
  have hfull : ¬exchangeFree s = true := fun h => Nat.not_lt_of_le he (exchangeFree_iff.1 h)
  rw [routerLoop, if_pos hst, if_neg hfull]

theorem round_void {n : Nat} {e : VoidEntry} {rest : List VoidEntry} (hst : s.station.state = .online)
    (he : s.exch.entries.length < 8) (hv : s.router.voids = e :: rest) : routerLoop (n + 1) s = routerLoop n (sendVoid e rest s) := by
  rw [routerLoop, if_pos hst, if_pos (exchangeFree_iff.2 he)]
  simp only [hv]

theorem round_idle {n : Nat} (hst : s.station.state = .online) (he : s.exch.entries.length < 8) (hv : s.router.voids = [])
    (hnone : s.router.tickets.find? (offerable s) = none) : routerLoop (n + 1) s = s := by
  rw [routerLoop, if_pos hst, if_pos (exchangeFree_iff.2 he)]
  simp only [hv, hnone]

theorem round_unrouted {n : Nat} {t : Ticket} (hst : s.station.state = .online) (he : s.exch.entries.length < 8) (hv : s.router.voids = [])
    (ht : s.router.tickets.find? (offerable s) = some t) (hk : chooseKitchen s t = none) :
    routerLoop (n + 1) s = routerLoop n (unroute t .noCandidate s) := by
  rw [routerLoop, if_pos hst, if_pos (exchangeFree_iff.2 he)]
  simp only [hv, ht, hk]

theorem round_offer {n k : Nat} {t : Ticket} (hst : s.station.state = .online) (he : s.exch.entries.length < 8) (hv : s.router.voids = [])
    (ht : s.router.tickets.find? (offerable s) = some t) (hk : chooseKitchen s t = some k) :
    routerLoop (n + 1) s = routerLoop n (offerTo t k s) := by
  rw [routerLoop, if_pos hst, if_pos (exchangeFree_iff.2 he)]
  simp only [hv, ht, hk]

theorem round_isolated_idle {n : Nat} (hst : s.station.state = .isolated) (hnone : s.router.tickets.find? (ownOfferable s) = none) :
    routerLoop (n + 1) s = s := by
  rw [routerLoop, if_neg (by rw [hst]; decide), if_pos hst]
  simp only [hnone]

theorem round_isolated {n : Nat} {t : Ticket} (hst : s.station.state = .isolated)
    (ht : s.router.tickets.find? (ownOfferable s) = some t) : routerLoop (n + 1) s = routerLoop n (offerTo t (own s) s) := by
  rw [routerLoop, if_neg (by rw [hst]; decide), if_pos hst]
  simp only [ht]

theorem routerLoop_quiet (n : Nat) (h : routerQuiet s = true) : routerLoop n s = s := by
  simp only [routerQuiet, Bool.and_eq_true, List.isEmpty_iff, List.all_eq_true, bne_iff_ne, ne_eq] at h
  obtain ⟨hvoids, htickets⟩ := h
  cases n with
  | zero => rfl
  | succ n =>
    by_cases honline : s.station.state = .online
    · by_cases he : s.exch.entries.length < 8
      · exact round_idle honline he hvoids (List.find?_eq_none.2 fun t ht => by simp [offerable_iff, htickets t ht])
      · exact round_full honline (Nat.le_of_not_lt he)
    · by_cases hisolated : s.station.state = .isolated
      · exact round_isolated_idle hisolated (List.find?_eq_none.2 fun t ht => by simp [ownOfferable_iff, htickets t ht])
      · exact routerLoop_out _ honline hisolated

/-- An event ends with nothing done where nothing waits for the router and no stock state changed. -/
theorem endEvent_quiet {before : List Portion} (hq : routerQuiet s = true) (hn : (s.portions.map (·.item)).Nodup)
    (h : stockStates before = stockStates s.portions) : endEvent before s = s := by
  unfold endEvent routerWork
  rw [routerLoop_quiet _ hq]
  exact stockReports_same hn h

theorem endEvent_keeps (before : List Portion) (s : State) : KeepsOuter s (endEvent before s) :=
  (routerWork_keeps s).trans (stockReports_keeps before _)

/-! ## The stock reports (R120, R121) -/

theorem stockReports_changed (before : List Portion) (u : State) :
    stockReports before u =
      (u.portions.filter fun p => (before.find? (·.item == p.item)).map stockState != some (stockState p)).foldl
        (fun v p => reportStock p.item ((before.find? (·.item == p.item)).map stockState) (some (stockState p)) p.remaining v)
        ((before.filter fun p => !u.portions.any (·.item == p.item)).foldl
          (fun v p => reportStock p.item (some (stockState p)) none p.remaining v) u) := by
  rw [List.foldl_filter]
  unfold stockReports
  dsimp only
  congr 1
  funext v p
  by_cases h : (before.find? (·.item == p.item)).map stockState = some (stockState p)
  · rw [if_pos h, if_neg (by simp [h])]
  · rw [if_neg h, if_pos (by simpa using h)]

theorem queueStock_replaces {item remaining : Nat} {st : StockState}
    (h : ∃ x ∈ s.tx.slots, (stockItem x.frame == some item && !x.begun) = true) :
    queueStock item st remaining s =
      { s with
        tx :=
          { s.tx with
            slots := mapIf (fun x => stockItem x.frame == some item && !x.begun)
              (fun x => { x with frame := { x.frame with payload := eStockPayload item st remaining } }) s.tx.slots } } := by
  have hany : (s.tx.slots.any fun x => stockItem x.frame == some item && !x.begun) = true := List.any_eq_true.2 h
  simp only [queueStock, replaceUnsent, hany, if_true]

theorem queueStock_queues {item remaining : Nat} {st : StockState}
    (h : ∀ x ∈ s.tx.slots, (stockItem x.frame == some item && !x.begun) = false) :
    queueStock item st remaining s = (sendFrame ⟨Kind.stock, allStations, 0, eStockPayload item st remaining⟩ s).2 := by
  have hany : (s.tx.slots.any fun x => stockItem x.frame == some item && !x.begun) = false := by
    rw [List.any_eq_false]
    exact fun x hx => by simp only [h x hx]; decide
  simp only [queueStock, replaceUnsent, hany, Bool.false_eq_true, if_false]

/-! ## Offers and void requests (R82, R90) -/

theorem offerTo_own {t : Ticket} :
    offerTo t (own s) s =
      let offered := modTicket t.number (fun r => { r with attempts := r.attempts + 1, state := .offered (own s) }) s
      let kitchen := takeOffer ownReport noAnswer (own s) (buildOffer s t) offered
      if kitchen.1.result = .ACCEPT then takeAccept ownVoid t.number (own s) kitchen.2.kitchen.depth kitchen.2
      else failOffer t.number (own s) kitchen.2 := by
  simp only [offerTo, if_true]

/-- A record out for an offer to a kitchen. -/
def offeredTo (t : Ticket) (k : Nat) (s : State) : State :=
  modTicket t.number (fun r => { r with attempts := r.attempts + 1, state := .offered k }) s

/-- The exchange an offer to a peer opens (R82). -/
def offerExchange (t : Ticket) (k : Nat) (s : State) : Result × State :=
  openExchange Kind.ticket k t.number 0 .offer (eOfferPayload (buildOffer s t)) (offeredTo t k s)

section
variable {t : Ticket} {k : Nat} {u : State}

theorem offerTo_started (hk : k ≠ own s) (h : offerExchange t k s = (.STARTED, u)) : offerTo t k s = u := by
  unfold offerExchange offeredTo at h
  simp only [offerTo, if_neg hk, h]

theorem offerTo_busy (hk : k ≠ own s) (h : offerExchange t k s = (.LINK_BUSY, u)) :
    offerTo t k s =
      { modTicket t.number (fun _ => t) u with router := { (modTicket t.number (fun _ => t) u).router with pause := true } } := by
  unfold offerExchange offeredTo at h
  simp only [offerTo, if_neg hk, h]

theorem offerTo_lost (hk : k ≠ own s) (h : offerExchange t k s = (.KITCHEN_LOST, u)) : offerTo t k s = failOffer t.number k u := by
  unfold offerExchange offeredTo at h
  simp only [offerTo, if_neg hk, h]

end

/-- The exchange that the sending of a void request opens (R90). -/
def voidExchange (e : VoidEntry) (rest : List VoidEntry) (s : State) : Result × State :=
  openExchange Kind.ticketVoid e.kitchen e.ticket 0 (.void e.purpose e.tab e.lines) (e2 e.ticket ++ eList e1 e.lines)
    { s with router := { s.router with voids := rest } }

section
variable {e : VoidEntry} {rest : List VoidEntry} {u : State}

theorem sendVoid_started (h : voidExchange e rest s = (.STARTED, u)) : sendVoid e rest s = u := by
  unfold voidExchange at h
  simp only [sendVoid, h]

theorem sendVoid_failed {r : Result} (hr : r ≠ .STARTED) (h : voidExchange e rest s = (r, u)) :
    sendVoid e rest s = voidEnd e (.failed r.code) u := by
  unfold voidExchange at h
  simp only [sendVoid, h]

end

end

/-- Settles O6: clause by clause, from what each operation of the event's end does. -/
theorem eventEnds : Obligations.EventEnds := by
  refine ⟨fun before s hq hn h => endEvent_quiet hq hn h, fun before s => ?_, fun before s => ⟨rfl, ?_⟩, fun item remaining st s =>
    ⟨queueStock_replaces, queueStock_queues⟩, fun n s => ⟨round_full, fun hst he => ⟨fun e rest hv => ?_, fun hv =>
    ⟨fun before t after hl ht hb => ⟨fun hnone => ?_, fun k hk => ?_⟩, fun hnone => ?_⟩⟩, fun hst => ⟨fun before t after hl ht hb => ?_,
    fun hnone => ?_⟩, routerLoop_out _⟩, fun t k s => ⟨fun hk => ?_, fun hk hl => ?_, fun hk hl he c hc => ⟨fun hsent => ?_, fun hsent => ?_⟩⟩,
    fun e rest s => ⟨fun hl => ?_, fun hl he c hc => ⟨fun hsent => ?_, fun hsent => ?_⟩⟩, fun t reason s => rfl⟩
  · have h := endEvent_keeps before s
    exact ⟨h.station, h.cfg, h.claims, h.stock, h.link, h.rx, h.period, h.spanStart, h.deferral, h.slot1, h.slot2, h.lockout, h.answer,
      h.taken, h.mask, h.snapshot, h.pdo, h.pending⟩
  · exact stockReports_changed before (routerWork s)
  · exact round_void hst he hv
  · exact round_unrouted hst he hv (find_first hl (offerable_iff.2 ht) fun x hx => by simpa using mt offerable_iff.1 (hb x hx)) hnone
  · exact round_offer hst he hv (find_first hl (offerable_iff.2 ht) fun x hx => by simpa using mt offerable_iff.1 (hb x hx)) hk
  · exact round_idle hst he hv (List.find?_eq_none.2 fun x hx => mt offerable_iff.1 (hnone x hx))
  · exact round_isolated hst (find_first hl (ownOfferable_iff.2 ht) fun x hx => by simpa using mt ownOfferable_iff.1 (hb x hx))
  · exact round_isolated_idle hst (List.find?_eq_none.2 fun x hx => mt ownOfferable_iff.1 (hnone x hx))
  · subst hk
    exact ⟨fun hacc => offerTo_own.trans (if_pos hacc), fun hacc => offerTo_own.trans (if_neg hacc)⟩
  · exact offerTo_lost hk (openExchange_lost (s := offeredTo t k s) (by decide) hl)
  · exact offerTo_started hk ((openExchange_drawn (s := offeredTo t k s) (c := c) (.inr hl) he hc).trans (if_pos hsent))
  · refine offerTo_busy hk ((openExchange_drawn (s := offeredTo t k s) (c := c) (.inr hl) he hc).trans (if_neg ?_))
    exact Bool.eq_false_iff.1 hsent
  · exact sendVoid_failed (by decide) (openExchange_lost (s := { s with router := { s.router with voids := rest } }) (by decide) hl)
  · exact sendVoid_started
      ((openExchange_drawn (s := { s with router := { s.router with voids := rest } }) (c := c) (.inr hl) he hc).trans (if_pos hsent))
  · refine sendVoid_failed (by decide)
      ((openExchange_drawn (s := { s with router := { s.router with voids := rest } }) (c := c) (.inr hl) he hc).trans (if_neg ?_))
    exact Bool.eq_false_iff.1 hsent

end Sys2Proof.Machine
end

section
/-! The local port (R172 to R178): the tests of the catalogue, what the port makes of the bytes it is given, Status and the notices. -/

namespace Sys2Proof.Machine

section
variable {s t : State} {c : Instr}

/-! ## The catalogue's tests (R178) -/

/-- A command's rule answers a wrong station state, and then a missing role, before anything else. -/
structure Tested (k : TakenIn) (role : Option Role) (body : Body) (s : State) : Prop where
  state : k.holds s.station.state = false →
    body s = (.bare (if k = .offline ∧ s.station.state ≠ .duplicate then .CONFIG_LOCKED else .STATE), s)
  role : k.holds s.station.state = true → ∀ r, role = some r → hasRole s r = false → body s = (.bare .NOT_SERVED, s)

theorem tested_all (body : Body) (s : State) : Tested .all none body s := ⟨fun h => (nomatch h), fun _ _ h => nomatch h⟩

theorem tested_job (role : Option Role) (body : Body) (s : State) : Tested .job role (job role body) s where
  state h := job_out_of_service role body h
  role h r hr hno := by
    subst hr
    exact job_without_role body h hno

theorem tested_read (role : Option Role) (body : Body) (s : State) : Tested .allButDuplicate role (readCommand role body) s where
  state h := by
    have hst : s.station.state = .duplicate := by simpa [TakenIn.holds] using h
    exact if_pos hst
  role h r hr hno := by
    have hst : s.station.state ≠ .duplicate := by simpa [TakenIn.holds] using h
    subst hr
    unfold readCommand needRole
    rw [if_neg hst]
    exact if_neg (by rw [hno]; decide)

/-- Without a role only the station state is tested. -/
theorem tested_state {k : TakenIn} {body : Body} (h : k.holds s.station.state = false →
    body s = (.bare (if k = .offline ∧ s.station.state ≠ .duplicate then .CONFIG_LOCKED else .STATE), s)) : Tested k none body s :=
  ⟨h, fun _ _ hr => nomatch hr⟩

theorem tested_configure (q : ConfigReq) (s : State) : Tested .offline none (configureBody q) s := by
  refine tested_state fun h => ?_
  have hst : s.station.state ≠ .offline := by simpa [TakenIn.holds] using h
  unfold configureBody
  split
  · exact absurd ‹_› hst
  · rename_i hdup
    rw [if_neg fun hc => hc.2 hdup]
    rfl
  · rename_i hdup
    rw [if_pos ⟨rfl, hdup⟩]
    rfl

theorem tested_loopbackOn (s : State) : Tested .configured none loopbackOnBody s :=
  tested_state fun h => if_neg (by simpa [TakenIn.holds] using h)

theorem tested_loopbackOff (s : State) : Tested .loopback none loopbackOffBody s :=
  tested_state fun h => if_neg (by simpa [TakenIn.holds] using h)

theorem tested_join (s : State) : Tested .configured none joinBody s :=
  tested_state fun h => if_neg (by simpa [TakenIn.holds] using h)

theorem tested_laneRestart (lane : Nat) (s : State) : Tested .allButLoopbackAndDuplicate none (laneRestartBody lane) s := by
  refine tested_state fun h => ?_
  have hst : s.station.state = .loopback ∨ s.station.state = .duplicate := by
    refine Classical.byContradiction fun hno => ?_
    rw [not_or] at hno
    simp [TakenIn.holds, hno.1, hno.2] at h
  unfold laneRestartBody
  rcases hst with hl | hl <;> rw [hl] <;> rfl

theorem tested_test (dest : Nat) (payload : Bytes) (s : State) : Tested .loopbackAndJob none (testBody dest payload) s := by
  refine tested_state fun h => ?_
  have htest : testable s = false := by
    rw [testable, inService, ← Bool.or_assoc]
    exact h
  unfold testBody
  rw [htest]
  rfl

/-- Every command of the catalogue is carried out by a rule that makes the catalogue's tests first. -/
theorem exec_tested {k : TakenIn} {role : Option Role} (c : Instr) (s : State) (h : catalogue c = some (k, role)) :
    ∃ body, (∀ s, exec c s = carryOut c body s) ∧ Tested k role body s := by
  cases c <;> cases h
  case status => exact ⟨statusBody, fun _ => rfl, tested_all _ s⟩
  case nextNotice => exact ⟨nextNoticeBody, fun _ => rfl, tested_all _ s⟩
  case setAttention mask => exact ⟨setAttentionBody mask, fun _ => rfl, tested_read _ _ s⟩
  case readPage offset length => exact ⟨readPageBody offset length, fun _ => rfl, tested_read _ _ s⟩
  case configure req => exact ⟨configureBody req, fun _ => rfl, tested_configure req s⟩
  case loopbackOn => exact ⟨loopbackOnBody, fun _ => rfl, tested_loopbackOn s⟩
  case loopbackOff => exact ⟨loopbackOffBody, fun _ => rfl, tested_loopbackOff s⟩
  case join => exact ⟨joinBody, fun _ => rfl, tested_join s⟩
  case laneRestart lane => exact ⟨laneRestartBody lane, fun _ => rfl, tested_laneRestart lane s⟩
  case test dest payload => exact ⟨testBody dest payload, fun _ => rfl, tested_test dest payload s⟩
  case openTab label => exact ⟨openBody label, fun _ => rfl, tested_job _ _ s⟩
  case add home tab lines send => exact ⟨addBody home tab lines send, fun _ => rfl, tested_job _ _ s⟩
  case send tab => exact ⟨sendBody tab, fun _ => rfl, tested_job _ _ s⟩
  case lineVoid home tab line => exact ⟨lineVoidBody home tab line, fun _ => rfl, tested_job _ _ s⟩
  case tabVoid tab => exact ⟨tabVoidBody tab, fun _ => rfl, tested_job _ _ s⟩
  case release tab => exact ⟨releaseBody tab, fun _ => rfl, tested_job _ _ s⟩
  case query home tab => exact ⟨queryBody home tab, fun _ => rfl, tested_job _ _ s⟩
  case readTab tab => exact ⟨readTabBody tab, fun _ => rfl, tested_read _ _ s⟩
  case split home tab count entries => exact ⟨splitBody home tab count entries, fun _ => rfl, tested_job _ _ s⟩
  case withdraw home tab => exact ⟨withdrawBody home tab, fun _ => rfl, tested_job _ _ s⟩
  case claim home tab share => exact ⟨claimBody home tab share, fun _ => rfl, tested_job _ _ s⟩
  case settle home tab share tender => exact ⟨settleBody home tab share tender, fun _ => rfl, tested_job _ _ s⟩
  case releaseShare home tab share => exact ⟨releaseShareBody home tab share, fun _ => rfl, tested_job _ _ s⟩
  case readClaims => exact ⟨readClaimsBody, fun _ => rfl, tested_read _ _ s⟩
  case markPeriod => exact ⟨markPeriodBody, fun _ => rfl, tested_job _ _ s⟩
  case readCapture slot => exact ⟨readCaptureBody slot, fun _ => rfl, tested_read _ _ s⟩
  case releaseCapture slot => exact ⟨releaseCaptureBody slot, fun _ => rfl, tested_read _ _ s⟩
  case readPeers => exact ⟨readPeersBody, fun _ => rfl, tested_read _ _ s⟩
  case retry ticket => exact ⟨retryBody ticket, fun _ => rfl, tested_job _ _ s⟩
  case refresh ticket => exact ⟨refreshBody ticket, fun _ => rfl, tested_job _ _ s⟩
  case abandon ticket => exact ⟨abandonBody ticket, fun _ => rfl, tested_job _ _ s⟩
  case readTickets => exact ⟨readTicketsBody, fun _ => rfl, tested_read _ _ s⟩
  case fire ref => exact ⟨fireBody ref, fun _ => rfl, tested_job _ _ s⟩
  case ready ref => exact ⟨readyBody ref, fun _ => rfl, tested_job _ _ s⟩
  case collect ref => exact ⟨collectBody ref, fun _ => rfl, tested_job _ _ s⟩
  case kitchenVoid ref lines => exact ⟨kitchenVoidBody ref lines, fun _ => rfl, tested_job _ _ s⟩
  case readQueue => exact ⟨readQueueBody, fun _ => rfl, tested_read _ _ s⟩
  case nextNew => exact ⟨nextNewBody, fun _ => rfl, tested_read _ _ s⟩
  case load item n low => exact ⟨loadBody item n low, fun _ => rfl, tested_job _ _ s⟩
  case refill item n => exact ⟨refillBody item n, fun _ => rfl, tested_job _ _ s⟩
  case reloadToPreset item => exact ⟨reloadBody item, fun _ => rfl, tested_job _ _ s⟩
  case recount item n => exact ⟨recountBody item n, fun _ => rfl, tested_job _ _ s⟩
  case remove item => exact ⟨removeBody item, fun _ => rfl, tested_job _ _ s⟩
  case readPortions item => exact ⟨readPortionsBody item, fun _ => rfl, tested_read _ _ s⟩
  case readStockView => exact ⟨readStockViewBody, fun _ => rfl, tested_read _ _ s⟩

end

/-- Settles O7: a command taken answers what its rule's first failing test gives. -/
theorem catalogueTestsComeFirst : Obligations.CatalogueTestsComeFirst := by
  intro c k role s hc htaken
  obtain ⟨body, hexec, htests⟩ := exec_tested c s hc
  refine ⟨fun hst => ?_, fun hst r hr hno => ?_⟩
  · rw [hexec, carryOut_taken body htaken, htests.state hst]
  · rw [hexec, carryOut_taken body htaken, htests.role hst r hr hno]

end Sys2Proof.Machine
end

section
/-! Fields, lists and commands read from bytes (chapter Formats, R180): a reader takes exactly what the encoding writes, and what it takes
is the encoding of what it gives. -/

namespace Sys2Proof.Machine

/-- A reader and an encoding that undo each other on the values `ok`. -/
structure Codec {α : Type} (r : Reader α) (e : α → Bytes) (ok : α → Prop) : Prop where
  reads : ∀ a rest, ok a → r (e a ++ rest) = some (a, rest)
  sound : ∀ bs a rest, r bs = some (a, rest) → ok a ∧ bs = e a ++ rest

section
variable {α β γ : Type} {ra : Reader α} {ea : α → Bytes} {oa : α → Prop} {rb : Reader β} {eb : β → Bytes} {ob : β → Prop}
  {rc : Reader γ} {ec : γ → Bytes} {oc : γ → Prop}

/-! ## Readers in sequence -/

theorem Codec.step (h : Codec ra ea oa) {f : α → Reader β} {bs rest : Bytes} {b : β} (hr : (ra >>= f) bs = some (b, rest)) :
    ∃ a bs', oa a ∧ bs = ea a ++ bs' ∧ f a bs' = some (b, rest) := by
  rw [reader_bind] at hr
  obtain ⟨⟨a, bs'⟩, ha, hf⟩ := Option.bind_eq_some_iff.1 hr
  obtain ⟨hok, hbs⟩ := h.sound _ _ _ ha
  exact ⟨a, bs', hok, hbs, hf⟩

theorem pure_some {a : α} {bs rest : Bytes} {b : α} (h : (pure a : Reader α) bs = some (b, rest)) : b = a ∧ rest = bs := by
  rw [reader_pure] at h
  cases h
  exact ⟨rfl, rfl⟩

theorem Codec.pair (ha : Codec ra ea oa) (hb : Codec rb eb ob) :
    Codec (ra >>= fun a => rb >>= fun b => pure (a, b)) (fun p => ea p.1 ++ eb p.2) (fun p => oa p.1 ∧ ob p.2) where
  reads p rest hp := by
    rw [List.append_assoc, reader_step (ha.reads _ _ hp.1), reader_step (hb.reads _ _ hp.2)]
    rfl
  sound bs p rest h := by
    obtain ⟨a, bs1, hoa, rfl, hr1⟩ := ha.step h
    obtain ⟨b, bs2, hob, rfl, hr2⟩ := hb.step hr1
    obtain ⟨rfl, rfl⟩ := pure_some hr2
    exact ⟨⟨hoa, hob⟩, by rw [List.append_assoc]⟩

/-! ## Fields -/

theorem e2_bytes (x y : Byte) : e2 (x.toNat * 256 + y.toNat) = [x, y] := by
  have hx := x.isLt
  have hy := y.isLt
  have hhigh : (x.toNat * 256 + y.toNat) / 256 = x.toNat := by omega
  have hlow : byteOf (x.toNat * 256 + y.toNat) = y := by
    apply BitVec.eq_of_toNat_eq
    rw [toNat_byteOf]
    omega
  rw [e2, hhigh, hlow, byteOf_toNat]

theorem codec_byte : Codec Reader.byte (fun b => [b]) fun _ => True where
  reads b rest _ := byte_cons b rest
  sound bs b rest h := by
    cases bs with
    | nil => exact nomatch h
    | cons x bs =>
      rw [byte_cons] at h
      cases h
      exact ⟨trivial, rfl⟩

theorem codec_n1 : Codec Reader.n1 e1 (· < 256) where
  reads n rest h := n1_e1 h rest
  sound bs n rest h := by
    cases bs with
    | nil => exact nomatch h
    | cons b bs =>
      rw [n1_cons] at h
      cases h
      exact ⟨b.isLt, by rw [e1, byteOf_toNat]; rfl⟩

theorem codec_n2 : Codec Reader.n2 e2 (· < 65536) where
  reads n rest h := n2_e2 h rest
  sound bs n rest h := by
    match bs, h with
    | [], h => exact nomatch h
    | [_], h => exact nomatch h
    | x :: y :: bs, h =>
      have hr : Reader.n2 (x :: y :: bs) = some (x.toNat * 256 + y.toNat, bs) := rfl
      rw [hr] at h
      cases h
      have hx := x.isLt
      have hy := y.isLt
      exact ⟨by omega, by rw [e2_bytes]; rfl⟩

theorem codec_opt (h : Codec ra ea oa) : Codec (Reader.opt ra) (eOpt ea) fun v => ∀ a, v = some a → oa a where
  reads v rest hv := opt_eOpt v (fun a ha rest => h.reads a rest (hv a ha)) rest
  sound bs v rest hr := by
    unfold Reader.opt at hr
    obtain ⟨p, bs', -, rfl, hr1⟩ := codec_n1.step hr
    split at hr1
    · rename_i hp
      obtain ⟨rfl, rfl⟩ := pure_some hr1
      subst hp
      exact ⟨(fun _ ha => nomatch ha), rfl⟩
    · split at hr1
      · rename_i hp
        obtain ⟨a, bs'', hoa, rfl, hr2⟩ := h.step hr1
        obtain ⟨rfl, rfl⟩ := pure_some hr2
        subst hp
        exact ⟨(fun _ ha => by cases ha; exact hoa), rfl⟩
      · exact nomatch hr1

theorem times_sound (h : Codec ra ea oa) : ∀ n bs l rest, Reader.times ra n bs = some (l, rest) →
    l.length = n ∧ (∀ a ∈ l, oa a) ∧ bs = (l.map ea).flatten ++ rest := by
  intro n
  induction n with
  | zero =>
    intro bs l rest hr
    obtain ⟨rfl, rfl⟩ := pure_some hr
    exact ⟨rfl, fun _ ha => (nomatch ha), rfl⟩
  | succ n ih =>
    intro bs l rest hr
    obtain ⟨a, bs', hoa, rfl, hr1⟩ := h.step hr
    rw [reader_bind] at hr1
    obtain ⟨⟨l', bs''⟩, hl, hr9⟩ := Option.bind_eq_some_iff.1 hr1
    obtain ⟨hlen, hok, rfl⟩ := ih _ _ _ hl
    obtain ⟨rfl, rfl⟩ := pure_some hr9
    refine ⟨by rw [List.length_cons, hlen], fun x hx => ?_, by simp⟩
    rcases List.mem_cons.1 hx with rfl | hx
    · exact hoa
    · exact hok x hx

theorem codec_list (h : Codec ra ea oa) : Codec (Reader.list ra) (eList ea) fun l => l.length ≤ 255 ∧ ∀ a ∈ l, oa a where
  reads l rest hl := list_eList l hl.1 (fun a ha rest => h.reads a rest (hl.2 a ha)) rest
  sound bs l rest hr := by
    unfold Reader.list at hr
    obtain ⟨n, bs', hn, rfl, hr1⟩ := codec_n1.step hr
    obtain ⟨hlen, hok, rfl⟩ := times_sound h _ _ _ _ hr1
    have hfits : l.length ≤ 255 := by omega
    exact ⟨⟨hfits, hok⟩, by rw [eList, eCount, if_pos hfits, hlen]; rfl⟩

end

theorem codec_tabRef : Codec rTabRef (fun p => e1 p.1 ++ e2 p.2) fun p => p.1 < 256 ∧ p.2 < 65536 := codec_n1.pair codec_n2

theorem codec_splitEntry : Codec rSplitEntry (fun e => e1 e.line ++ [e.sharers]) fun e => e.line < 256 where
  reads e rest h := rSplitEntry_cons h rest
  sound bs e rest hr := by
    obtain ⟨n, bs1, hn, rfl, hr1⟩ := codec_n1.step hr
    obtain ⟨b, bs2, -, rfl, hr2⟩ := codec_byte.step hr1
    obtain ⟨rfl, rfl⟩ := pure_some hr2
    exact ⟨hn, by rw [List.append_assoc]⟩

theorem codec_lineReq : Codec rLineReq eLineReq fun l => l.fits = true ∧ l.mods.length ≤ 255 where
  reads l rest h := rLineReq_eLineReq h.1 h.2 rest
  sound bs l rest hr := by
    obtain ⟨item, b1, h1, rfl, hr1⟩ := codec_n2.step hr
    obtain ⟨price, b2, h2, rfl, hr2⟩ := codec_n2.step hr1
    obtain ⟨qty, b3, h3, rfl, hr3⟩ := codec_n1.step hr2
    obtain ⟨tax, b4, h4, rfl, hr4⟩ := codec_n1.step hr3
    obtain ⟨prep, b5, h5, rfl, hr5⟩ := codec_n1.step hr4
    obtain ⟨rush, b6, h6, rfl, hr6⟩ := codec_n1.step hr5
    obtain ⟨mods, b7, h7, rfl, hr7⟩ := (codec_list codec_n2).step hr6
    obtain ⟨rfl, rfl⟩ := pure_some hr7
    refine ⟨⟨?_, h7.1⟩, by simp only [eLineReq, List.append_assoc]⟩
    simpa [LineReq.fits, fits1, fits2, h1, h2, h3, h4, h5, h6] using h7.2

theorem fitsOpt_of {f : Nat → Bool} {v : Option Nat} {n : Nat} (hf : ∀ a, a < n → f a = true) (h : ∀ a, v = some a → a < n) :
    fitsOpt f v = true := by
  cases v with
  | none => rfl
  | some a => exact hf a (h a rfl)

theorem codec_config : Codec rConfig eConfigReq fun q => q.fits = true where
  reads q rest h := rConfig_eConfigReq h rest
  sound bs q rest hr := by
    obtain ⟨roles, b1, -, rfl, hr1⟩ := codec_byte.step hr
    obtain ⟨prep, b2, -, rfl, hr2⟩ := codec_byte.step hr1
    obtain ⟨r0, b3, h3, rfl, hr3⟩ := codec_n2.step hr2
    obtain ⟨r1, b4, h4, rfl, hr4⟩ := codec_n2.step hr3
    obtain ⟨r2, b5, h5, rfl, hr5⟩ := codec_n2.step hr4
    obtain ⟨r3, b6, h6, rfl, hr6⟩ := codec_n2.step hr5
    obtain ⟨rounding, b7, h7, rfl, hr7⟩ := codec_n1.step hr6
    obtain ⟨interval, b8, h8, rfl, hr8⟩ := (codec_opt codec_n2).step hr7
    obtain ⟨lockCount, b9, h9, rfl, hr9⟩ := (codec_opt codec_n1).step hr8
    obtain ⟨claimHold, b10, h10, rfl, hr10⟩ := (codec_opt codec_n2).step hr9
    obtain ⟨fireLimit, b11, h11, rfl, hr11⟩ := (codec_opt codec_n1).step hr10
    obtain ⟨autoFire, b12, h12, rfl, hr12⟩ := (codec_opt codec_n1).step hr11
    obtain ⟨holdMark, b13, h13, rfl, hr13⟩ := (codec_opt codec_n1).step hr12
    obtain ⟨releaseMark, b14, h14, rfl, hr14⟩ := (codec_opt codec_n1).step hr13
    obtain ⟨warn, b15, h15, rfl, hr15⟩ := (codec_opt codec_n2).step hr14
    obtain ⟨late, b16, h16, rfl, hr16⟩ := (codec_opt codec_n2).step hr15
    obtain ⟨collect, b17, h17, rfl, hr17⟩ := (codec_opt codec_n2).step hr16
    obtain ⟨rfl, rfl⟩ := pure_some hr17
    have f1 : ∀ {v : Option Nat}, (∀ a, v = some a → a < 256) → fitsOpt fits1 v = true := fitsOpt_of fun _ => decide_eq_true
    have f2 : ∀ {v : Option Nat}, (∀ a, v = some a → a < 65536) → fitsOpt fits2 v = true := fitsOpt_of fun _ => decide_eq_true
    refine ⟨?_, by simp only [eConfigReq, List.append_assoc]⟩
    simp only [ConfigReq.fits, Bool.and_eq_true]
    exact ⟨⟨⟨⟨⟨⟨⟨⟨⟨⟨⟨⟨⟨⟨decide_eq_true h3, decide_eq_true h4⟩, decide_eq_true h5⟩, decide_eq_true h6⟩, decide_eq_true h7⟩, f2 h8⟩,
      f1 h9⟩, f2 h10⟩, f1 h11⟩, f1 h12⟩, f1 h13⟩, f1 h14⟩, f2 h15⟩, f2 h16⟩, f2 h17⟩

end Sys2Proof.Machine
end

section
/-! Local commands read from their parameter bytes (R178, R180): for every code of the catalogue but Loopback's, the reader of its layout and
the writing of its parameters undo each other. -/

namespace Sys2Proof.Machine

/-- Every operand fits its field, and every list its count byte. -/
def fieldsFit : Instr → Prop
  | .test dest payload => dest < 256 ∧ payload.length ≤ 255
  | .openTab label => label.length ≤ 255
  | .add home tab lines send =>
    (home < 256 ∧ tab < 65536) ∧ (lines.length ≤ 255 ∧ ∀ l ∈ lines, l.fits = true ∧ l.mods.length ≤ 255) ∧ send < 256
  | .split home tab count entries => (home < 256 ∧ tab < 65536) ∧ count < 256 ∧ entries.length ≤ 255 ∧ ∀ e ∈ entries, e.line < 256
  | .kitchenVoid ref lines => ref < 256 ∧ lines.length ≤ 255 ∧ ∀ n ∈ lines, n < 256
  | c => c.wellFormed = true

/-! ## Sizes -/

theorem length_eList {α : Type} (e : α → Bytes) (l : List α) : (eList e l).length = 1 + (l.map fun a => (e a).length).sum := by
  simp [eList, List.length_flatten, Function.comp_def]
  omega

theorem length_eList_const {α : Type} {e : α → Bytes} {n : Nat} (he : ∀ a, (e a).length = n) (l : List α) :
    (eList e l).length = 1 + n * l.length := by
  rw [length_eList, List.map_congr_left fun a _ => he a, List.map_const', List.sum_replicate_nat, Nat.mul_comm]

theorem length_eList_e1 (l : List Nat) : (eList e1 l).length = 1 + 1 * l.length :=
  length_eList_const (e := e1) (n := 1) (fun _ => rfl) l

theorem length_eList_e2 (l : List Nat) : (eList e2 l).length = 1 + 2 * l.length :=
  length_eList_const (e := e2) (n := 2) (fun _ => rfl) l

theorem length_eList_bytes (l : Bytes) : (eList (fun b => [b]) l).length = 1 + 1 * l.length :=
  length_eList_const (e := fun b : Byte => [b]) (n := 1) (fun _ => rfl) l

theorem length_eList_entries (l : List SplitEntry) : (eList (fun e => e1 e.line ++ [e.sharers]) l).length = 1 + 2 * l.length :=
  length_eList_const (e := fun e : SplitEntry => e1 e.line ++ [e.sharers]) (n := 2) (fun _ => rfl) l

theorem length_eLineReq (l : LineReq) : (eLineReq l).length = l.size := by
  simp only [eLineReq, List.length_append, length_eList_e2, e1, e2, List.length_cons, List.length_nil, LineReq.size]
  omega

theorem length_eOpt_le {e : Nat → Bytes} {n : Nat} (he : ∀ a, (e a).length = n) (v : Option Nat) : (eOpt e v).length ≤ n + 1 := by
  cases v with
  | none => exact Nat.le_add_left _ _
  | some a => simp [eOpt, he]

theorem length_eConfigReq_le (q : ConfigReq) : (eConfigReq q).length ≤ 36 := by
  have h1 := fun v => length_eOpt_le (e := e1) (n := 1) (fun _ => rfl) v
  have h2 := fun v => length_eOpt_le (e := e2) (n := 2) (fun _ => rfl) v
  have hi := h2 q.interval
  have hl := h1 q.lockCount
  have hc := h2 q.claimHold
  have hf := h1 q.fireLimit
  have ha := h1 q.autoFire
  have hh := h1 q.holdMark
  have hr := h1 q.releaseMark
  have hw := h2 q.warnTime
  have ht := h2 q.lateTime
  have ho := h2 q.collectTimeout
  simp only [eConfigReq, List.length_append, e1, e2, List.length_cons, List.length_nil] at *
  omega

theorem mem_le_sum {α : Type} {f : α → Nat} {l : List α} {a : α} (h : a ∈ l) : f a ≤ (l.map f).sum := by
  induction l with
  | nil => exact absurd h List.not_mem_nil
  | cons x l ih =>
    rw [List.map_cons, List.sum_cons]
    rcases List.mem_cons.1 h with rfl | h
    · exact Nat.le_add_right _ _
    · exact Nat.le_trans (ih h) (Nat.le_add_left _ _)

theorem length_le_sum {α : Type} {f : α → Nat} {n : Nat} (hf : ∀ a, n ≤ f a) (l : List α) : n * l.length ≤ (l.map f).sum := by
  induction l with
  | nil => exact Nat.le_refl _
  | cons a l ih =>
    have ha := hf a
    rw [List.length_cons, List.map_cons, List.sum_cons, Nat.mul_succ]
    omega

theorem add_wellFormed_iff (home tab send : Nat) (lines : List LineReq) :
    (Instr.add home tab lines send).wellFormed = true ↔
      fieldsFit (.add home tab lines send) ∧ (commandParams (.add home tab lines send)).length ≤ 255 := by
  have hlen : (commandParams (.add home tab lines send)).length = 5 + (lines.map (·.size)).sum := by
    simp only [commandParams, List.length_append, length_eList, length_eLineReq, e1, e2, List.length_cons, List.length_nil]
    omega
  rw [hlen]
  have hcount : (lines.map (·.size)).sum ≤ 250 → lines.length ≤ 255 := fun h => by
    have hle : 1 * lines.length ≤ (lines.map (·.size)).sum := length_le_sum (fun l => by unfold LineReq.size; omega) lines
    omega
  have hmods : (lines.map (·.size)).sum ≤ 250 → ∀ l ∈ lines, l.mods.length ≤ 255 := fun h l hl => by
    have hle : l.size ≤ (lines.map (·.size)).sum := mem_le_sum hl
    have hsize : l.size = 9 + 2 * l.mods.length := rfl
    omega
  simp only [Instr.wellFormed, fieldsFit, fits1, fits2, Bool.and_eq_true, decide_eq_true_eq, List.all_eq_true]
  constructor
  · rintro ⟨⟨⟨⟨h1, h2⟩, h3⟩, h4⟩, h5⟩
    have htotal : 5 + (lines.map (·.size)).sum ≤ 255 := h5
    have hsum : (lines.map (·.size)).sum ≤ 250 := by omega
    exact ⟨⟨⟨h1, h2⟩, ⟨hcount hsum, fun l hl => ⟨h3 l hl, hmods hsum l hl⟩⟩, h4⟩, h5⟩
  · rintro ⟨⟨⟨h1, h2⟩, ⟨-, h3⟩, h4⟩, h5⟩
    exact ⟨⟨⟨⟨h1, h2⟩, fun l hl => (h3 l hl).1⟩, h4⟩, h5⟩

theorem split_wellFormed_iff (home tab count : Nat) (entries : List SplitEntry) :
    (Instr.split home tab count entries).wellFormed = true ↔
      fieldsFit (.split home tab count entries) ∧ (commandParams (.split home tab count entries)).length ≤ 255 := by
  have hlen : (commandParams (.split home tab count entries)).length = 5 + 2 * entries.length := by
    simp only [commandParams, List.length_append, length_eList_entries]
    simp only [e1, e2, List.length_cons, List.length_nil]
    omega
  rw [hlen]
  simp only [Instr.wellFormed, fieldsFit, fits1, fits2, Bool.and_eq_true, decide_eq_true_eq, List.all_eq_true]
  constructor
  · rintro ⟨⟨⟨⟨h1, h2⟩, h3⟩, h4⟩, h5⟩
    have htotal : 5 + 2 * entries.length ≤ 255 := h5
    exact ⟨⟨⟨h1, h2⟩, h3, by omega, h4⟩, h5⟩
  · rintro ⟨⟨⟨h1, h2⟩, h3, -, h4⟩, h5⟩
    exact ⟨⟨⟨⟨h1, h2⟩, h3⟩, h4⟩, h5⟩

theorem kitchenVoid_wellFormed_iff (ref : Nat) (lines : List Nat) :
    (Instr.kitchenVoid ref lines).wellFormed = true ↔
      fieldsFit (.kitchenVoid ref lines) ∧ (commandParams (.kitchenVoid ref lines)).length ≤ 255 := by
  have hlen : (commandParams (.kitchenVoid ref lines)).length = 2 + lines.length := by
    simp only [commandParams, List.length_append, length_eList_e1]
    simp only [e1, List.length_cons, List.length_nil]
    omega
  rw [hlen]
  simp only [Instr.wellFormed, fieldsFit, fits1, Bool.and_eq_true, decide_eq_true_eq, List.all_eq_true]
  constructor
  · rintro ⟨⟨h1, h2⟩, h3⟩
    have htotal : 2 + lines.length ≤ 255 := h3
    exact ⟨⟨h1, by omega, h2⟩, h3⟩
  · rintro ⟨⟨h1, -, h2⟩, h3⟩
    exact ⟨⟨h1, h2⟩, h3⟩

/-- A command of the catalogue is well formed where its operands fit their fields and its parameters their length byte. -/
theorem wellFormed_iff {c : Instr} (h : (catalogue c).isSome = true) :
    c.wellFormed = true ↔ fieldsFit c ∧ (commandParams c).length ≤ 255 := by
  have small : ∀ {c : Instr}, (commandParams c).length ≤ 255 → (fieldsFit c ↔ c.wellFormed = true) →
      (c.wellFormed = true ↔ fieldsFit c ∧ (commandParams c).length ≤ 255) :=
    fun hlen hfit => ⟨fun hw => ⟨hfit.2 hw, hlen⟩, fun hb => hfit.1 hb.1⟩
  cases c with
  | add home tab lines send => exact add_wellFormed_iff home tab send lines
  | split home tab count entries => exact split_wellFormed_iff home tab count entries
  | kitchenVoid ref lines => exact kitchenVoid_wellFormed_iff ref lines
  | test dest payload =>
    have hlen : (commandParams (.test dest payload)).length = 2 + payload.length := by
      simp only [commandParams, List.length_append, length_eList_bytes]
      simp only [e1, List.length_cons, List.length_nil]
      omega
    rw [hlen]
    simp only [Instr.wellFormed, fieldsFit, fits1, Bool.and_eq_true, decide_eq_true_eq]
    have hmax : maxParams = 255 := rfl
    omega
  | openTab label =>
    have hlen : (commandParams (.openTab label)).length = 1 + label.length := by
      simp only [commandParams, length_eList_bytes, Nat.one_mul]
    rw [hlen]
    simp only [Instr.wellFormed, fieldsFit, decide_eq_true_eq]
    have hmax : maxParams = 255 := rfl
    omega
  | configure q => exact small (Nat.le_trans (length_eConfigReq_le q) (by decide)) Iff.rfl
  | readPortions item => exact small (Nat.le_trans (length_eOpt_le (e := e2) (n := 2) (fun _ => rfl) item) (by decide)) Iff.rfl
  | status | nextNotice | setAttention _ | readPage _ _ | loopbackOn | loopbackOff | join | laneRestart _ | send _ | lineVoid _ _ _
  | tabVoid _ | release _ | query _ _ | readTab _ | withdraw _ _ | claim _ _ _ | settle _ _ _ _ | releaseShare _ _ _ | readClaims
  | markPeriod | readCapture _ | releaseCapture _ | readPeers | retry _ | refresh _ | abandon _ | readTickets | fire _ | ready _
  | collect _ | readQueue | nextNew | load _ _ _ | refill _ _ | reloadToPreset _ | recount _ _ | remove _ | readStockView =>
    exact small (Nat.le_of_ble_eq_true rfl) Iff.rfl
  | _ => exact nomatch h

/-! ## The layouts, one operand after another -/

/-- What the reader of a code takes from bytes: a command of that code, with its parameters in front. -/
structure ReadAs (code : Nat) (bs : Bytes) (c : Instr) (rest : Bytes) : Prop where
  fits : fieldsFit c
  listed : (catalogue c).isSome = true
  code : commandCode c = code
  bytes : bs = commandParams c ++ rest

section
variable {α β γ : Type} {ra : Reader α} {ea : α → Bytes} {oa : α → Prop} {rb : Reader β} {eb : β → Bytes} {ob : β → Prop}
  {rc : Reader γ} {ec : γ → Bytes} {oc : γ → Prop} {code : Nat} {bs rest : Bytes} {c : Instr}

theorem readAs_none {c' : Instr} (hfit : fieldsFit c') (hl : (catalogue c').isSome = true) (hc : commandCode c' = code)
    (hp : commandParams c' = []) (h : (pure c' : Reader Instr) bs = some (c, rest)) : ReadAs code bs c rest := by
  obtain ⟨rfl, rfl⟩ := pure_some h
  exact ⟨hfit, hl, hc, by rw [hp]; rfl⟩

theorem readAs_one {mk : α → Instr} (ha : Codec ra ea oa) (hfit : ∀ a, oa a → fieldsFit (mk a))
    (hl : ∀ a, (catalogue (mk a)).isSome = true) (hc : ∀ a, commandCode (mk a) = code) (hp : ∀ a, commandParams (mk a) = ea a)
    (h : (ra >>= fun a => pure (mk a)) bs = some (c, rest)) : ReadAs code bs c rest := by
  obtain ⟨a, bs1, hoa, rfl, h1⟩ := ha.step h
  obtain ⟨rfl, rfl⟩ := pure_some h1
  exact ⟨hfit a hoa, hl a, hc a, by rw [hp]⟩

theorem readAs_two {mk : α → β → Instr} (ha : Codec ra ea oa) (hb : Codec rb eb ob) (hfit : ∀ a b, oa a → ob b → fieldsFit (mk a b))
    (hl : ∀ a b, (catalogue (mk a b)).isSome = true) (hc : ∀ a b, commandCode (mk a b) = code)
    (hp : ∀ a b, commandParams (mk a b) = ea a ++ eb b)
    (h : (ra >>= fun a => rb >>= fun b => pure (mk a b)) bs = some (c, rest)) : ReadAs code bs c rest := by
  obtain ⟨a, bs1, hoa, rfl, h1⟩ := ha.step h
  obtain ⟨b, bs2, hob, rfl, h2⟩ := hb.step h1
  obtain ⟨rfl, rfl⟩ := pure_some h2
  exact ⟨hfit a b hoa hob, hl a b, hc a b, by rw [hp, List.append_assoc]⟩

theorem readAs_three {mk : α → β → γ → Instr} (ha : Codec ra ea oa) (hb : Codec rb eb ob) (hcod : Codec rc ec oc)
    (hfit : ∀ a b x, oa a → ob b → oc x → fieldsFit (mk a b x)) (hl : ∀ a b x, (catalogue (mk a b x)).isSome = true)
    (hc : ∀ a b x, commandCode (mk a b x) = code) (hp : ∀ a b x, commandParams (mk a b x) = ea a ++ eb b ++ ec x)
    (h : (ra >>= fun a => rb >>= fun b => rc >>= fun x => pure (mk a b x)) bs = some (c, rest)) : ReadAs code bs c rest := by
  obtain ⟨a, bs1, hoa, rfl, h1⟩ := ha.step h
  obtain ⟨b, bs2, hob, rfl, h2⟩ := hb.step h1
  obtain ⟨x, bs3, hoc, rfl, h3⟩ := hcod.step h2
  obtain ⟨rfl, rfl⟩ := pure_some h3
  exact ⟨hfit a b x hoa hob hoc, hl a b x, hc a b x, by rw [hp, List.append_assoc, List.append_assoc]⟩

theorem reads_one (mk : α → Instr) (ha : Codec ra ea oa) (a : α) (h1 : oa a) :
    (ra >>= fun a => pure (mk a)) (ea a ++ rest) = some (mk a, rest) := reader_step (ha.reads _ _ h1)

theorem reads_two (mk : α → β → Instr) (ha : Codec ra ea oa) (hb : Codec rb eb ob) (a : α) (b : β) (h1 : oa a) (h2 : ob b) :
    (ra >>= fun a => rb >>= fun b => pure (mk a b)) (ea a ++ eb b ++ rest) = some (mk a b, rest) := by
  rw [List.append_assoc, reader_step (ha.reads _ _ h1), reader_step (hb.reads _ _ h2)]
  rfl

theorem reads_three (mk : α → β → γ → Instr) (ha : Codec ra ea oa) (hb : Codec rb eb ob) (hc : Codec rc ec oc)
    (a : α) (b : β) (x : γ) (h1 : oa a) (h2 : ob b) (h3 : oc x) :
    (ra >>= fun a => rb >>= fun b => rc >>= fun x => pure (mk a b x)) (ea a ++ eb b ++ ec x ++ rest) = some (mk a b x, rest) := by
  rw [List.append_assoc, List.append_assoc, reader_step (ha.reads _ _ h1), reader_step (hb.reads _ _ h2), reader_step (hc.reads _ _ h3)]
  rfl

end

theorem of_fits1 {n : Nat} (h : fits1 n = true) : n < 256 := of_decide_eq_true h

theorem of_fits2 {n : Nat} (h : fits2 n = true) : n < 65536 := of_decide_eq_true h

theorem of_and {a b : Bool} (h : (a && b) = true) : a = true ∧ b = true := by simpa using h

/-! ## Every code -/

/-- A command's own reader takes its parameters and leaves the rest. -/
theorem rCommand_reads {c : Instr} (hf : fieldsFit c) (hl : (catalogue c).isSome = true) (h6 : commandCode c ≠ 6) (rest : Bytes) :
    rCommand (commandCode c) (commandParams c ++ rest) = some (c, rest) := by
  cases c with
  | status | nextNotice | join | markPeriod | readClaims | readTickets | readStockView | readPeers | readQueue | nextNew => rfl
  | loopbackOn | loopbackOff => exact absurd rfl h6
  | setAttention mask => exact reads_one .setAttention codec_byte mask trivial
  | readPage offset length => exact reads_two .readPage codec_n2 codec_n1 offset length (of_fits2 (of_and hf).1) (of_fits1 (of_and hf).2)
  | configure q => exact reads_one .configure codec_config q hf
  | laneRestart lane => exact reads_one .laneRestart codec_n1 lane (of_fits1 hf)
  | test dest payload => exact reads_two .test codec_n1 (codec_list codec_byte) dest payload hf.1 ⟨hf.2, fun _ _ => trivial⟩
  | openTab label => exact reads_one .openTab (codec_list codec_byte) label ⟨hf, fun _ _ => trivial⟩
  | add home tab lines send =>
    exact reads_three (fun (p : Nat × Nat) => .add p.1 p.2) codec_tabRef (codec_list codec_lineReq) codec_n1 (home, tab) lines send hf.1 hf.2.1 hf.2.2
  | send tab => exact reads_one .send codec_n2 tab (of_fits2 hf)
  | tabVoid tab => exact reads_one .tabVoid codec_n2 tab (of_fits2 hf)
  | release tab => exact reads_one .release codec_n2 tab (of_fits2 hf)
  | readTab tab => exact reads_one .readTab codec_n2 tab (of_fits2 hf)
  | retry ticket => exact reads_one .retry codec_n2 ticket (of_fits2 hf)
  | refresh ticket => exact reads_one .refresh codec_n2 ticket (of_fits2 hf)
  | abandon ticket => exact reads_one .abandon codec_n2 ticket (of_fits2 hf)
  | reloadToPreset item => exact reads_one .reloadToPreset codec_n2 item (of_fits2 hf)
  | remove item => exact reads_one .remove codec_n2 item (of_fits2 hf)
  | readCapture slot => exact reads_one .readCapture codec_n1 slot (of_fits1 hf)
  | releaseCapture slot => exact reads_one .releaseCapture codec_n1 slot (of_fits1 hf)
  | fire ref => exact reads_one .fire codec_n1 ref (of_fits1 hf)
  | ready ref => exact reads_one .ready codec_n1 ref (of_fits1 hf)
  | collect ref => exact reads_one .collect codec_n1 ref (of_fits1 hf)
  | query home tab =>
    obtain ⟨h1, h2⟩ := of_and hf
    exact reads_one (fun (p : Nat × Nat) => .query p.1 p.2) codec_tabRef (home, tab) ⟨of_fits1 h1, of_fits2 h2⟩
  | withdraw home tab =>
    obtain ⟨h1, h2⟩ := of_and hf
    exact reads_one (fun (p : Nat × Nat) => .withdraw p.1 p.2) codec_tabRef (home, tab) ⟨of_fits1 h1, of_fits2 h2⟩
  | lineVoid home tab line =>
    obtain ⟨h12, h3⟩ := of_and hf
    obtain ⟨h1, h2⟩ := of_and h12
    exact reads_two (fun (p : Nat × Nat) => .lineVoid p.1 p.2) codec_tabRef codec_n1 (home, tab) line ⟨of_fits1 h1, of_fits2 h2⟩ (of_fits1 h3)
  | claim home tab share =>
    obtain ⟨h12, h3⟩ := of_and hf
    obtain ⟨h1, h2⟩ := of_and h12
    exact reads_two (fun (p : Nat × Nat) => .claim p.1 p.2) codec_tabRef codec_n1 (home, tab) share ⟨of_fits1 h1, of_fits2 h2⟩ (of_fits1 h3)
  | releaseShare home tab share =>
    obtain ⟨h12, h3⟩ := of_and hf
    obtain ⟨h1, h2⟩ := of_and h12
    exact reads_two (fun (p : Nat × Nat) => .releaseShare p.1 p.2) codec_tabRef codec_n1 (home, tab) share ⟨of_fits1 h1, of_fits2 h2⟩ (of_fits1 h3)
  | settle home tab share tender =>
    obtain ⟨h123, h4⟩ := of_and hf
    obtain ⟨h12, h3⟩ := of_and h123
    obtain ⟨h1, h2⟩ := of_and h12
    exact reads_three (fun (p : Nat × Nat) => .settle p.1 p.2) codec_tabRef codec_n1 codec_n1 (home, tab) share tender ⟨of_fits1 h1, of_fits2 h2⟩
      (of_fits1 h3) (of_fits1 h4)
  | split home tab count entries =>
    exact reads_three (fun (p : Nat × Nat) => .split p.1 p.2) codec_tabRef codec_n1 (codec_list codec_splitEntry) (home, tab) count entries hf.1 hf.2.1 hf.2.2
  | kitchenVoid ref lines => exact reads_two .kitchenVoid codec_n1 (codec_list codec_n1) ref lines hf.1 hf.2
  | load item n low =>
    obtain ⟨h12, h3⟩ := of_and hf
    obtain ⟨h1, h2⟩ := of_and h12
    exact reads_three .load codec_n2 codec_n2 codec_n2 item n low (of_fits2 h1) (of_fits2 h2) (of_fits2 h3)
  | refill item n => exact reads_two .refill codec_n2 codec_n2 item n (of_fits2 (of_and hf).1) (of_fits2 (of_and hf).2)
  | recount item n => exact reads_two .recount codec_n2 codec_n2 item n (of_fits2 (of_and hf).1) (of_fits2 (of_and hf).2)
  | readPortions item =>
    refine reads_one .readPortions (codec_opt codec_n2) item fun a ha => ?_
    subst ha
    exact of_fits2 hf
  | _ => exact nomatch hl

theorem and_of {a b : Bool} (h1 : a = true) (h2 : b = true) : (a && b) = true := by rw [h1, h2]; rfl

/-- What the reader of a code takes is a command of that code, with its parameters in front. -/
theorem rCommand_sound {code : Nat} {bs rest : Bytes} {c : Instr} (h : rCommand code bs = some (c, rest)) :
    ReadAs code bs c rest := by
  unfold rCommand at h
  split at h
  · exact readAs_none (c' := .status) rfl rfl rfl rfl h
  · exact readAs_none (c' := .nextNotice) rfl rfl rfl rfl h
  · exact readAs_one (mk := .setAttention) codec_byte (fun _ _ => rfl) (fun _ => rfl) (fun _ => rfl) (fun _ => rfl) h
  · exact readAs_two (mk := .readPage) codec_n2 codec_n1 (fun _ _ h1 h2 => and_of (decide_eq_true h1) (decide_eq_true h2)) (fun _ _ => rfl) (fun _ _ => rfl) (fun _ _ => rfl) h
  · exact readAs_one (mk := .configure) codec_config (fun _ h => h) (fun _ => rfl) (fun _ => rfl) (fun _ => rfl) h
  · exact readAs_none (c' := .join) rfl rfl rfl rfl h
  · exact readAs_one (mk := .laneRestart) codec_n1 (fun _ h => decide_eq_true h) (fun _ => rfl) (fun _ => rfl) (fun _ => rfl) h
  · exact readAs_two (mk := .test) codec_n1 (codec_list codec_byte) (fun _ _ h1 h2 => ⟨h1, h2.1⟩) (fun _ _ => rfl) (fun _ _ => rfl) (fun _ _ => rfl) h
  · exact readAs_one (mk := .openTab) (codec_list codec_byte) (fun _ h => h.1) (fun _ => rfl) (fun _ => rfl) (fun _ => rfl) h
  · exact readAs_three (mk := fun (p : Nat × Nat) => .add p.1 p.2) codec_tabRef (codec_list codec_lineReq) codec_n1 (fun _ _ _ h1 h2 h3 => ⟨h1, h2, h3⟩) (fun _ _ _ => rfl) (fun _ _ _ => rfl) (fun _ _ _ => rfl) h
  · exact readAs_one (mk := .send) codec_n2 (fun _ h => decide_eq_true h) (fun _ => rfl) (fun _ => rfl) (fun _ => rfl) h
  · exact readAs_two (mk := fun (p : Nat × Nat) => .lineVoid p.1 p.2) codec_tabRef codec_n1 (fun _ _ h1 h2 => and_of (and_of (decide_eq_true h1.1) (decide_eq_true h1.2)) (decide_eq_true h2)) (fun _ _ => rfl) (fun _ _ => rfl) (fun _ _ => rfl) h
  · exact readAs_one (mk := .tabVoid) codec_n2 (fun _ h => decide_eq_true h) (fun _ => rfl) (fun _ => rfl) (fun _ => rfl) h
  · exact readAs_one (mk := .release) codec_n2 (fun _ h => decide_eq_true h) (fun _ => rfl) (fun _ => rfl) (fun _ => rfl) h
  · exact readAs_one (mk := fun (p : Nat × Nat) => .query p.1 p.2) codec_tabRef (fun _ h => and_of (decide_eq_true h.1) (decide_eq_true h.2)) (fun _ => rfl) (fun _ => rfl) (fun _ => rfl) h
  · exact readAs_three (mk := fun (p : Nat × Nat) => .split p.1 p.2) codec_tabRef codec_n1 (codec_list codec_splitEntry) (fun _ _ _ h1 h2 h3 => ⟨h1, h2, h3⟩) (fun _ _ _ => rfl) (fun _ _ _ => rfl) (fun _ _ _ => rfl) h
  · exact readAs_one (mk := fun (p : Nat × Nat) => .withdraw p.1 p.2) codec_tabRef (fun _ h => and_of (decide_eq_true h.1) (decide_eq_true h.2)) (fun _ => rfl) (fun _ => rfl) (fun _ => rfl) h
  · exact readAs_two (mk := fun (p : Nat × Nat) => .claim p.1 p.2) codec_tabRef codec_n1 (fun _ _ h1 h2 => and_of (and_of (decide_eq_true h1.1) (decide_eq_true h1.2)) (decide_eq_true h2)) (fun _ _ => rfl) (fun _ _ => rfl) (fun _ _ => rfl) h
  · exact readAs_three (mk := fun (p : Nat × Nat) => .settle p.1 p.2) codec_tabRef codec_n1 codec_n1 (fun _ _ _ h1 h2 h3 =>
      and_of (and_of (and_of (decide_eq_true h1.1) (decide_eq_true h1.2)) (decide_eq_true h2)) (decide_eq_true h3)) (fun _ _ _ => rfl) (fun _ _ _ => rfl) (fun _ _ _ => rfl) h
  · exact readAs_two (mk := fun (p : Nat × Nat) => .releaseShare p.1 p.2) codec_tabRef codec_n1 (fun _ _ h1 h2 => and_of (and_of (decide_eq_true h1.1) (decide_eq_true h1.2)) (decide_eq_true h2)) (fun _ _ => rfl) (fun _ _ => rfl) (fun _ _ => rfl) h
  · exact readAs_one (mk := .retry) codec_n2 (fun _ h => decide_eq_true h) (fun _ => rfl) (fun _ => rfl) (fun _ => rfl) h
  · exact readAs_one (mk := .refresh) codec_n2 (fun _ h => decide_eq_true h) (fun _ => rfl) (fun _ => rfl) (fun _ => rfl) h
  · exact readAs_one (mk := .abandon) codec_n2 (fun _ h => decide_eq_true h) (fun _ => rfl) (fun _ => rfl) (fun _ => rfl) h
  · exact readAs_none (c' := .markPeriod) rfl rfl rfl rfl h
  · exact readAs_one (mk := .fire) codec_n1 (fun _ h => decide_eq_true h) (fun _ => rfl) (fun _ => rfl) (fun _ => rfl) h
  · exact readAs_one (mk := .ready) codec_n1 (fun _ h => decide_eq_true h) (fun _ => rfl) (fun _ => rfl) (fun _ => rfl) h
  · exact readAs_one (mk := .collect) codec_n1 (fun _ h => decide_eq_true h) (fun _ => rfl) (fun _ => rfl) (fun _ => rfl) h
  · exact readAs_two (mk := .kitchenVoid) codec_n1 (codec_list codec_n1) (fun _ _ h1 h2 => ⟨h1, h2⟩) (fun _ _ => rfl) (fun _ _ => rfl) (fun _ _ => rfl) h
  · exact readAs_three (mk := .load) codec_n2 codec_n2 codec_n2 (fun _ _ _ h1 h2 h3 =>
      and_of (and_of (decide_eq_true h1) (decide_eq_true h2)) (decide_eq_true h3)) (fun _ _ _ => rfl) (fun _ _ _ => rfl) (fun _ _ _ => rfl) h
  · exact readAs_two (mk := .refill) codec_n2 codec_n2 (fun _ _ h1 h2 => and_of (decide_eq_true h1) (decide_eq_true h2)) (fun _ _ => rfl) (fun _ _ => rfl) (fun _ _ => rfl) h
  · exact readAs_one (mk := .reloadToPreset) codec_n2 (fun _ h => decide_eq_true h) (fun _ => rfl) (fun _ => rfl) (fun _ => rfl) h
  · exact readAs_two (mk := .recount) codec_n2 codec_n2 (fun _ _ h1 h2 => and_of (decide_eq_true h1) (decide_eq_true h2)) (fun _ _ => rfl) (fun _ _ => rfl) (fun _ _ => rfl) h
  · exact readAs_one (mk := .remove) codec_n2 (fun _ h => decide_eq_true h) (fun _ => rfl) (fun _ => rfl) (fun _ => rfl) h
  · exact readAs_one (mk := .readTab) codec_n2 (fun _ h => decide_eq_true h) (fun _ => rfl) (fun _ => rfl) (fun _ => rfl) h
  · exact readAs_none (c' := .readClaims) rfl rfl rfl rfl h
  · exact readAs_none (c' := .readTickets) rfl rfl rfl rfl h
  · exact readAs_none (c' := .readStockView) rfl rfl rfl rfl h
  · exact readAs_none (c' := .readPeers) rfl rfl rfl rfl h
  · exact readAs_one (mk := .readCapture) codec_n1 (fun _ h => decide_eq_true h) (fun _ => rfl) (fun _ => rfl) (fun _ => rfl) h
  · exact readAs_one (mk := .releaseCapture) codec_n1 (fun _ h => decide_eq_true h) (fun _ => rfl) (fun _ => rfl) (fun _ => rfl) h
  · exact readAs_none (c' := .readQueue) rfl rfl rfl rfl h
  · exact readAs_none (c' := .nextNew) rfl rfl rfl rfl h
  · exact readAs_one (mk := .readPortions) (codec_opt codec_n2) (fun _ h => fitsOpt_of (fun _ => decide_eq_true) h) (fun _ => rfl) (fun _ => rfl) (fun _ => rfl) h
  · exact nomatch h

end Sys2Proof.Machine
end

section
/-! The port's transactions (R172, R180): which bytes are a whole command, which parameters fit a code's layout, and what the port makes
of them. -/

namespace Sys2Proof.Machine

/-! ## Parsing -/

section
variable {code : Nat} {params rest : Bytes} {c : Instr}

theorem parseCommand_unknown_iff : parseCommand code params = .unknownCode ↔ code = 0 ∨ 44 < code := by
  unfold parseCommand
  split
  · rename_i h6
    split <;> simp [h6]
  · split
    · rename_i hin
      split
      · split <;> simp <;> omega
      · simp
        omega
    · simp
      omega

theorem parseCommand_reader (h1 : 1 ≤ code) (h44 : code ≤ 44) (h6 : code ≠ 6) (h : rCommand code params = some (c, rest)) :
    parseCommand code params = if rest.length ≤ allowedExtra code (params.length - rest.length) then .command c else .badFraming := by
  unfold parseCommand
  rw [if_neg h6, if_pos ⟨h1, h44⟩, h]

theorem parseCommand_unread (h1 : 1 ≤ code) (h44 : code ≤ 44) (h6 : code ≠ 6) (h : rCommand code params = none) :
    parseCommand code params = .badFraming := by
  unfold parseCommand
  rw [if_neg h6, if_pos ⟨h1, h44⟩, h]

/-- The bytes behind a command's own are allowed up to the layout with every optional field present. -/
theorem allowedExtra_iff (code used extra : Nat) :
    extra ≤ allowedExtra code used ↔ used + extra ≤ max used (if code = 5 then 36 else if code = 44 then 3 else 0) := by
  unfold allowedExtra
  by_cases h5 : code = 5
  · rw [if_pos h5, if_pos h5]; omega
  · rw [if_neg h5, if_neg h5]
    split <;> omega

/-- A code's reader takes these parameters, with no byte too many behind them. -/
theorem parseCommand_iff (h1 : 1 ≤ code) (h44 : code ≤ 44) (h6 : code ≠ 6) (hlen : params.length ≤ 255) (c : Instr) :
    parseCommand code params = .command c ↔
      c.wellFormed = true ∧ (catalogue c).isSome = true ∧ commandCode c = code ∧ commandParams c <+: params ∧
        params.length ≤ max (commandParams c).length (if code = 5 then 36 else if code = 44 then 3 else 0) := by
  constructor
  · intro h
    cases hr : rCommand code params with
    | none =>
      rw [parseCommand_unread h1 h44 h6 hr] at h
      exact nomatch h
    | some p =>
      obtain ⟨c', rest⟩ := p
      rw [parseCommand_reader h1 h44 h6 hr] at h
      split at h
      · rename_i hextra
        cases h
        obtain ⟨hfit, hlisted, hcode, rfl⟩ := rCommand_sound hr
        rw [List.length_append] at hlen
        rw [allowedExtra_iff, List.length_append, Nat.add_sub_cancel] at hextra
        rw [List.length_append]
        exact ⟨(wellFormed_iff hlisted).2 ⟨hfit, Nat.le_of_add_right_le hlen⟩, hlisted, hcode, List.prefix_append _ _, hextra⟩
      · exact nomatch h
  · rintro ⟨hwell, hlisted, hcode, ⟨rest, rfl⟩, hextra⟩
    subst hcode
    rw [parseCommand_reader h1 h44 h6 (rCommand_reads ((wellFormed_iff hlisted).1 hwell).1 hlisted h6 rest), List.length_append,
      Nat.add_sub_cancel, if_pos]
    rwa [allowedExtra_iff, ← List.length_append]

theorem parseCommand_badFraming (h1 : 1 ≤ code) (h44 : code ≤ 44) (h6 : code ≠ 6) (h : ∀ c, parseCommand code params ≠ .command c) :
    parseCommand code params = .badFraming := by
  cases hr : rCommand code params with
  | none => exact parseCommand_unread h1 h44 h6 hr
  | some p =>
    obtain ⟨c, rest⟩ := p
    rw [parseCommand_reader h1 h44 h6 hr]
    split
    · rename_i hextra
      exact absurd ((parseCommand_reader h1 h44 h6 hr).trans (if_pos hextra)) (h c)
    · rfl

theorem parseCommand_loopback (b : Byte) :
    parseCommand 6 [b] = if b.toNat = 0 then .command .loopbackOff else if b.toNat = 1 then .command .loopbackOn else .badLoopback := by
  have hread : Reader.n1.exact [b] = some b.toNat := rfl
  unfold parseCommand
  rw [if_pos rfl, hread]
  generalize b.toNat = n
  match n with
  | 0 | 1 => rfl
  | n + 2 => rfl

theorem parseCommand_loopback_bad (h : params.length ≠ 1) : parseCommand 6 params = .badFraming := by
  have hread : Reader.n1.exact params = none := by
    match params, h with
    | [], _ => rfl
    | _ :: _ :: _, _ => rfl
  unfold parseCommand
  rw [if_pos rfl, hread]

theorem commandCode_range (h : (catalogue c).isSome = true) : 1 ≤ commandCode c ∧ commandCode c ≤ 44 := by
  cases c with
  | status | nextNotice | setAttention _ | readPage _ _ | configure _ | loopbackOn | loopbackOff | join | laneRestart _ | test _ _
  | openTab _ | add _ _ _ _ | send _ | lineVoid _ _ _ | tabVoid _ | release _ | query _ _ | readTab _ | split _ _ _ _ | withdraw _ _
  | claim _ _ _ | settle _ _ _ _ | releaseShare _ _ _ | readClaims | markPeriod | readCapture _ | releaseCapture _ | readPeers | retry _
  | refresh _ | abandon _ | readTickets | fire _ | ready _ | collect _ | kitchenVoid _ _ | readQueue | nextNew | load _ _ _ | refill _ _
  | reloadToPreset _ | recount _ _ | remove _ | readPortions _ | readStockView =>
    exact ⟨Nat.le_of_ble_eq_true rfl, Nat.le_of_ble_eq_true rfl⟩
  | _ => exact nomatch h

end

/-! ## Bytes that do not fit -/

section
variable {c : Instr} (hwell : c.wellFormed = true) (hlisted : (catalogue c).isSome = true) (h6 : commandCode c ≠ 6)
include hwell hlisted h6

theorem parseCommand_short {n : Nat} (hn : n < (commandParams c).length) :
    parseCommand (commandCode c) ((commandParams c).take n) = .badFraming := by
  obtain ⟨h1, h44⟩ := commandCode_range hlisted
  cases hr : rCommand (commandCode c) ((commandParams c).take n) with
  | none => exact parseCommand_unread h1 h44 h6 hr
  | some p =>
    obtain ⟨c', rest⟩ := p
    obtain ⟨hfit', hlisted', hcode', hbytes⟩ := rCommand_sound hr
    have hfull : commandParams c ++ [] = commandParams c' ++ (rest ++ (commandParams c).drop n) := by
      rw [← List.append_assoc, ← hbytes, List.take_append_drop, List.append_nil]
    have hown := rCommand_reads ((wellFormed_iff hlisted).1 hwell).1 hlisted h6 []
    rw [hfull, ← hcode', rCommand_reads hfit' hlisted' (hcode' ▸ h6)] at hown
    have hdrop : (commandParams c).drop n = [] := (List.append_eq_nil_iff.1 (Prod.mk.inj (Option.some.inj hown)).2).2
    exact absurd (List.drop_eq_nil_iff.1 hdrop) (Nat.not_le.2 hn)

theorem parseCommand_overlong {extra : Bytes}
    (h : max (commandParams c).length (if commandCode c = 5 then 36 else if commandCode c = 44 then 3 else 0) <
      (commandParams c ++ extra).length) :
    parseCommand (commandCode c) (commandParams c ++ extra) = .badFraming := by
  obtain ⟨h1, h44⟩ := commandCode_range hlisted
  rw [parseCommand_reader h1 h44 h6 (rCommand_reads ((wellFormed_iff hlisted).1 hwell).1 hlisted h6 extra), List.length_append,
    Nat.add_sub_cancel, if_neg]
  rw [allowedExtra_iff, ← List.length_append]
  exact Nat.not_le.2 h

end

/-! ## A presence byte above 1 -/

/-- An optional field of `k` bytes: the presence byte 0 alone, or 1 and the field. -/
def IsOption (k : Nat) (o : Bytes) : Prop := o = [0#8] ∨ ∃ bs, bs.length = k ∧ o = 1#8 :: bs

section
variable {b : Byte} (hb : 1 < b.toNat)
include hb

theorem opt_presence_above_one {α : Type} (r : Reader α) (rest : Bytes) : Reader.opt r (b :: rest) = none := by
  unfold Reader.opt
  rw [reader_step (n1_cons b rest), if_neg (by omega), if_neg (by omega)]
  rfl

theorem parseCommand_readPortions_presence (rest : Bytes) : parseCommand 44 (b :: rest) = .badFraming := by
  refine parseCommand_unread (by decide) (by decide) (by decide) ?_
  change (Reader.opt Reader.n2 >>= fun i => pure (Instr.readPortions i)) (b :: rest) = none
  rw [reader_bind, opt_presence_above_one hb]
  rfl

/-- Configure's optional fields, in order. -/
def configOptions (q : ConfigReq) : List Bytes :=
  [eOpt e2 q.interval, eOpt e1 q.lockCount, eOpt e2 q.claimHold, eOpt e1 q.fireLimit, eOpt e1 q.autoFire, eOpt e1 q.holdMark,
    eOpt e1 q.releaseMark, eOpt e2 q.warnTime, eOpt e2 q.lateTime, eOpt e2 q.collectTimeout]

omit hb in
theorem configFixed_eq (q : ConfigReq) : (eConfigReq q).take 11 =
    [q.roles] ++ [q.prep] ++ e2 q.rates.c0 ++ e2 q.rates.c1 ++ e2 q.rates.c2 ++ e2 q.rates.c3 ++ e1 q.rounding := rfl

omit hb in
theorem length_configFixed (q : ConfigReq) : ((eConfigReq q).take 11).length = 11 := by
  simp only [configFixed_eq, e1, e2, List.length_append, List.length_cons, List.length_nil]

omit hb in
theorem eConfigReq_eq (q : ConfigReq) : eConfigReq q = (eConfigReq q).take 11 ++ (configOptions q).flatten := by
  rw [configFixed_eq]
  simp only [eConfigReq, configOptions, List.flatten_cons, List.flatten_nil, List.append_nil, List.append_assoc]

omit hb in
theorem isOption_eOpt {e : Nat → Bytes} {k : Nat} (he : ∀ n, (e n).length = k) (v : Option Nat) : IsOption k (eOpt e v) := by
  cases v with
  | none => exact .inl rfl
  | some n => exact .inr ⟨e n, he n, rfl⟩

/-- Optional fields of these widths, one for each. -/
def AreOptions : List Nat → List Bytes → Prop
  | [], [] => True
  | k :: ks, o :: os => IsOption k o ∧ AreOptions ks os
  | _, _ => False

omit hb in
theorem configOptions_areOptions (q : ConfigReq) : AreOptions [2, 1, 2, 1, 1, 1, 1, 2, 2, 2] (configOptions q) := by
  have h1 : ∀ v, IsOption 1 (eOpt e1 v) := isOption_eOpt fun _ => rfl
  have h2 : ∀ v, IsOption 2 (eOpt e2 v) := isOption_eOpt fun _ => rfl
  exact ⟨h2 _, h1 _, h2 _, h1 _, h1 _, h1 _, h1 _, h2 _, h2 _, h2 _, trivial⟩

/-- Optional fields are told apart by their presence byte alone. -/
theorem presence_not_above_one {ks : List Nat} : ∀ {os os' : List Bytes}, AreOptions ks os → AreOptions ks os' →
    ∀ {i : Nat}, i < ks.length → ∀ {rest rest' : Bytes}, (os.take i).flatten ++ b :: rest ≠ os'.flatten ++ rest' := by
  induction ks with
  | nil => exact fun _ _ i hi => absurd hi (Nat.not_lt_zero i)
  | cons k ks ih =>
    rintro (_ | ⟨o, os⟩) (_ | ⟨o', os'⟩) h h' i hi rest rest' heq
    · exact h
    · exact h
    · exact h'
    obtain ⟨ho, hos⟩ := h
    obtain ⟨ho', hos'⟩ := h'
    cases i with
    | zero =>
      rcases ho' with rfl | ⟨bs, -, rfl⟩
      all_goals
        cases heq
        exact absurd hb (by decide)
    | succ i =>
      rw [List.take_succ_cons, List.flatten_cons, List.flatten_cons, List.append_assoc, List.append_assoc] at heq
      have hi' : i < ks.length := Nat.lt_of_succ_lt_succ hi
      rcases ho with rfl | ⟨bs, hbs, rfl⟩ <;> rcases ho' with rfl | ⟨bs', hbs', rfl⟩
      · exact ih hos hos' hi' (List.cons.inj heq).2
      · exact absurd (List.cons.inj heq).1 (by decide)
      · exact absurd (List.cons.inj heq).1 (by decide)
      · exact ih hos hos' hi' (List.append_inj_right (List.cons.inj heq).2 (hbs.trans hbs'.symm))

theorem rConfig_presence (q : ConfigReq) (rest : Bytes) {i : Nat} (hi : i < 10) :
    rConfig ((eConfigReq q).take 11 ++ ((configOptions q).take i).flatten ++ b :: rest) = none := by
  cases hr : rConfig ((eConfigReq q).take 11 ++ ((configOptions q).take i).flatten ++ b :: rest) with
  | none => rfl
  | some p =>
    obtain ⟨-, heq⟩ := codec_config.sound _ p.1 p.2 hr
    rw [eConfigReq_eq p.1, List.append_assoc, List.append_assoc] at heq
    exact absurd (List.append_inj_right heq ((length_configFixed q).trans (length_configFixed p.1).symm))
      (presence_not_above_one hb (configOptions_areOptions q) (configOptions_areOptions p.1) hi)

theorem parseCommand_configure_presence (q : ConfigReq) (rest : Bytes) {i : Nat} (hi : i < 10) :
    parseCommand 5 ((eConfigReq q).take 11 ++ ((configOptions q).take i).flatten ++ b :: rest) = .badFraming := by
  refine parseCommand_unread (by decide) (by decide) (by decide) ?_
  change (rConfig >>= fun q => pure (Instr.configure q)) _ = none
  rw [reader_bind, rConfig_presence hb q rest hi]
  rfl

end

/-! ## The first command in the bytes -/

theorem firstCommand_zeros {zeros : Bytes} (h : ∀ b ∈ zeros, b = 0#8) (bs : Bytes) : firstCommand (zeros ++ bs) = firstCommand bs := by
  induction zeros with
  | nil => rfl
  | cons z zeros ih =>
    exact (if_pos (h z List.mem_cons_self)).trans (ih fun b hb => h b (List.mem_cons_of_mem _ hb))

theorem firstCommand_cons {code : Byte} (h : code ≠ 0#8) (p : Byte) (body : Bytes) :
    firstCommand (code :: p :: body) = if p.toNat ≤ body.length then some (code.toNat, body.take p.toNat) else none :=
  if_neg h

/-- Settles O9: the reader of each code undoes its writing, and a whole command's bytes hold nothing else. -/
theorem commandBytesReadBack : Obligations.CommandBytesReadBack := by
  unfold Obligations.CommandBytesReadBack
  intro c hwell hlisted
  obtain ⟨h1, h44⟩ := commandCode_range hlisted
  obtain ⟨-, hlen⟩ := (wellFormed_iff hlisted).1 hwell
  refine ⟨firstCommand_bytes h1 (by omega) (by omega), ?_⟩
  by_cases h6 : commandCode c = 6
  · cases c with
    | loopbackOn | loopbackOff => rfl
    | _ => exact nomatch h6
  · exact (parseCommand_iff h1 h44 h6 hlen c).2 ⟨hwell, hlisted, rfl, List.prefix_refl _, Nat.le_max_left _ _⟩

/-! ## A transaction -/

section
variable {pdi : Bytes} {s : State}

/-- PDO holds the bytes shifted out, and an answer read whole is cleared. -/
def settledPort (pdi : Bytes) (s : State) : State :=
  modPort (fun p =>
    { p with pdo := shiftedOut p.answer pdi.length, answer := if answerRead s.port.answer pdi.length then none else p.answer }) s

theorem transaction_no_command (h : firstCommand pdi = none) : transaction pdi s = settledPort pdi s := by
  unfold transaction
  rw [h]
  rfl

theorem transaction_command {code : Nat} {params : Bytes} (h : firstCommand pdi = some (code, params)) :
    transaction pdi s = if busy s = true then settledPort pdi s else takeCommand code params (settledPort pdi s) := by
  unfold transaction
  rw [h]
  rfl

theorem transaction_busy (hb : busy s = true) : transaction pdi s = settledPort pdi s := by
  cases h : firstCommand pdi with
  | none => exact transaction_no_command h
  | some p => rw [transaction_command (code := p.1) (params := p.2) h, if_pos hb]

theorem transaction_takes {code : Nat} {params : Bytes} (hb : busy s = false) (h : firstCommand pdi = some (code, params)) :
    transaction pdi s = takeCommand code params (settledPort pdi s) := by
  rw [transaction_command h, if_neg (by rw [hb]; decide)]

theorem execPortTransaction_eq (hr : s.station.inReset = false) {s' : State} (h : transaction pdi s = s') :
    exec (.portTransaction pdi) s = .next (afterEvent s s') := by
  subst h
  exact event_runs (transaction pdi) hr

end

/-- Settles O8: the bytes by induction on the leading 00 bytes, the layouts by the readers of the codes, the transaction by its cases. -/
theorem transactionSettles : Obligations.TransactionSettles := by
  unfold Obligations.TransactionSettles
  refine ⟨fun zeros hz => ⟨?_, fun code hcode => ⟨?_, fun p body => ⟨fun hp => ?_, fun hp => ?_⟩⟩⟩,
    fun code params hlen => ⟨parseCommand_unknown_iff, fun h1 h44 h6 => ⟨parseCommand_iff h1 h44 h6 hlen, fun hno => ?_⟩, ?_⟩,
    fun c hwell hlisted h6 => ⟨fun n hn => parseCommand_short hwell hlisted h6 hn, fun extra he => parseCommand_overlong hwell hlisted h6 he⟩,
    fun b rest hb => ⟨parseCommand_readPortions_presence hb rest, fun q _ i hi => parseCommand_configure_presence hb q rest hi⟩,
    fun pdi s hr => ⟨fun hn => ?_, fun hb => ?_, fun code params c hb hf hp => ?_, fun code params hb hf hp => ?_,
      fun code params hb hf hp => ?_⟩⟩
  · have h := firstCommand_zeros hz []
    rwa [List.append_nil] at h
  · exact (firstCommand_zeros hz _).trans (if_neg hcode)
  · rw [firstCommand_zeros hz, firstCommand_cons hcode, if_neg (Nat.not_le.2 hp)]
  · rw [firstCommand_zeros hz, firstCommand_cons hcode, if_pos hp]
  · exact parseCommand_badFraming h1 h44 h6 fun c hc => hno c ((parseCommand_iff h1 h44 h6 hlen c).1 hc)
  · rintro rfl
    refine ⟨fun h => ?_, fun h => ?_, fun b h hb => ?_, parseCommand_loopback_bad⟩
    · subst h
      rfl
    · subst h
      rfl
    · subst h
      rw [parseCommand_loopback, if_neg (by omega), if_neg (by omega)]
  · exact execPortTransaction_eq hr (transaction_no_command hn)
  · exact execPortTransaction_eq hr (transaction_busy hb)
  · refine execPortTransaction_eq hr ((transaction_takes hb hf).trans ?_)
    unfold takeCommand
    rw [hp]
    rfl
  · refine execPortTransaction_eq hr ((transaction_takes hb hf).trans ?_)
    unfold takeCommand
    rcases hp with hp | hp <;> rw [hp] <;> rfl
  · refine execPortTransaction_eq hr ((transaction_takes hb hf).trans ?_)
    unfold takeCommand
    rw [hp]
    rfl

end Sys2Proof.Machine
end

section
/-! Status, notices and the reads (R174 to R177). -/

namespace Sys2Proof.Machine

/-! ## Status -/

/-- Settles O10: Status is taken in every station state, and its rule is the table's items and flags. -/
theorem statusReportsAndClears : Obligations.StatusReportsAndClears := by
  unfold Obligations.StatusReportsAndClears
  intro s h
  refine (carryOut_taken statusBody h).trans ?_
  simp only [statusBody, statusData, clearStatus, eLevels, eSlot, Accums.saturated, Levels.none, List.append_assoc]

/-! ## Notices -/

section
variable {s : State} {n : Notice} {p : Port}

/-- The first level that holds a notice gives its oldest. -/
def Pops (q : Port) (n : Notice) (p : Port) : Prop :=
  (∃ l, q.link = n :: l ∧ p = { q with link := l }) ∨
  (q.link = [] ∧ ∃ l, q.money = n :: l ∧ p = { q with money := l }) ∨
  (q.link = [] ∧ q.money = [] ∧ ∃ l, q.kitchen = n :: l ∧ p = { q with kitchen := l }) ∨
  (q.link = [] ∧ q.money = [] ∧ q.kitchen = [] ∧ ∃ l, q.peers = n :: l ∧ p = { q with peers := l })

theorem popNotice_of_pops {q : Port} (h : Pops q n p) : popNotice q = some (n, p) := by
  unfold popNotice
  rcases h with ⟨l, h1, rfl⟩ | ⟨h1, l, h2, rfl⟩ | ⟨h1, h2, l, h3, rfl⟩ | ⟨h1, h2, h3, l, h4, rfl⟩
  · simp only [h1]
  · simp only [h1, h2]
  · simp only [h1, h2, h3]
  · simp only [h1, h2, h3, h4]

theorem popNotice_empty {q : Port} (h1 : q.link = []) (h2 : q.money = []) (h3 : q.kitchen = []) (h4 : q.peers = []) :
    popNotice q = none := by
  simp only [popNotice, h1, h2, h3, h4]

theorem exec_nextNotice (h : commandTaken .nextNotice s = true) (hp : Pops s.port n p) :
    exec .nextNotice s = .next (afterCommand .nextNotice s ⟨.OK, noticeData n p⟩ { s with port := p }) := by
  refine (carryOut_taken nextNoticeBody h).trans ?_
  simp only [nextNoticeBody, popNotice_of_pops hp]

theorem post_room (h : (s.port.queue n.level).length < n.level.capacity) :
    post n s = { s with port := s.port.setQueue (s.port.queue n.level ++ [n]) n.level } := by
  unfold post Port.post
  rw [if_pos h]

theorem post_full (h : n.level.capacity ≤ (s.port.queue n.level).length) :
    post n s = { s with port := { s.port with overflow := s.port.overflow.raise n.level } } := by
  unfold post Port.post
  rw [if_neg (Nat.not_lt.2 h)]

theorem level_lateAnswer (a : AnswerRec) :
    (Notice.lateAnswer a).level =
      if a.kind ∈ [Kind.claim, Kind.settle, Kind.release, Kind.split, Kind.withdraw] then Level.money else Level.kitchen := by
  have hmem : isMoneyKind a.kind = decide (a.kind ∈ [Kind.claim, Kind.settle, Kind.release, Kind.split, Kind.withdraw]) := by
    rw [Bool.eq_iff_iff]
    simp [isMoneyKind, or_assoc]
  simp only [Notice.level, hmem, decide_eq_true_eq]

theorem level_by_code (n : Notice) :
    (n.code ≤ 4 → n.level = .link) ∧ (5 ≤ n.code → n.code ≤ 18 → n.level = .money) ∧
    (20 ≤ n.code → n.code ≤ 39 → n.level = .kitchen) ∧ (40 ≤ n.code → n.level = .peers) := by
  cases n <;> simp [Notice.code, Notice.level, Notice.ctorIdx]

theorem attn_iff (s : State) :
    attn s = true ↔
      s.station.inReset = false ∧
      ((s.port.mask.link = true ∧ s.port.link ≠ []) ∨ (s.port.mask.money = true ∧ s.port.money ≠ []) ∨
        (s.port.mask.kitchen = true ∧ s.port.kitchen ≠ []) ∨ (s.port.mask.peers = true ∧ s.port.peers ≠ [])) := by
  simp [attn, or_assoc]

theorem exec_readPage_refused {offset length : Nat} (h : readReady (.readPage offset length) none s = true) :
    (s.port.snapshot = none → exec (.readPage offset length) s = .next (afterCommand (.readPage offset length) s (.bare .NO_ENTRY) s)) ∧
    (∀ c, s.port.snapshot = some c → c.bytes.length ≤ offset ∨ length = 0 ∨ 64 < length →
      exec (.readPage offset length) s = .next (afterCommand (.readPage offset length) s (.bare .BAD_PARAM) s)) := by
  refine ⟨fun hn => (carryOut_read _ h).trans ?_, fun c hc hout => (carryOut_read _ h).trans ?_⟩
  · simp only [hn]
    rfl
  · have hbad : c.bytes.length ≤ offset ∨ length < 1 ∨ 64 < length := by omega
    simp only [hc, if_pos hbad]
    rfl

end

/-- Settles O11: a notice goes to its level's queue, and each command works on the first level or the copy as it stands. -/
theorem noticesMaskAndPages : Obligations.NoticesMaskAndPages := by
  unfold Obligations.NoticesMaskAndPages
  refine ⟨fun s n p h hp => exec_nextNotice h hp, fun s h ⟨h1, h2, h3, h4⟩ => ?_, fun s mask h => carryOut_read _ h,
    fun s offset length c h hc ho h1 h64 => ?_, fun s offset length h => exec_readPage_refused h, fun n s => ?_, level_by_code,
    level_lateAnswer, attn_iff⟩
  · refine (carryOut_taken nextNoticeBody h).trans ?_
    simp only [nextNoticeBody, popNotice_empty h1 h2 h3 h4]
    rfl
  · refine (carryOut_read _ h).trans ?_
    have hgood : ¬(c.bytes.length ≤ offset ∨ length < 1 ∨ 64 < length) := by omega
    simp only [hc, if_neg hgood]
  · refine ⟨fun hl => ?_, fun hl => ?_, fun hl => ?_, fun hl => ?_⟩ <;>
    · have hroom := post_room (n := n) (s := s)
      have hfull := post_full (n := n) (s := s)
      rw [hl] at hroom hfull
      exact ⟨hroom, hfull⟩

/-! ## The reads -/

section
variable {s : State}

theorem mem_oldestOf {l : List KTicket} {u : KTicket} (h : oldestOf l = some u) : u ∈ l := by
  induction l generalizing u with
  | nil => exact nomatch h
  | cons t rest ih =>
    unfold oldestOf at h
    split at h
    · cases h
      exact List.mem_cons_self
    · rename_i v hv
      split at h <;> cases h
      · exact List.mem_cons_of_mem _ (ih hv)
      · exact List.mem_cons_self

theorem oldestOf_nil_iff {l : List KTicket} : oldestOf l = none ↔ l = [] := by
  cases l with
  | nil => exact ⟨fun _ => rfl, fun _ => rfl⟩
  | cons t rest =>
    refine ⟨fun h => ?_, fun h => nomatch h⟩
    unfold oldestOf at h
    split at h
    · exact nomatch h
    · split at h <;> exact nomatch h

theorem acceptedBefore_iff {a b : KTicket} :
    acceptedBefore a b = true ↔ a.accepted < b.accepted ∨ (a.accepted = b.accepted ∧ a.seq < b.seq) := by
  simp [acceptedBefore]

/-- The one that comes ahead of every other is the oldest. -/
theorem oldestOf_eq {t : KTicket} {l : List KTicket} (ht : t ∈ l) (h : ∀ u ∈ l, u = t ∨ acceptedBefore t u = true) :
    oldestOf l = some t := by
  induction l with
  | nil => exact absurd ht List.not_mem_nil
  | cons x rest ih =>
    have hrest : ∀ u ∈ rest, u = t ∨ acceptedBefore t u = true := fun u hu => h u (List.mem_cons_of_mem _ hu)
    unfold oldestOf
    by_cases hmem : t ∈ rest
    · rw [ih hmem hrest]
      rcases h x List.mem_cons_self with rfl | hx
      · exact ite_self _
      · exact if_pos hx
    · obtain rfl : t = x := (List.mem_cons.1 ht).resolve_right hmem
      split
      · rfl
      · rename_i u hu
        have hu' : u ∈ rest := mem_oldestOf hu
        have hbefore := (hrest u hu').resolve_left fun he => hmem (he ▸ hu')
        rw [acceptedBefore_iff] at hbefore
        refine if_neg ?_
        rw [acceptedBefore_iff]
        omega

theorem length_all (k : Kitchen) : k.all.length = k.queued.length + k.fired.length + k.ready.length := by
  simp only [Kitchen.all, List.length_append]

theorem all_of_locate {k : Kitchen} {q : KTicket → Bool} {p : Place} {t : KTicket} (h : k.locate q = some (p, t)) : t ∈ k.all := by
  unfold Kitchen.locate at h
  unfold Kitchen.all
  simp only [List.mem_append]
  split at h
  · rename_i hq
    cases h
    exact .inl (.inl (List.mem_of_find?_eq_some hq))
  · split at h
    · rename_i hf
      cases h
      exact .inl (.inr (List.mem_of_find?_eq_some hf))
    · obtain ⟨u, hu, he⟩ := Option.map_eq_some_iff.1 h
      cases he
      exact .inr (List.mem_of_find?_eq_some hu)

theorem oldestUnread_eq {t : KTicket} (ht : t ∈ s.kitchen.all) (hu : t.unread = true)
    (h : ∀ u ∈ s.kitchen.all, u.unread = true → u = t ∨ t.accepted < u.accepted ∨ (t.accepted = u.accepted ∧ t.seq < u.seq)) :
    s.kitchen.oldestUnread = some t := by
  refine oldestOf_eq (List.mem_filter.2 ⟨ht, hu⟩) fun u hmem => ?_
  obtain ⟨hall, hunread⟩ := List.mem_filter.1 hmem
  rw [acceptedBefore_iff]
  exact h u hall hunread

theorem exec_nextNew {t : KTicket} {p : Place} (h : readReady .nextNew (some .kitchen) s = true)
    (ht : s.kitchen.byRef t.ref = some (p, t)) (hold : s.kitchen.oldestUnread = some t) :
    exec .nextNew s =
      .next (afterCommand .nextNew s ⟨.OK, e1 t.ref ++ e2 (eKTicket p t).length⟩
        { s with
          port := { s.port with snapshot := some ⟨7, eKTicket p t⟩ }
          kitchen := s.kitchen.modRef t.ref fun u => { u with unread := false } }) := by
  refine (carryOut_read _ h).trans ?_
  have hplace : s.kitchen.placeOf t.ref = p := by
    unfold Kitchen.placeOf
    rw [ht]
    rfl
  simp only [hold, hplace]
  rfl

theorem exec_readCapture_full {slot : Nat} {c : Capture} (h : readReady (.readCapture slot) none s = true)
    (hin : slot = 1 ∨ slot = 2) (hc : s.takings.slot slot = some c) :
    exec (.readCapture slot) s =
      .next (afterCommand (.readCapture slot) s ⟨.OK, e2 (eCapture c).length⟩
        { s with port := { s.port with snapshot := some ⟨3, eCapture c⟩ } }) := by
  refine (carryOut_read _ h).trans ?_
  have hrange : ¬(slot < 1 ∨ 2 < slot) := by omega
  simp only [if_neg hrange, hc]
  rfl

theorem exec_readCapture_free {slot : Nat} (h : readReady (.readCapture slot) none s = true)
    (hin : slot = 1 ∨ slot = 2) (hc : s.takings.slot slot = none) :
    exec (.readCapture slot) s = .next (afterCommand (.readCapture slot) s (.bare .NO_ENTRY) s) := by
  refine (carryOut_read _ h).trans ?_
  have hrange : ¬(slot < 1 ∨ 2 < slot) := by omega
  simp only [if_neg hrange, hc]
  rfl

theorem exec_readTab_none {tab : Nat} (h : readReady (.readTab tab) (some .till) s = true) (ht : findTab s tab = none) :
    exec (.readTab tab) s = .next (afterCommand (.readTab tab) s (.bare .NO_TAB) s) := by
  refine (carryOut_read _ h).trans ?_
  simp only [ht]
  rfl

/-! ## Query -/

theorem homeQuery_none {tab : Nat} (h : findTab s tab = none) : homeQuery tab s = (.bare .NO_TAB, s) := by
  unfold homeQuery
  rw [h]
  rfl

theorem homeQuery_some {tab : Nat} {t : Tab} (h : findTab s tab = some t) : homeQuery tab s = (⟨.OK, tabSummary t⟩, s) := by
  unfold homeQuery
  rw [h]

theorem exec_query_home {tab : Nat} (h : jobReady (.query (own s) tab) .till s = true) :
    exec (.query (own s) tab) s =
      .next (afterCommand (.query (own s) tab) s (homeQuery tab s).1 (homeQuery tab s).2) := by
  refine (carryOut_job _ h).trans ?_
  simp only [if_true]

theorem exec_tabQueryFrame {f : Frame} {rest : List Frame} {tab : Nat} (h : requestReady Kind.tabQuery .till f rest s = true)
    (hp : Reader.n2.exact f.payload = some tab) :
    exec .tabQueryFrame s =
      .next (afterRequest s f tab 0 (homeQuery tab (popped rest s)).1 (homeQuery tab (popped rest s)).2) :=
  request_runs _ _ _ _ h hp

end

/-- Settles O12: each read's rule copies its subject, and a query answers with the tab's summary. -/
theorem readsAndQueriesAnswer : Obligations.ReadsAndQueriesAnswer := by
  unfold Obligations.ReadsAndQueriesAnswer
  refine ⟨⟨fun s tab t h ht => ?_, fun s h => carryOut_read _ h, fun s slot c h hc => ?_, fun s h => carryOut_read _ h,
      fun s h => carryOut_read _ h, fun s h => ?_, fun s t p h ht hu hold => ?_, fun s h => carryOut_read _ h, fun s h => carryOut_read _ h⟩,
    fun s tab hn => ⟨fun h => exec_readTab_none h hn, fun h => ?_, fun f rest h hp => ?_⟩,
    fun s slot h => ⟨fun h1 h2 => ?_, fun hc => ?_⟩, fun s h hu => ?_, fun tab t => ⟨fun s h ht => ?_, fun f rest s h hp ht => ?_⟩⟩
  · refine (carryOut_read _ h).trans ?_
    simp only [ht]
    rfl
  · rcases hc with ⟨rfl, hc⟩ | ⟨rfl, hc⟩
    · exact exec_readCapture_full h (.inl rfl) hc
    · exact exec_readCapture_full h (.inr rfl) hc
  · refine (carryOut_read _ h).trans ?_
    simp only [length_all]
    rfl
  · exact exec_nextNew h ht (oldestUnread_eq (all_of_locate ht) hu hold)
  · rw [exec_query_home h, homeQuery_none hn]
  · rw [exec_tabQueryFrame h hp, homeQuery_none (s := popped rest s) hn]
  · refine (carryOut_read _ h).trans ?_
    have hout : slot < 1 ∨ 2 < slot := by omega
    simp only [if_pos hout]
    rfl
  · rcases hc with ⟨rfl, hc⟩ | ⟨rfl, hc⟩
    · exact exec_readCapture_free h (.inl rfl) hc
    · exact exec_readCapture_free h (.inr rfl) hc
  · refine (carryOut_read _ h).trans ?_
    have hnone : s.kitchen.oldestUnread = none := oldestOf_nil_iff.2 (List.filter_eq_nil_iff.2 fun t ht => by rw [hu t ht]; decide)
    simp only [hnone]
    rfl
  · rw [exec_query_home h, homeQuery_some ht]
    rfl
  · rw [exec_tabQueryFrame h hp, homeQuery_some (s := popped rest s) ht]
    rfl

end Sys2Proof.Machine
end

section
/-! Configure, Loopback, Join and the station's own timers (R135 to R140). -/

namespace Sys2Proof.Machine

/-! ## Configure -/

section
variable {q : ConfigReq} {s : State}

theorem mem_increments_iff (n : Nat) : [1, 5, 10, 50].contains n = true ↔ n = 1 ∨ n = 5 ∨ n = 10 ∨ n = 50 := by simp

theorem configureRefusal_number (h : isStation s.station.number = false) :
    configureRefusal s.station.number q = some .BAD_STATION := by
  unfold configureRefusal
  rw [h]
  rfl

theorem configureRefusal_none (hnum : isStation s.station.number = true) (hrole : (q.roles.getLsbD 0 || q.roles.getLsbD 1) = true)
    (hrates : q.rates.c0 ≤ 2500 ∧ q.rates.c1 ≤ 2500 ∧ q.rates.c2 ≤ 2500 ∧ q.rates.c3 ≤ 2500)
    (hround : q.rounding = 1 ∨ q.rounding = 5 ∨ q.rounding = 10 ∨ q.rounding = 50)
    (hprep : q.roles.getLsbD 1 = true → membersOf 0 q.prep ≠ []) : configureRefusal s.station.number q = none := by
  have hsome : ¬(!(q.roles.getLsbD 0) && !(q.roles.getLsbD 1)) = true := by
    rw [← Bool.not_or, hrole]
    decide
  have hmax : Config.maxRate = 2500 := rfl
  unfold configureRefusal
  rw [if_neg (by rw [hnum]; decide), if_neg hsome, if_neg (by omega),
    if_neg (by rw [(mem_increments_iff _).2 hround]; decide), if_neg fun h => hprep h.1 h.2]

theorem configureRefusal_param (hnum : isStation s.station.number = true)
    (h : (q.roles.getLsbD 0 = false ∧ q.roles.getLsbD 1 = false) ∨
        (2500 < q.rates.c0 ∨ 2500 < q.rates.c1 ∨ 2500 < q.rates.c2 ∨ 2500 < q.rates.c3) ∨
        (q.rounding ≠ 1 ∧ q.rounding ≠ 5 ∧ q.rounding ≠ 10 ∧ q.rounding ≠ 50) ∨
        (q.roles.getLsbD 1 = true ∧ membersOf 0 q.prep = [])) :
    configureRefusal s.station.number q = some .BAD_PARAM := by
  unfold configureRefusal
  rw [if_neg (by rw [hnum]; decide)]
  split
  · rfl
  · rename_i hrole
    split
    · rfl
    · rename_i hrates
      split
      · rfl
      · rename_i hround
        have hmax : Config.maxRate = 2500 := rfl
        have hround' : q.rounding = 1 ∨ q.rounding = 5 ∨ q.rounding = 10 ∨ q.rounding = 50 := by
          rw [← mem_increments_iff]
          simpa only [Bool.not_eq_true', Bool.not_eq_false] using hround
        rcases h with ⟨h0, h1⟩ | h | h | h
        · exact absurd (by rw [h0, h1]; rfl) hrole
        · exact absurd h hrates
        · omega
        · rw [if_pos h]

theorem exec_configure_refused {r : Result} (h : commandTaken (.configure q) s = true) (hst : s.station.state = .offline)
    (hr : configureRefusal s.station.number q = some r) :
    exec (.configure q) s = .next (afterCommand (.configure q) s (.bare r) s) := by
  refine (carryOut_taken (configureBody q) h).trans ?_
  simp only [configureBody, hst, hr]
  rfl

end

/-- Settles O13: the tests of R135 in order, and where none refuses the settled configuration. -/
theorem configureTakesItsValues : Obligations.ConfigureTakesItsValues := by
  unfold Obligations.ConfigureTakesItsValues
  refine ⟨fun q s h hst hnum hrole hrates hround hprep => ?_, fun q s h hst => ⟨fun hnum => ?_, fun hnum hbad => ?_⟩⟩
  · refine (carryOut_taken (configureBody q) h).trans ?_
    simp only [configureBody, hst, configureRefusal_none hnum hrole hrates hround hprep]
    rfl
  · exact exec_configure_refused h hst (configureRefusal_number hnum)
  · exact exec_configure_refused h hst (configureRefusal_param hnum hbad)

/-! ## The settled values -/

theorem changedTo_iff (v : Nat) (o : Option Nat) : changedTo v o = true ↔ ∃ w, o = some w ∧ w ≠ v := by
  cases o <;> simp [changedTo]

theorem settle1_eq (lo hi dflt : Nat) (o : Option Nat) :
    settle1 lo hi dflt o = o.elim dflt fun v => min hi (max lo v) := by
  cases o <;> rfl

theorem mem_membersOf_zero_iff (n : Nat) (b : Byte) : n ∈ membersOf 0 b ↔ n < 8 ∧ b.getLsbD n = true := by
  simp [membersOf]

/-- Auto-fire is on where a value of 1 or more is given. -/
theorem autoFire_iff (o : Option Nat) : (settle1 0 1 0 o == 1) = true ↔ ∃ v, o = some v ∧ 1 ≤ v := by
  cases o with
  | none => simp [settle1]
  | some v =>
    simp only [settle1, beq_iff_eq, Option.some.injEq, exists_eq_left']
    omega

/-- The auto-fire byte in force differs from the one given only above 1. -/
theorem autoFire_changed_iff (o : Option Nat) :
    changedTo (if (settle1 0 1 0 o == 1) = true then 1 else 0) o = true ↔ ∃ v, o = some v ∧ 1 < v := by
  rw [changedTo_iff]
  refine exists_congr fun v => and_congr_right fun hv => ?_
  subst hv
  have hon := autoFire_iff (some v)
  simp only [Option.some.injEq, exists_eq_left'] at hon
  split <;> rename_i h <;> rw [hon] at h <;> omega

theorem clampInterval_range (v : Nat) : 250 ≤ clampInterval v ∧ clampInterval v ≤ 2000 ∧ clampInterval v % 250 = 0 ∧
    (250 ≤ v → v ≤ 2000 → clampInterval v ≤ v ∧ v < clampInterval v + 250) ∧ (v < 250 → clampInterval v = 250) ∧
    (2000 < v → clampInterval v = 2000) := by
  unfold clampInterval
  omega

theorem clampedAny_iff (q : ConfigReq) :
    clampedAny q (configured q) = true ↔
      (∃ v, q.interval = some v ∧ v ≠ (configured q).interval) ∨ (∃ v, q.lockCount = some v ∧ v ≠ (configured q).lockCount) ∨
      (∃ v, q.claimHold = some v ∧ v ≠ (configured q).claimHold) ∨ (∃ v, q.fireLimit = some v ∧ v ≠ (configured q).fireLimit) ∨
      (∃ v, q.autoFire = some v ∧ 1 < v) ∨ (∃ v, q.holdMark = some v ∧ v ≠ (configured q).holdMark) ∨
      (∃ v, q.releaseMark = some v ∧ v ≠ (configured q).releaseMark) ∨ (∃ v, q.warnTime = some v ∧ v ≠ (configured q).warnTime) ∨
      (∃ v, q.lateTime = some v ∧ v ≠ (configured q).lateTime) ∨
      (∃ v, q.collectTimeout = some v ∧ v ≠ (configured q).collectTimeout) := by
  have hauto : changedTo (if (configured q).autoFire = true then 1 else 0) q.autoFire = true ↔ ∃ v, q.autoFire = some v ∧ 1 < v :=
    autoFire_changed_iff q.autoFire
  unfold clampedAny
  simp only [Bool.or_eq_true, hauto, changedTo_iff, or_assoc]

theorem withoutKitchen_kitchen {q : ConfigReq} (h : q.roles.getLsbD 1 = true) : withoutKitchen q = q := if_pos h

/-- Without the KITCHEN role the kitchen's parameters stand as if none were given. -/
theorem withoutKitchen_till {q : ConfigReq} (h : q.roles.getLsbD 1 = false) :
    withoutKitchen q =
      { q with
        prep := 0#8, fireLimit := none, autoFire := none, holdMark := none, releaseMark := none, warnTime := none, lateTime := none
        collectTimeout := none } := if_neg (by rw [h]; decide)

theorem releaseMark_eq (q : ConfigReq) :
    (configured q).releaseMark = min (q.releaseMark.getD 16) ((configured q).holdMark - 1) := rfl

theorem holdMark_range (q : ConfigReq) : 4 ≤ (configured q).holdMark ∧ (configured q).holdMark ≤ 48 := by
  change 4 ≤ settle1 4 48 24 q.holdMark ∧ settle1 4 48 24 q.holdMark ≤ 48
  unfold settle1
  split <;> omega

/-- Settles O14: each value by whether it is given. -/
theorem configuredValuesAreClamped : Obligations.ConfiguredValuesAreClamped := by
  unfold Obligations.ConfiguredValuesAreClamped
  intro q
  refine ⟨rfl, rfl, rfl, rfl, ?_, rfl, rfl, rfl, autoFire_iff _, rfl, rfl, rfl, rfl, fun n => ?_, fun h => ?_, fun v h => ?_, ?_,
    clampedAny_iff q, withoutKitchen_kitchen, fun h => ⟨?_, ?_⟩⟩
  · rw [releaseMark_eq]
    cases q.releaseMark <;> rfl
  · change n ∈ (if q.roles.getLsbD 1 = true then membersOf 0 q.prep else []) ↔ _
    by_cases hk : q.roles.getLsbD 1 = true
    · rw [if_pos hk, mem_membersOf_zero_iff]
      exact ⟨fun hn => ⟨hk, hn⟩, And.right⟩
    · rw [if_neg hk]
      exact ⟨fun hn => absurd hn List.not_mem_nil, fun hn => absurd hn.1 hk⟩
  · change (q.interval.map clampInterval).getD 500 = 500
    rw [h]
    rfl
  · have hint : (configured q).interval = clampInterval v := by
      change (q.interval.map clampInterval).getD 500 = clampInterval v
      rw [h]
      rfl
    rw [hint]
    exact clampInterval_range v
  · have hrange := holdMark_range q
    rw [releaseMark_eq]
    omega
  · rw [withoutKitchen_till h]
    simp only [configured, h]
    rfl
  · rw [clampedAny_iff, withoutKitchen_till h]
    have hno : ∀ {p : Nat → Prop}, ¬∃ v, (none : Option Nat) = some v ∧ p v := fun ⟨_, hv, _⟩ => nomatch hv
    simp only [hno, or_false]
    rfl

/-! ## Loopback, Join and the timers -/

section
variable (s : State)

theorem rx_moveLane (lane : Lane) (st : RxState) :
    (moveLane lane st s).link.rx lane =
      if (s.link.rx lane).state = st then s.link.rx lane else (s.link.rx lane).enter st := by
  rw [moveLane_link]
  split
  · rfl
  · exact setRx_rx_same _ _ _

theorem rx_moveLane_other {lane other : Lane} (h : other ≠ lane) (st : RxState) :
    (moveLane lane st s).link.rx other = s.link.rx other := by
  rw [moveLane_link]
  split
  · rfl
  · have hother : other = lane.other := by
      revert h
      cases lane <;> cases other <;> decide
    rw [hother, setRx_rx_other]

theorem moveLane_disagree (lane : Lane) (st : RxState) : (moveLane lane st s).link.disagree = s.link.disagree := by
  rw [moveLane_link]
  split
  · rfl
  · cases lane <;> rfl

/-- What a receiver keeps through a move, and the state it is then in. -/
structure Entered (st : RxState) (r r' : Receiver) : Prop where
  state : r'.state = st
  errors : r'.errors = r.errors
  carrying : r'.carrying = r.carrying
  tag : r'.tagSeen = r.tagSeen

theorem entered_moveLane (lane : Lane) (st : RxState) : Entered st (s.link.rx lane) ((moveLane lane st s).link.rx lane) := by
  rw [rx_moveLane]
  split
  · rename_i h
    exact ⟨h, rfl, rfl, rfl⟩
  · exact ⟨rfl, rfl, rfl, rfl⟩

/-- Both receivers moved, lane A first. -/
def moveBoth (st : RxState) (s : State) : State := moveLane .B st (moveLane .A st s)

theorem moveBoth_a (st : RxState) : Entered st s.link.a (moveBoth st s).link.a := by
  have hb : (moveBoth st s).link.rx .A = (moveLane .A st s).link.rx .A := rx_moveLane_other _ (by decide) st
  have h := entered_moveLane s .A st
  rw [← hb] at h
  exact h

theorem moveBoth_b (st : RxState) : Entered st s.link.b (moveBoth st s).link.b := by
  have ha : (moveLane .A st s).link.rx .B = s.link.rx .B := rx_moveLane_other _ (by decide) st
  have h := entered_moveLane (moveLane .A st s) .B st
  rw [ha] at h
  exact h

theorem moveBoth_disagree (st : RxState) : (moveBoth st s).link.disagree = s.link.disagree := by
  unfold moveBoth
  rw [moveLane_disagree, moveLane_disagree]

theorem moveBoth_station (st : RxState) (h1 : s.station.state ≠ .online) (h2 : s.station.state ≠ .isolated) :
    (moveBoth st s).station = s.station := by
  have ha := moveLane_station_quiet s .A st h1 h2
  unfold moveBoth
  rw [moveLane_station_quiet _ .B st (by rw [ha]; exact h1) (by rw [ha]; exact h2), ha]

/-- What a Loopback move leaves of the records. -/
def LoopMoved (st : StationState) (s t : State) : Prop :=
  t.station = { s.station with state := st } ∧ t.tx.slots = [] ∧ t.rx = [] ∧ t.exch.entries = [] ∧ t.cfg = s.cfg ∧ t.tabs = s.tabs ∧
    t.dir = s.dir ∧ t.kitchen = s.kitchen ∧ t.portions = s.portions ∧ t.takings = s.takings

theorem loopMoved {st : StationState} (rx : RxState) (h1 : st ≠ .online) (h2 : st ≠ .isolated) :
    LoopMoved st s (moveBoth rx (setStation st (endTraffic s))) := by
  refine ⟨moveBoth_station _ rx h1 h2, ?_, ?_, ?_, ?_, ?_, ?_, ?_, ?_, ?_⟩ <;>
    simp [moveBoth, endTraffic]

end

section
variable {s : State}

theorem exec_loopbackOn (h : commandTaken .loopbackOn s = true) (hst : s.station.state = .configured) :
    exec .loopbackOn s =
      .next (afterCommand .loopbackOn s (.bare .OK) (moveBoth .locked (setStation .loopback (endTraffic s)))) := by
  refine (carryOut_taken loopbackOnBody h).trans ?_
  simp only [loopbackOnBody, if_pos hst]
  rfl

/-- A receiver whose silence timer starts anew. -/
def Receiver.fresh (r : Receiver) : Receiver := { r with silence := some Config.laneSilenceMs }

theorem exec_loopbackOff (h : commandTaken .loopbackOff s = true) (hst : s.station.state = .loopback) :
    exec .loopbackOff s =
      .next (afterCommand .loopbackOff s (.bare .OK)
        (modRx .B Receiver.fresh (modRx .A Receiver.fresh (moveBoth .hunt (setStation .configured (endTraffic s)))))) := by
  refine (carryOut_taken loopbackOffBody h).trans ?_
  simp only [loopbackOffBody, if_pos hst]
  rfl

theorem watchLanes_online (hst : s.station.state = .online) :
    watchLanes s =
      { s with
        station :=
          { s.station with
            isolation := if s.link.a.state = .locked ∨ s.link.b.state = .locked then none else some (s.station.isolation.getD 1000) } } := by
  have hlocked : anyLocked s = true ↔ s.link.a.state = .locked ∨ s.link.b.state = .locked := by simp [anyLocked]
  unfold watchLanes
  rw [hst]
  by_cases h : s.link.a.state = .locked ∨ s.link.b.state = .locked
  · simp only [hlocked, if_pos h]
  · simp only [hlocked, if_neg h]
    rfl

end

/-- Settles O15: the Loopback moves by what a receiver's move keeps, Join and the two expiries by their rules. -/
theorem stationRowsMoveTheState : Obligations.StationRowsMoveTheState := by
  unfold Obligations.StationRowsMoveTheState
  refine ⟨fun s h hst => ?_, fun s h hst => ?_, fun s h hst => ?_, fun s hr hst hw => ?_, fun s hr hst hw => ?_⟩
  · obtain ⟨hstation, htx, hrx, hexch, hcfg, htabs, hdir, hkitchen, hportions, htakings⟩ :=
      loopMoved s .locked (st := .loopback) (by decide) (by decide)
    have ha := moveBoth_a (setStation .loopback (endTraffic s)) .locked
    have hb := moveBoth_b (setStation .loopback (endTraffic s)) .locked
    refine ⟨_, exec_loopbackOn h hst, ?_⟩
    generalize moveBoth .locked (setStation .loopback (endTraffic s)) = u at *
    exact ⟨hstation, htx, hrx, hexch, ha.carrying, hb.carrying, ha.state, hb.state, ha.errors, hb.errors, hcfg, htabs, hdir, hkitchen,
      hportions, htakings⟩
  · obtain ⟨hstation, htx, hrx, hexch, hcfg, htabs, hdir, hkitchen, hportions, htakings⟩ :=
      loopMoved s .hunt (st := .configured) (by decide) (by decide)
    have ha := moveBoth_a (setStation .configured (endTraffic s)) .hunt
    have hb := moveBoth_b (setStation .configured (endTraffic s)) .hunt
    have hdisagree := moveBoth_disagree (setStation .configured (endTraffic s)) .hunt
    refine ⟨_, exec_loopbackOff h hst, ?_⟩
    generalize moveBoth .hunt (setStation .configured (endTraffic s)) = u at *
    have htags : tagStatusOf u.link.a.tagSeen u.link.b.tagSeen = s.link.tagStatus := by
      rw [ha.tag, hb.tag]
      rfl
    exact ⟨hstation, htx, hrx, hexch, ha.carrying, hb.carrying, ha.state, hb.state, ha.errors, hb.errors, htags, hdisagree, hcfg, htabs,
      hdir, hkitchen, hportions, htakings⟩
  · refine (carryOut_taken joinBody h).trans ?_
    simp only [joinBody, if_pos hst]
    rfl
  · refine (event_runs joinExpiry hr).trans ?_
    unfold joinExpiry
    rw [if_pos ⟨hst, hw⟩]
    simp only
    rw [watchLanes_online rfl]
  · refine (event_runs isolationExpiry hr).trans ?_
    unfold isolationExpiry
    rw [if_pos ⟨hst, hw⟩]

end Sys2Proof.Machine
end

section
/-! Adding lines and sending them to the kitchen (R8 to R13). -/

namespace Sys2Proof.Machine

section
variable {s : State} {tab send origin : Nat} {lines : List LineReq} {t : Tab}

/-- A ready request whose rule gives its reply with its effect is answered at the effect's end. -/
theorem request_answering {α : Type} {kind : Nat} {role : Role} {r : Reader α} {subject share : α → Nat} {b : Frame → α → Body} {f : Frame}
    {rest : List Frame} {a : α} (h : requestReady kind role f rest s = true) (ha : r.exact f.payload = some a) :
    event (request kind r role subject share fun f a => answering (b f a)) s =
      .next (afterRequest s f (subject a) (share a) (b f a (popped rest s)).1 (b f a (popped rest s)).2) :=
  request_runs r subject share (fun f a => answering (b f a)) h ha

/-! ## Add -/

/-- A tab with the offered lines behind its own, its total worked out again. -/
def addedTab (rates : ClassVec) (origin : Nat) (lines : List LineReq) (t : Tab) : Tab :=
  Tab.recompute rates { t with lines := t.lines ++ lines.mapIdx fun i l => lineRecord origin (t.lines.length + i + 1) l }

theorem recompute_appendLines (rates : ClassVec) (origin : Nat) (lines : List LineReq) (t : Tab) :
    (appendLines origin lines t).recompute rates = addedTab rates origin lines t := by
  rw [appendLines_eq]
  rfl

/-- What Add answers and leaves where no test refuses it. -/
def addEffect (tab send : Nat) (lines : List LineReq) (origin : Nat) (t : Tab) (s : State) : Reply × State :=
  let t' := addedTab s.cfg.rates origin lines t
  let s' := modTab tab (addedTab s.cfg.rates origin lines) s
  let w : SendWalk := if send = 1 then sendWalk s' t' else ⟨[], s.router.counter, [], false⟩
  (⟨.OK, e1 (t.lines.length + 1) ++ e1 (t.lines.length + lines.length) ++ e4 t'.total ++ e1 w.joined.length ++
      e1 (if send = 1 then (newLines t').length - w.joined.length else 0)⟩,
    if send = 1 then applyWalk tab w s' else s')

theorem homeAdd_refused {r : Reply} (h : addRefusal s tab lines send = some r) : homeAdd origin tab lines send s = (r, s) := by
  unfold homeAdd
  rw [h]

theorem homeAdd_adds (h : addRefusal s tab lines send = none) (ht : findTab s tab = some t) :
    homeAdd origin tab lines send s = addEffect tab send lines origin t s := by
  have hfind : findTab (modTab tab (addedTab s.cfg.rates origin lines) s) tab = some (addedTab s.cfg.rates origin lines t) := by
    rw [findTab_modTab tab (addedTab s.cfg.rates origin lines) (fun _ => rfl), ht]
    rfl
  have htotal : tabTotal (modTab tab (addedTab s.cfg.rates origin lines) s) tab = (addedTab s.cfg.rates origin lines t).total := by
    unfold tabTotal
    rw [hfind]
    rfl
  unfold homeAdd addEffect
  simp only [h, ht, recompute_appendLines, hfind, htotal]
  by_cases hsend : send = 1
  · simp only [if_pos hsend]
    rfl
  · simp only [if_neg hsend]
    rfl

theorem lineOffered_iff (l : LineReq) : lineOffered l = true ↔
    l.item ≤ 4095 ∧ l.price ≤ 50000 ∧ 1 ≤ l.qty ∧ l.qty ≤ 20 ∧ l.tax ≤ 3 ∧ l.prep ≤ 8 ∧ l.rush ≤ 1 ∧ l.mods.length ≤ 3 ∧
      ∀ m ∈ l.mods, m ≤ 4095 := by
  simp only [lineOffered, Bool.and_eq_true, decide_eq_true_eq, List.all_eq_true, and_assoc]

/-- The offered lines and the send flag are in range (R8). -/
def AddRanged (send : Nat) (lines : List LineReq) : Prop :=
  1 ≤ lines.length ∧ lines.length ≤ 8 ∧ send ≤ 1 ∧
    ∀ l ∈ lines, l.item ≤ 4095 ∧ l.price ≤ 50000 ∧ 1 ≤ l.qty ∧ l.qty ≤ 20 ∧ l.tax ≤ 3 ∧ l.prep ≤ 8 ∧ l.rush ≤ 1 ∧
      l.mods.length ≤ 3 ∧ ∀ m ∈ l.mods, m ≤ 4095

theorem addRanged_iff : AddRanged send lines ↔
    ¬(lines.length < 1 ∨ Config.groupCapacity < lines.length ∨ lines.all lineOffered = false ∨ 1 < send) := by
  have hcap : Config.groupCapacity = 8 := rfl
  have hall : lines.all lineOffered = false ↔ ¬∀ l ∈ lines, lineOffered l = true := by
    rw [← List.all_eq_true, Bool.not_eq_true]
  simp only [AddRanged, hcap, hall, ← lineOffered_iff]
  constructor
  · rintro ⟨h1, h8, hs, hl⟩ (h | h | h | h)
    · omega
    · omega
    · exact h hl
    · omega
  · intro h
    exact ⟨by omega, by omega, by omega, Classical.byContradiction fun hl => h (.inr (.inr (.inl hl)))⟩

theorem findIdx_first {α : Type} {p : α → Bool} {pre post : List α} {a : α} (hpre : ∀ x ∈ pre, p x = false) (ha : p a = true) :
    (pre ++ a :: post).findIdx? p = some pre.length := by
  induction pre with
  | nil => simp [List.findIdx?_cons, ha]
  | cons x pre ih =>
    rw [List.cons_append, List.findIdx?_cons, hpre x List.mem_cons_self, ih fun y hy => hpre y (List.mem_cons_of_mem _ hy)]
    rfl

/-- The first test that Add fails, in the order of R8. -/
def AddRefused (tab send : Nat) (lines : List LineReq) (s : State) (r : Reply) : Prop :=
  (findTab s tab = none ∧ r = .bare .NO_TAB) ∨
  ∃ t, findTab s tab = some t ∧
    ((t.state = .splitting ∧ r = .bare .BUSY) ∨ (t.state = .split ∧ r = .bare .TAB_SPLIT) ∨
      (t.state = .closed ∧ r = .bare .TAB_CLOSED) ∨
      (t.state = .open ∧
        ((¬AddRanged send lines ∧ r = .bare .BAD_PARAM) ∨
          (AddRanged send lines ∧ 48 < t.lines.length + lines.length ∧ r = .bare .TAB_FULL) ∨
          (AddRanged send lines ∧ t.lines.length + lines.length ≤ 48 ∧
            ∃ pre l post, lines = pre ++ l :: post ∧ (∀ x ∈ pre, soldOut s x = false) ∧ soldOut s l = true ∧
              r = ⟨.SOLD_OUT, e1 (pre.length + 1)⟩))))

theorem addRefusal_of_refused {r : Reply} (h : AddRefused tab send lines s r) : addRefusal s tab lines send = some r := by
  unfold addRefusal
  rcases h with ⟨hn, rfl⟩ | ⟨t, ht, h⟩
  · rw [hn]
  · rw [ht]
    dsimp only
    rcases h with ⟨hst, rfl⟩ | ⟨hst, rfl⟩ | ⟨hst, rfl⟩ | ⟨hst, h⟩
    · rw [hst]
      rfl
    · rw [hst]
      rfl
    · rw [hst]
      rfl
    · rw [hst]
      dsimp only [openOnly]
      rcases h with ⟨hout, rfl⟩ | ⟨hin, hfull, rfl⟩ | ⟨hin, hroom, pre, l, post, rfl, hpre, hl, rfl⟩
      · rw [addRanged_iff, Classical.not_not] at hout
        rw [if_pos hout]
      · rw [if_neg (addRanged_iff.1 hin), if_pos (show Config.lineCapacity < _ from hfull)]
      · rw [if_neg (addRanged_iff.1 hin), if_neg (Nat.not_lt.2 (show _ ≤ Config.lineCapacity from hroom)), findIdx_first hpre hl]

theorem addRefusal_none (ht : findTab s tab = some t) (hst : t.state = .open) (hin : AddRanged send lines)
    (hroom : t.lines.length + lines.length ≤ 48) (hsold : ∀ l ∈ lines, soldOut s l = false) :
    addRefusal s tab lines send = none := by
  have hidx : lines.findIdx? (soldOut s) = none := List.findIdx?_eq_none_iff.2 hsold
  unfold addRefusal
  rw [ht]
  dsimp only
  rw [hst]
  dsimp only [openOnly]
  rw [if_neg (addRanged_iff.1 hin), if_neg (Nat.not_lt.2 (show _ ≤ Config.lineCapacity from hroom)), hidx]

theorem exec_add_home (h : jobReady (.add (own s) tab lines send) .till s = true) :
    exec (.add (own s) tab lines send) s =
      .next (afterCommand (.add (own s) tab lines send) s (homeAdd (own s) tab lines send s).1 (homeAdd (own s) tab lines send s).2) := by
  refine (carryOut_job _ h).trans ?_
  simp only [if_true]

theorem exec_addFrame {f : Frame} {rest : List Frame} (h : requestReady Kind.add .till f rest s = true)
    (hp : rAdd.exact f.payload = some ⟨tab, send, lines⟩) :
    exec .addFrame s =
      .next (afterRequest s f tab 0 (homeAdd f.source tab lines send (popped rest s)).1
        (homeAdd f.source tab lines send (popped rest s)).2) := by
  have served := request_answering (r := rAdd) (subject := fun a => a.tab) (share := fun _ => 0)
    (b := fun f a => homeAdd f.source a.tab a.lines a.send) h hp
  exact served

end

/-- Settles O19: Add's tests in order, then the lines appended and grouped, by command and by frame alike. -/
theorem addAppendsLines : Obligations.AddAppendsLines := by
  unfold Obligations.AddAppendsLines
  intro tab send lines
  have accepted : ∀ {t : Tab} {s : State}, findTab s tab = some t ∧ t.state = .open ∧ 1 ≤ lines.length ∧ lines.length ≤ 8 ∧
      lines.all lineOffered = true ∧ send ≤ 1 ∧ t.lines.length + lines.length ≤ 48 ∧ lines.all (fun l => !soldOut s l) = true →
      addRefusal s tab lines send = none := by
    rintro t s ⟨ht, hst, h1, h8, hall, hs, hroom, hsold⟩
    refine addRefusal_none ht hst ⟨h1, h8, hs, fun l hl => (lineOffered_iff l).1 (List.all_eq_true.1 hall l hl)⟩ hroom fun l hl => ?_
    simpa using List.all_eq_true.1 hsold l hl
  refine ⟨fun t s h hfits => ?_, fun f rest t s h hp hfits => ?_, fun r s h hr => ?_, fun f rest r s h hp hr => ?_⟩
  · rw [exec_add_home h, homeAdd_adds (accepted hfits) hfits.1]
    rfl
  · rw [exec_addFrame h hp, homeAdd_adds (accepted hfits) hfits.1]
    rfl
  · rw [exec_add_home h, homeAdd_refused (addRefusal_of_refused hr)]
  · rw [exec_addFrame h hp, homeAdd_refused (addRefusal_of_refused hr)]

/-! ## The stock screen -/

section
variable {s : State}

theorem mem_servingKitchens (prep k : Nat) :
    k ∈ servingKitchens s prep ↔
      (∃ p ∈ s.dir.entries, (p.presence = .present ∧ p.kitchen = true ∧ prep ∈ p.prep) ∧ p.station = k) ∨
      ((s.cfg.kitchen = true ∧ prep ∈ s.cfg.prep) ∧ k = own s) := by
  unfold servingKitchens
  rw [List.mem_append]
  refine or_congr ?_ ?_
  · simp [and_assoc]
  · have hserves : (s.cfg.kitchen && s.cfg.prep.contains prep) = true ↔ s.cfg.kitchen = true ∧ prep ∈ s.cfg.prep := by simp
    simp only [hserves]
    split
    · rename_i h
      simp only [h, List.mem_singleton, true_and, and_self]
    · rename_i h
      simp only [h, List.not_mem_nil, false_and]

theorem judgedOut_own (item : Nat) : judgedOut s (own s) item = true ↔ ∃ p, findPortion s item = some p ∧ p.remaining = 0 := by
  unfold judgedOut
  rw [if_pos rfl]
  cases findPortion s item <;> simp

theorem judgedOut_peer {k : Nat} (hk : k ≠ own s) (item : Nat) :
    judgedOut s k item = true ↔ ∃ e ∈ s.stock, e.item = item ∧ e.kitchen = k ∧ e.state = .out := by
  unfold judgedOut
  rw [if_neg hk]
  simp [and_assoc]

end

/-- Settles O20: the screen asks every serving kitchen, and a peer is never this station. -/
theorem soldOutNeedsEveryKitchenOut : Obligations.SoldOutNeedsEveryKitchenOut := by
  unfold Obligations.SoldOutNeedsEveryKitchenOut
  intro s l peerServes ownServes hpeers
  have hsome : (servingKitchens s l.prep).isEmpty = false ↔ (∃ p ∈ s.dir.entries, peerServes p) ∨ ownServes := by
    rw [List.isEmpty_eq_false_iff_exists_mem]
    simp only [mem_servingKitchens]
    constructor
    · rintro ⟨k, ⟨p, hp, hserves, -⟩ | ⟨hown, -⟩⟩
      · exact .inl ⟨p, hp, hserves⟩
      · exact .inr hown
    · rintro (⟨p, hp, hserves⟩ | hown)
      · exact ⟨_, .inl ⟨p, hp, hserves, rfl⟩⟩
      · exact ⟨_, .inr ⟨hown, rfl⟩⟩
  have hall : ((servingKitchens s l.prep).all fun k => judgedOut s k l.item) = true ↔
      (∀ p ∈ s.dir.entries, peerServes p → ∃ e ∈ s.stock, e.item = l.item ∧ e.kitchen = p.station ∧ e.state = .out) ∧
      (ownServes → ∃ p, findPortion s l.item = some p ∧ p.remaining = 0) := by
    simp only [List.all_eq_true, mem_servingKitchens]
    constructor
    · intro h
      exact ⟨fun p hp hserves => (judgedOut_peer (hpeers p hp) _).1 (h _ (.inl ⟨p, hp, hserves, rfl⟩)),
        fun hown => (judgedOut_own _).1 (h _ (.inr ⟨hown, rfl⟩))⟩
    · rintro ⟨hp, ho⟩ k (⟨p, hmem, hserves, rfl⟩ | ⟨hown, rfl⟩)
      · exact (judgedOut_peer (hpeers p hmem) _).2 (hp p hmem hserves)
      · exact (judgedOut_own _).2 (ho hown)
  unfold soldOut
  rw [Bool.and_eq_true, Bool.and_eq_true, bne_iff_ne, Bool.not_eq_true', hsome, hall, and_assoc]

/-! ## Send -/

section
variable {s : State} {tab : Nat} {t : Tab}

/-- A walk's lines take their numbers in the tab of that number, and its records join the list. -/
theorem applyWalk_eq (tab : Nat) (w : SendWalk) (s : State) :
    applyWalk tab w s =
      { s with
        tabs := s.tabs.map fun u => if u.number = tab then { u with lines := u.lines.map (groupLine w.joined) } else u
        router := { s.router with tickets := s.router.tickets ++ w.made.reverse, counter := w.counter } } := by
  unfold applyWalk modTab mapIf
  simp only [beq_iff_eq]

theorem exec_send (h : jobReady (.send tab) .till s = true) (ht : findTab s tab = some t) (hst : t.state ≠ .splitting) :
    exec (.send tab) s =
      .next (afterCommand (.send tab) s
        ⟨if (sendWalk s t).full then .TICKETS_FULL else .OK, e1 (sendWalk s t).joined.length ++ e1 (sendWalk s t).made.length⟩
        (applyWalk tab (sendWalk s t) s)) := by
  refine (carryOut_job _ h).trans ?_
  simp only [ht, if_neg hst]

end

/-- Settles O21: Send's walk applied, and its two refusals. -/
theorem sendMakesTickets : Obligations.SendMakesTickets := by
  unfold Obligations.SendMakesTickets
  refine ⟨fun tab t s h ht hst => ?_, fun tab s h => ⟨fun hn => ?_, fun t ht hst => ?_⟩⟩
  · rw [exec_send h ht hst, applyWalk_eq]
    rfl
  · refine (carryOut_job _ h).trans ?_
    simp only [hn]
    rfl
  · refine (carryOut_job _ h).trans ?_
    simp only [ht, if_pos hst]
    rfl

end Sys2Proof.Machine
end

section
/-! Voids: a till's, the kitchen's, and what they do to the line's ticket (R14 to R17, R52 to R54, R78, R90). -/

namespace Sys2Proof.Machine

/-! ## A ready request's frame -/

theorem kind_of_requestReady {kind : Nat} {role : Role} {f : Frame} {rest : List Frame} {s : State}
    (h : requestReady kind role f rest s = true) : f.kind = kind := by
  simp only [requestReady, frameReady, Bool.and_eq_true, beq_iff_eq] at h
  obtain ⟨⟨⟨⟨-, hkind⟩, -⟩, -⟩, -⟩ := h
  exact hkind

theorem final_iff (st : LineState) : st.final = true ↔ st = .void ∨ st = .kvoid ∨ st = .refund := by cases st <;> decide

theorem charged_eq (st : LineState) : st.charged = (st != .void && st != .kvoid) := by cases st <;> rfl

/-! ## Line void -/

section
variable {s : State} {tab line : Nat} {t : Tab} {l : Line}

theorem findTab_setLineState (ht : findTab s tab = some t) (dst : LineState) :
    findTab (setLineState tab line dst s) tab = some ((t.modLine line fun x => { x with state := dst }).recompute s.cfg.rates) := by
  refine (findTab_modTab tab _ ?_ s).trans (congrArg _ ht)
  exact fun _ => rfl

theorem tabTotal_of_findTab (ht : findTab s tab = some t) : tabTotal s tab = t.total := by
  unfold tabTotal
  rw [ht]
  rfl

theorem lineVoidRefusal_none (ht : findTab s tab = some t) (hst : t.state = .open) (hl : t.line line = some l) (hf : l.state.final = false) :
    lineVoidRefusal s tab line = none := by
  simp only [lineVoidRefusal, ht, hst, openOnly, hl, hf]
  rfl

/-- The reply of a Line void: the line and the tab's new total. -/
def lineVoidReply (line : Nat) (t : Tab) (s : State) : Reply :=
  ⟨.OK, e1 line ++ e4 ((t.modLine line fun x => { x with state := .void }).recompute s.cfg.rates).total⟩

theorem homeLineVoid_voids (ans : Answering) (ht : findTab s tab = some t) (hr : lineVoidRefusal s tab line = none) :
    homeLineVoid tab line ans s = (lineVoidReply line t s, voidLine tab line (ans (lineVoidReply line t s) s)) := by
  unfold homeLineVoid
  rw [hr]
  simp only [tabTotal_of_findTab (findTab_setLineState ht .void)]
  rfl

theorem homeLineVoid_refused {r : Result} (ans : Answering) (hr : lineVoidRefusal s tab line = some r) :
    homeLineVoid tab line ans s = (.bare r, ans (.bare r) s) := by
  unfold homeLineVoid
  rw [hr]
  rfl

theorem exec_lineVoid_home (h : jobReady (.lineVoid (own s) tab line) .till s = true) :
    exec (.lineVoid (own s) tab line) s =
      .next (afterCommand (.lineVoid (own s) tab line) s (homeLineVoid tab line noAnswer s).1
        (if (homeLineVoid tab line noAnswer s).1.result = .OK then countLineVoided (homeLineVoid tab line noAnswer s).2
          else (homeLineVoid tab line noAnswer s).2)) := by
  refine (carryOut_job _ h).trans ?_
  simp only [if_true]

theorem exec_lineVoidFrame {f : Frame} {rest : List Frame} (h : requestReady Kind.lineVoid .till f rest s = true)
    (hp : rTabByte.exact f.payload = some (tab, line)) :
    exec .lineVoidFrame s =
      .next (afterFrame s
        (homeLineVoid tab line (fun y u => sendAnswer f.source Kind.lineVoid f.tag tab 0 y u) (popped rest s)).2) := by
  have served := request_runs rTabByte (·.1) (fun _ => 0) (fun _ a ans s => (homeLineVoid a.1 a.2 ans s).2) h hp
  rw [kind_of_requestReady h] at served
  exact served

/-- The first test of R14 that a Line void fails. -/
def LineVoidRefused (tab line : Nat) (s : State) (r : Reply) : Prop :=
  (findTab s tab = none ∧ r = .bare .NO_TAB) ∨
  ∃ t, findTab s tab = some t ∧
    ((t.state = .splitting ∧ r = .bare .BUSY) ∨ (t.state = .split ∧ r = .bare .TAB_SPLIT) ∨
      (t.state = .closed ∧ r = .bare .TAB_CLOSED) ∨
      (t.state = .open ∧ (∀ l, t.line line = some l → l.state = .void ∨ l.state = .kvoid ∨ l.state = .refund) ∧ r = .bare .BAD_LINE))

theorem lineVoidRefusal_of_refused {r : Reply} (h : LineVoidRefused tab line s r) :
    ∃ x, r = .bare x ∧ x ≠ .OK ∧ lineVoidRefusal s tab line = some x := by
  rcases h with ⟨hn, rfl⟩ | ⟨t, ht, ⟨hst, rfl⟩ | ⟨hst, rfl⟩ | ⟨hst, rfl⟩ | ⟨hst, hl, rfl⟩⟩
  · exact ⟨_, rfl, by decide, by simp only [lineVoidRefusal, hn]⟩
  · exact ⟨_, rfl, by decide, by simp only [lineVoidRefusal, ht, hst, openOnly]⟩
  · exact ⟨_, rfl, by decide, by simp only [lineVoidRefusal, ht, hst, openOnly]⟩
  · exact ⟨_, rfl, by decide, by simp only [lineVoidRefusal, ht, hst, openOnly]⟩
  · refine ⟨_, rfl, by decide, ?_⟩
    cases hline : t.line line with
    | none => simp only [lineVoidRefusal, ht, hst, openOnly, hline]
    | some l => simp only [lineVoidRefusal, ht, hst, openOnly, hline, (final_iff _).2 (hl l hline), if_true]

/-! ## Tab void -/

theorem anyIn_iff (sp : SplitRec) (st : ShareState) : sp.anyIn st = true ↔ ∃ sh ∈ sp.shares, sh.state = st := by simp [SplitRec.anyIn]

theorem anyIn_eq_false_iff (sp : SplitRec) (st : ShareState) : sp.anyIn st = false ↔ ∀ sh ∈ sp.shares, sh.state ≠ st := by
  simp [SplitRec.anyIn]

theorem tabVoidRefusal_none
    (h : t.state = .open ∨ (t.state = .split ∧ ∃ sp, t.split = some sp ∧ ∀ sh ∈ sp.shares, sh.state = .available)) :
    tabVoidRefusal t = none := by
  rcases h with hst | ⟨hst, sp, hsp, hall⟩
  · simp only [tabVoidRefusal, hst]
  · have hs : sp.anyIn .settled = false := (anyIn_eq_false_iff _ _).2 fun sh hsh => by rw [hall sh hsh]; decide
    have hc : sp.anyIn .claimed = false := (anyIn_eq_false_iff _ _).2 fun sh hsh => by rw [hall sh hsh]; decide
    simp only [tabVoidRefusal, hst, hsp, hs, hc]
    rfl

theorem exec_tabVoid (h : jobReady (.tabVoid tab) .till s = true) (ht : findTab s tab = some t) (hr : tabVoidRefusal t = none) :
    exec (.tabVoid tab) s =
      .next (afterCommand (.tabVoid tab) s ⟨.OK, e1 (chargedLines t).length⟩
        (closeTab tab .voided ((chargedLines t).foldl (voidAndCount tab) (modTab tab Tab.withdrawSplit s)))) := by
  refine (carryOut_job _ h).trans ?_
  simp only [ht, hr]

theorem exec_tabVoid_refused {r : Result} (h : jobReady (.tabVoid tab) .till s = true) (ht : findTab s tab = some t)
    (hr : tabVoidRefusal t = some r) : exec (.tabVoid tab) s = .next (afterCommand (.tabVoid tab) s (.bare r) s) := by
  refine (carryOut_job _ h).trans ?_
  simp only [ht, hr]
  rfl

theorem exec_tabVoid_none (h : jobReady (.tabVoid tab) .till s = true) (ht : findTab s tab = none) :
    exec (.tabVoid tab) s = .next (afterCommand (.tabVoid tab) s (.bare .NO_TAB) s) := by
  refine (carryOut_job _ h).trans ?_
  simp only [ht]
  rfl

/-! ## The kitchen's void -/

theorem tabKitchenVoid_no_line (h : ∀ t, findTab s tab = some t → t.line line = none) : tabKitchenVoid tab line s = s := by
  unfold tabKitchenVoid
  split
  · rfl
  · rename_i t ht
    rw [h t ht]

theorem tabKitchenVoid_final (ht : findTab s tab = some t) (hl : t.line line = some l) (hf : l.state.final = true) :
    tabKitchenVoid tab line s = s := by
  simp only [tabKitchenVoid, ht, hl, hf, if_true]

theorem tabKitchenVoid_open (ht : findTab s tab = some t) (hl : t.line line = some l) (hf : l.state.final = false)
    (hst : t.state = .open) : tabKitchenVoid tab line s = setLineState tab line .kvoid s := by
  simp only [tabKitchenVoid, ht, hl, hf, hst]
  rfl

theorem tabKitchenVoid_splitting (ht : findTab s tab = some t) (hl : t.line line = some l) (hf : l.state.final = false)
    (hst : t.state = .splitting) :
    tabKitchenVoid tab line s =
      { setLineState tab line .kvoid s with engine := s.engine.map fun j => if j.tab = tab then { j with stale := true } else j } := by
  simp only [tabKitchenVoid, ht, hl, hf, hst]
  rfl

theorem tabKitchenVoid_refunds {sp : SplitRec} (ht : findTab s tab = some t) (hl : t.line line = some l) (hf : l.state.final = false)
    (hsp : t.split = some sp) (hst : t.state = .closed ∨ (t.state = .split ∧ ∃ sh ∈ sp.shares, sh.state = .settled)) :
    tabKitchenVoid tab line s = refundLine tab sp l s := by
  rcases hst with hst | ⟨hst, hsettled⟩
  · simp only [tabKitchenVoid, ht, hl, hf, hst, hsp]
    rfl
  · simp only [tabKitchenVoid, ht, hl, hf, hst, hsp, (anyIn_iff _ _).2 hsettled, if_true]
    rfl

theorem tabKitchenVoid_withdraws {sp : SplitRec} (ht : findTab s tab = some t) (hl : t.line line = some l) (hf : l.state.final = false)
    (hsp : t.split = some sp) (hst : t.state = .split) (hnone : ∀ sh ∈ sp.shares, sh.state ≠ .settled) :
    tabKitchenVoid tab line s = automaticWithdraw tab sp line s := by
  simp only [tabKitchenVoid, ht, hl, hf, hst, hsp, (anyIn_eq_false_iff _ _).2 hnone]
  rfl

theorem tabKitchenVoid_no_split (ht : findTab s tab = some t) (hl : t.line line = some l) (hsp : t.split = none)
    (hst : t.state = .split ∨ t.state = .closed) : tabKitchenVoid tab line s = s := by
  cases hf : l.state.final with
  | true => exact tabKitchenVoid_final ht hl hf
  | false =>
    rcases hst with hst | hst <;>
    · simp only [tabKitchenVoid, ht, hl, hf, hst, hsp]
      rfl

/-- The total does not depend on the sharer sets. -/
theorem total_withdrawSplit (rates : ClassVec) (line : Nat) (dst : LineState) (t : Tab) :
    ((t.withdrawSplit.modLine line fun x => { x with state := dst }).recompute rates).total =
      ((t.modLine line fun x => { x with state := dst }).recompute rates).total := by
  have hlines : (t.withdrawSplit.modLine line fun x => { x with state := dst }).lines =
      (t.modLine line fun x => { x with state := dst }).lines.map fun x => { x with sharers := none } := by
    simp only [modLine_lines, Tab.withdrawSplit, List.map_map]
    refine List.map_congr_left fun x _ => ?_
    change (if x.number == line then _ else _) = Line.mk _ _ _ _ _ _ _ _ _ _ _ _
    split <;> rename_i hx <;> simp [hx]
  have hbase : ∀ c, classBase c (t.withdrawSplit.modLine line fun x => { x with state := dst }).lines =
      classBase c (t.modLine line fun x => { x with state := dst }).lines := fun c => by
    rw [hlines, classBase_map c]
    exact fun _ _ => ⟨rfl, rfl, rfl⟩
  simp only [Tab.recompute, hbase]

/-- Every claimant of the split is told CANCELLED, in share order. -/
def tellClaimants (tab : Nat) (sp : SplitRec) (s : State) : State :=
  (sp.shares.filter (·.state == .claimed)).foldl (fun s sh => tellClaimEnd tab sh.number sh.claimant .cancelled s) s

theorem tellClaimants_fields (tab : Nat) (sp : SplitRec) (s : State) :
    (tellClaimants tab sp s).station = s.station ∧ (tellClaimants tab sp s).tabs = s.tabs ∧ (tellClaimants tab sp s).cfg = s.cfg := by
  unfold tellClaimants
  generalize sp.shares.filter (·.state == .claimed) = l
  induction l generalizing s with
  | nil => exact ⟨rfl, rfl, rfl⟩
  | cons sh l ih =>
    obtain ⟨h1, h2, h3⟩ := ih (tellClaimEnd tab sh.number sh.claimant .cancelled s)
    rw [List.foldl_cons, h1, h2, h3]
    simp

theorem automaticWithdraw_eq {sp : SplitRec} (ht : findTab s tab = some t) :
    automaticWithdraw tab sp line s =
      post (.splitWithdrawn (own s) tab line ((t.modLine line fun x => { x with state := .kvoid }).recompute s.cfg.rates).total)
        (setLineState tab line .kvoid (modTab tab Tab.withdrawSplit (tellClaimants tab sp s))) := by
  obtain ⟨hstation, htabs, hcfg⟩ := tellClaimants_fields tab sp s
  have hfind : findTab (modTab tab Tab.withdrawSplit (tellClaimants tab sp s)) tab = some t.withdrawSplit := by
    rw [findTab_modTab tab Tab.withdrawSplit fun _ => rfl]
    unfold findTab at ht ⊢
    rw [htabs, ht]
    rfl
  have hafter := findTab_setLineState (line := line) hfind .kvoid
  have hown : own (setLineState tab line .kvoid (modTab tab Tab.withdrawSplit (tellClaimants tab sp s))) = own s := by
    unfold own
    rw [setLineState_station, modTab_station, hstation]
  change post (.splitWithdrawn (own (setLineState tab line .kvoid (modTab tab Tab.withdrawSplit (tellClaimants tab sp s)))) tab line
    (tabTotal (setLineState tab line .kvoid (modTab tab Tab.withdrawSplit (tellClaimants tab sp s))) tab)) _ = _
  rw [hown, tabTotal_of_findTab hafter, total_withdrawSplit, modTab_cfg, hcfg]
  rfl

end

/-- Settles O23: each void by the state of its tab, and the refusals by the first test that fails. -/
theorem voidsLeaveTheCharge : Obligations.VoidsLeaveTheCharge := by
  unfold Obligations.VoidsLeaveTheCharge
  have notFinal : ∀ {st : LineState}, ¬(st = .void ∨ st = .kvoid ∨ st = .refund) → st.final = false :=
    fun h => Bool.eq_false_iff.2 fun hf => h ((final_iff _).1 hf)
  refine ⟨fun tab line t l s h ht hst hl h1 h2 h3 => ?_, fun tab line t l f rest s h hp ht hst hl h1 h2 h3 => ?_,
    fun tab t s h ht hst => ?_, fun tab line t l s ht hl => ?_, fun tab line s h => tabKitchenVoid_no_line h,
    fun tab line => ⟨fun r s h hr => ?_, fun f rest r s h hp hr => ?_⟩, fun tab r s h hr => ?_⟩
  · have hf := notFinal fun h => h.elim h1 fun h => h.elim h2 h3
    rw [exec_lineVoid_home h, homeLineVoid_voids _ ht (lineVoidRefusal_none ht hst hl hf)]
    rfl
  · have hf := notFinal fun h => h.elim h1 fun h => h.elim h2 h3
    rw [exec_lineVoidFrame h hp, homeLineVoid_voids (s := popped rest s) _ ht (lineVoidRefusal_none ht hst hl hf)]
    rfl
  · have hcharged : chargedLines t = (t.lines.filter fun l => l.state != .void && l.state != .kvoid).map (·.number) := by
      simp only [chargedLines, charged_eq]
    intro charged voided
    rw [exec_tabVoid h ht (tabVoidRefusal_none hst), hcharged]
    rfl
  · refine ⟨fun hf => tabKitchenVoid_final ht hl ((final_iff _).2 hf), fun hf hst => tabKitchenVoid_open ht hl (notFinal hf) hst,
      fun hf hst => tabKitchenVoid_splitting ht hl (notFinal hf) hst, fun hf sp hsp => ⟨fun hst => ?_, fun hst hnone => ?_⟩,
      fun hsp hst => tabKitchenVoid_no_split ht hl hsp hst⟩
    · have hentries : ∀ {sharers : List Nat} {f : Nat → Refund},
          (shareNumbers sp.count).filter (fun n => (l.sharers.map (·.contains n)).getD true) = sharers →
          (∀ n, (⟨l.number, n, refundAmount (s.cfg.rates.get l.tax) (sp.alloc l.number n), ((sp.share n).bind (·.settlement)).isSome,
            (((sp.share n).bind (·.settlement)).map (·.tender)).getD .none,
            (((sp.share n).bind (·.settlement)).map (·.station)).getD 0⟩ : Refund) = f n) →
          refundEntries s.cfg.rates sp l = sharers.map f := fun hs hf => hs ▸ List.map_congr_left fun n _ => hf n
      rw [tabKitchenVoid_refunds ht hl (notFinal hf) hsp hst]
      unfold refundLine
      rw [hentries (List.filter_congr fun n _ => ?_) fun n => ?_]
      · rfl
      · cases l.sharers <;> rfl
      · cases (sp.share n).bind (·.settlement) <;> rfl
    · rw [tabKitchenVoid_withdraws ht hl (notFinal hf) hsp hst hnone, automaticWithdraw_eq ht]
      obtain ⟨-, -, hcfg⟩ := tellClaimants_fields tab sp s
      unfold setLineState
      rw [modTab_cfg, hcfg]
      rfl
  · obtain ⟨x, rfl, hx, hrefusal⟩ := lineVoidRefusal_of_refused hr
    rw [exec_lineVoid_home h, homeLineVoid_refused _ hrefusal]
    have hresult : (Reply.bare x).result ≠ .OK := hx
    simp only [if_neg hresult]
    rfl
  · obtain ⟨x, rfl, -, hrefusal⟩ := lineVoidRefusal_of_refused hr
    rw [exec_lineVoidFrame h hp, homeLineVoid_refused _ hrefusal, ← kind_of_requestReady h]
    rfl
  · rcases hr with ⟨hn, rfl⟩ | ⟨t, ht, ⟨hst, rfl⟩ | ⟨hst, rfl⟩ | ⟨hst, sp, hsp, ⟨hs, rfl⟩ | ⟨hs, hc, rfl⟩⟩⟩
    · exact exec_tabVoid_none h hn
    · exact exec_tabVoid_refused h ht (by simp only [tabVoidRefusal, hst])
    · exact exec_tabVoid_refused h ht (by simp only [tabVoidRefusal, hst])
    · exact exec_tabVoid_refused h ht (by simp only [tabVoidRefusal, hst, hsp, (anyIn_iff _ _).2 hs, if_true])
    · refine exec_tabVoid_refused h ht ?_
      simp only [tabVoidRefusal, hst, hsp, (anyIn_eq_false_iff _ _).2 hs, (anyIn_iff _ _).2 hc, if_true]
      rfl

/-! ## The line's ticket -/

section
variable {s : State} {tab line : Nat} {t : Tab} {l : Line}

theorem foldl_addNew {more : List Nat} (h : more.Nodup) (l : List Nat) :
    more.foldl (fun l n => addNew n l) l = l ++ more.filter fun n => !l.contains n := by
  induction more generalizing l with
  | nil => simp
  | cons n more ih =>
    obtain ⟨hn, hmore⟩ := List.nodup_cons.1 h
    rw [List.foldl_cons, ih hmore]
    unfold addNew
    by_cases hmem : l.contains n = true
    · rw [if_pos hmem, List.filter_cons_of_neg (by rw [hmem]; decide)]
    · rw [if_neg hmem, List.filter_cons_of_pos (by rw [Bool.not_eq_true] at hmem; rw [hmem]; rfl), List.append_assoc]
      have hsame : more.filter (fun m => !(l ++ [n]).contains m) = more.filter fun m => !l.contains m :=
        List.filter_congr fun m hm => by
          have hne : m ≠ n := fun he => hn (he ▸ hm)
          simp [hne]
      rw [hsame]
      rfl

/-- The entry a request may join: unsent, for the same kitchen and ticket, on a till's behalf. -/
def VoidEntry.joinable (e x : VoidEntry) : Bool := x.kitchen == e.kitchen && x.ticket == e.ticket && x.purpose == .till

theorem joinable_iff (e x : VoidEntry) : e.joinable x = true ↔ x.kitchen = e.kitchen ∧ x.ticket = e.ticket ∧ x.purpose = .till := by
  simp [VoidEntry.joinable, and_assoc]

variable {e : VoidEntry}

theorem requestVoid_own (h : e.kitchen = own s) :
    requestVoid ownVoid e s =
      voidEnd e (kitchenTicketVoid ownReport (own s) e.ticket e.lines s).1 (kitchenTicketVoid ownReport (own s) e.ticket e.lines s).2 := by
  unfold requestVoid
  rw [if_pos h]
  rfl

theorem requestVoid_joins (h : e.kitchen ≠ own s) (hp : e.purpose = .till) (hany : s.router.voids.any e.joinable = true) :
    requestVoid ownVoid e s =
      { s with
        router :=
          { s.router with
            voids := mapIf e.joinable (fun x => { x with lines := e.lines.foldl (fun l n => addNew n l) x.lines }) s.router.voids } } := by
  unfold requestVoid
  rw [if_neg h]
  exact if_pos ⟨hp, hany⟩

theorem requestVoid_queues (h : e.kitchen ≠ own s) (hp : ¬(e.purpose = .till ∧ s.router.voids.any e.joinable = true)) :
    requestVoid ownVoid e s =
      if 16 ≤ s.router.voids.length then voidEnd e (.failed Result.BUSY.code) s
      else { s with router := { s.router with voids := s.router.voids ++ [e] } } := by
  unfold requestVoid
  rw [if_neg h]
  exact if_neg hp

theorem mapIf_one {α : Type} {p : α → Bool} (f : α → α) {before after : List α} {x : α} (hx : p x = true)
    (h : ∀ y ∈ before ++ after, p y = false) : mapIf p f (before ++ x :: after) = before ++ f x :: after := by
  have hb : mapIf p f before = before := mapIf_none p f before fun y hy => h y (List.mem_append_left _ hy)
  have ha : mapIf p f after = after := mapIf_none p f after fun y hy => h y (List.mem_append_right _ hy)
  unfold mapIf at hb ha ⊢
  rw [List.map_append, List.map_cons, hb, ha, if_pos hx]

/-! ## When a record goes -/

theorem isOffered_iff (k : Ticket) : k.isOffered = true ↔ ∃ kitchen, k.state = .offered kitchen := by
  unfold Ticket.isOffered
  split
  · rename_i kitchen h
    exact ⟨fun _ => ⟨kitchen, h⟩, fun _ => rfl⟩
  · rename_i h
    exact ⟨(fun h => nomatch h), fun ⟨kitchen, hk⟩ => absurd hk (h kitchen)⟩

theorem lineEnded_eq_false_iff (s : State) (tab line : Nat) :
    lineEnded s tab line = false ↔ ∃ st, lineState s tab line = some st ∧ st.ended = false := by
  unfold lineEnded
  cases lineState s tab line <;> simp

/-- A record waits while it is offered or a listed line has not ended. -/
def Ticket.waits (s : State) (k : Ticket) : Prop :=
  (∃ kitchen, k.state = .offered kitchen) ∨ ∃ m ∈ k.lines, ∃ st, lineState s k.tab m = some st ∧ st.ended = false

theorem waits_iff (s : State) (k : Ticket) : k.waits s ↔ (!k.isOffered && k.lines.all (lineEnded s k.tab)) = false := by
  rw [Bool.and_eq_false_iff, Bool.not_eq_false', isOffered_iff, List.all_eq_false]
  simp only [Bool.not_eq_true, lineEnded_eq_false_iff, Ticket.waits]

theorem pruneTicket_none {n : Nat} (h : findTicket s n = none) : pruneTicket n s = s := by
  unfold pruneTicket
  rw [h]

theorem pruneTicket_waits {n : Nat} {k : Ticket} (h : findTicket s n = some k) (hw : k.waits s) : pruneTicket n s = s := by
  unfold pruneTicket
  rw [h]
  dsimp only
  rw [(waits_iff s k).1 hw]
  rfl

theorem pruneTicket_drops {n : Nat} {k : Ticket} (h : findTicket s n = some k) (hw : ¬k.waits s) : pruneTicket n s = dropTicket n s := by
  rw [waits_iff, Bool.not_eq_false] at hw
  unfold pruneTicket
  rw [h]
  exact if_pos hw

/-! ## A till's void -/

theorem bind_line (ht : findTab s tab = some t) (hl : t.line line = some l) : (findTab s tab).bind (·.line line) = some l := by
  rw [ht]
  exact hl

variable (ht : findTab s tab = some t) (hl : t.line line = some l)
include ht hl

theorem voidLine_no_ticket (hf : l.state.final = false) (hk : l.ticket.bind (findTicket s) = none) : voidLine tab line s = setLineState tab line .void s := by
  simp only [voidLine, bind_line ht hl, hf, hk]
  rfl

theorem voidLine_done (hf : l.state.final = false)
    (hst : l.state = .new ∨ l.state = .handed ∨ l.state = .lost ∨ l.state = .collected ∨ l.state = .uncollected) :
    voidLine tab line s = setLineState tab line .void s := by
  cases hk : l.ticket.bind (findTicket s) with
  | none => exact voidLine_no_ticket ht hl hf hk
  | some k =>
    rcases hst with hst | hst | hst | hst | hst <;>
    · simp only [voidLine, bind_line ht hl, hst, hk]
      rfl

variable {k : Ticket} (hk : l.ticket.bind (findTicket s) = some k)
include hk

theorem voidLine_offered (hst : l.state = .pending) (ho : k.isOffered = true) :
    voidLine tab line s = setLineState tab line .void s := by
  obtain ⟨kitchen, hoff⟩ := (isOffered_iff k).1 ho
  simp only [voidLine, bind_line ht hl, hst, hk, hoff]
  rfl

theorem voidLine_waiting (hst : (l.state = .pending ∧ k.isOffered = false) ∨ l.state = .unrouted) :
    voidLine tab line s =
      pruneTicket k.number
        (modTicket k.number (fun r => { r with lines := r.lines.filter (· != line) }) (setLineState tab line .void s)) := by
  rcases hst with ⟨hst, ho⟩ | hst
  · cases hks : k.state with
    | offered kitchen => exact absurd ((isOffered_iff k).2 ⟨kitchen, hks⟩) (by rw [ho]; decide)
    | pending | placed _ _ | unrouted =>
      simp only [voidLine, bind_line ht hl, hst, hk, hks]
      rfl
  · simp only [voidLine, bind_line ht hl, hst, hk]
    rfl

theorem voidLine_placed {place : Nat} {ks : KState} (hst : l.state = .queued ∨ l.state = .fired) (hks : k.state = .placed place ks) :
    voidLine tab line s =
      pruneTicket k.number (requestVoid ownVoid ⟨place, k.number, k.tab, [line], .till⟩ (setLineState tab line .void s)) := by
  rcases hst with hst | hst <;>
  · simp only [voidLine, bind_line ht hl, hst, hk, hks]
    rfl

theorem voidLine_ready (hst : l.state = .ready) :
    voidLine tab line s = pruneTicket k.number (setLineState tab line .void s) := by
  simp only [voidLine, bind_line ht hl, hst, hk]
  rfl

end

/-- Settles O24: a request by its kitchen and the queue, a record by its lines, a void by the line's state. -/
theorem voidDealsWithTheTicket : Obligations.VoidDealsWithTheTicket := by
  unfold Obligations.VoidDealsWithTheTicket
  refine ⟨fun e s => ?_, fun n s => ⟨pruneTicket_none, fun k hk => ⟨pruneTicket_waits hk, pruneTicket_drops hk⟩⟩,
    fun tab line t l s ht hl hf => ⟨voidLine_no_ticket ht hl hf, voidLine_done ht hl hf, fun k hk =>
      ⟨voidLine_offered ht hl hk, voidLine_waiting ht hl hk, fun place ks => voidLine_placed ht hl hk,
        voidLine_ready ht hl hk⟩⟩⟩
  intro same queue kitchen
  refine ⟨requestVoid_own, fun hne hp hnd before x after hv hx hothers => ?_, fun hne hnone => ?_⟩
  · have hjoin : ∀ y ∈ before ++ after, e.joinable y = false := fun y hy => Bool.eq_false_iff.2 fun h => hothers y hy ((joinable_iff e y).1 h)
    have hany : s.router.voids.any e.joinable = true := by
      rw [hv, List.any_append, List.any_cons, (joinable_iff e x).2 hx, Bool.true_or, Bool.or_true]
    rw [requestVoid_joins hne hp hany, hv, mapIf_one _ ((joinable_iff e x).2 hx) hjoin, foldl_addNew hnd]
  · have hnot : ¬(e.purpose = .till ∧ s.router.voids.any e.joinable = true) := by
      rintro ⟨hp, hany⟩
      obtain ⟨y, hy, hj⟩ := List.any_eq_true.1 hany
      rcases hnone with hp' | hnone
      · rw [hp] at hp'
        exact nomatch hp'
      · exact hnone y hy ((joinable_iff e y).1 hj)
    rw [requestVoid_queues hne hnot]
    exact ⟨fun h => if_neg (Nat.not_le.2 h), fun h => if_pos h⟩

end Sys2Proof.Machine
end

section
/-! Splitting a tab: the request's tests, Withdraw, and the completion (R23 to R35). -/

namespace Sys2Proof.Machine

section
variable {s : State} {tab count : Nat} {entries : List SplitEntry} {t : Tab}

/-! ## The entries of an assignment list -/

/-- An entry that names no charged line, or one named before it. -/
def BadLine (t : Tab) (before : List SplitEntry) (e : SplitEntry) : Prop :=
  (∀ l, t.line e.line = some l → l.state.charged = false) ∨ ∃ x ∈ before, x.line = e.line

/-- An entry without a sharer, or with one beyond the share count. -/
def BadShare (count : Nat) (e : SplitEntry) : Prop := membersOf 1 e.sharers = [] ∨ ∃ n ∈ membersOf 1 e.sharers, count < n

/-- Every entry of the list is good, behind the entries before it. -/
def EntriesSound (t : Tab) (count : Nat) (earlier list : List SplitEntry) : Prop :=
  ∀ before e after, list = before ++ e :: after → ¬BadLine t (earlier ++ before) e ∧ ¬BadShare count e

variable {before earlier after : List SplitEntry} {e : SplitEntry}

theorem badLine_iff : BadLine t before e ↔
    (!((t.line e.line).map fun l => l.state.charged).getD false || before.any (·.line == e.line)) = true := by
  rw [Bool.or_eq_true, Bool.not_eq_true', List.any_eq_true]
  refine or_congr ?_ (by simp)
  cases t.line e.line <;> simp

theorem badShare_iff : BadShare count e ↔ ((membersOf 1 e.sharers).isEmpty || (membersOf 1 e.sharers).any (count < ·)) = true := by
  simp [BadShare]

theorem entryRefusal_line (h : BadLine t before e) : entryRefusal t count before e = some .BAD_LINE := if_pos (badLine_iff.1 h)

theorem entryRefusal_share (hl : ¬BadLine t before e) (hs : BadShare count e) : entryRefusal t count before e = some .BAD_SHARE :=
  (if_neg (mt badLine_iff.2 hl)).trans (if_pos (badShare_iff.1 hs))

theorem entryRefusal_good (hl : ¬BadLine t before e) (hs : ¬BadShare count e) : entryRefusal t count before e = none :=
  (if_neg (mt badLine_iff.2 hl)).trans (if_neg (mt badShare_iff.2 hs))

theorem EntriesSound.head (h : EntriesSound t count earlier (e :: after)) : entryRefusal t count earlier e = none := by
  obtain ⟨hl, hs⟩ := h [] e after rfl
  rw [List.append_nil] at hl
  exact entryRefusal_good hl hs

theorem EntriesSound.tail (h : EntriesSound t count earlier (e :: after)) : EntriesSound t count (earlier ++ [e]) after := by
  rintro b x a rfl
  have hx := h (e :: b) x a rfl
  rwa [List.append_cons] at hx

theorem entriesRefusal_sound {list : List SplitEntry} (h : EntriesSound t count earlier list) :
    entriesRefusal t count earlier list = none := by
  induction list generalizing earlier with
  | nil => rfl
  | cons e rest ih =>
    unfold entriesRefusal
    rw [h.head]
    exact ih h.tail

theorem entriesRefusal_first {r : Result} (h : EntriesSound t count earlier before)
    (he : entryRefusal t count (earlier ++ before) e = some r) :
    entriesRefusal t count earlier (before ++ e :: after) = some ⟨r, e1 ((earlier ++ before).length + 1)⟩ := by
  induction before generalizing earlier with
  | nil =>
    rw [List.append_nil] at he ⊢
    rw [List.nil_append]
    unfold entriesRefusal
    rw [he]
  | cons x before ih =>
    rw [List.append_cons] at he
    rw [List.append_cons earlier x before]
    rw [List.cons_append]
    unfold entriesRefusal
    rw [h.head]
    exact ih h.tail he

theorem entriesSound_of_distinct (hn : (entries.map (·.line)).Nodup)
    (h : ∀ e ∈ entries, (∃ l, t.line e.line = some l ∧ l.state.charged = true) ∧ membersOf 1 e.sharers ≠ [] ∧
      ∀ n ∈ membersOf 1 e.sharers, n ≤ count) : EntriesSound t count [] entries := by
  rintro before e after rfl
  obtain ⟨⟨l, hl, hc⟩, hne, hle⟩ := h e (List.mem_append_right _ List.mem_cons_self)
  refine ⟨?_, ?_⟩
  · rintro (hno | ⟨x, hx, hline⟩)
    · rw [hno l hl] at hc
      exact nomatch hc
    · rw [List.map_append, List.map_cons, List.nodup_append] at hn
      obtain ⟨-, -, hdisjoint⟩ := hn
      exact hdisjoint _ (List.mem_map_of_mem hx) _ List.mem_cons_self hline
  · rintro (hnil | ⟨n, hmem, hgt⟩)
    · exact hne hnil
    · exact absurd (hle n hmem) (Nat.not_le.2 hgt)

/-! ## Split -/

theorem chargedLines_isEmpty_iff : (chargedLines t).isEmpty = true ↔ ∀ l ∈ t.lines, l.state.charged = false := by
  simp [chargedLines]

theorem splitRefusal_entries (ht : findTab s tab = some t) (hst : t.state = .open)
    (hrange : 1 ≤ count ∧ count ≤ 8 ∧ entries.length ≤ 48) (hcharged : ∃ l ∈ t.lines, l.state.charged = true) {r : Reply}
    (hr : entriesRefusal t count [] entries = some r) : splitRefusal s tab count entries = some r := by
  have hout : ¬(count < 1 ∨ 8 < count ∨ 48 < entries.length) := by omega
  have hne : ¬(chargedLines t).isEmpty = true := by
    rw [chargedLines_isEmpty_iff]
    obtain ⟨l, hl, hc⟩ := hcharged
    exact fun h => absurd (h l hl) (by rw [hc]; decide)
  simp only [splitRefusal, ht, hst, openOnly, if_neg hout, if_neg hne, hr]

theorem splitRefusal_sound (ht : findTab s tab = some t) (hst : t.state = .open)
    (hrange : 1 ≤ count ∧ count ≤ 8 ∧ entries.length ≤ 48) (hcharged : ∃ l ∈ t.lines, l.state.charged = true)
    (hs : EntriesSound t count [] entries) :
    splitRefusal s tab count entries = if s.engine.isSome = true then some (.bare .BUSY) else none := by
  have hout : ¬(count < 1 ∨ 8 < count ∨ 48 < entries.length) := by omega
  have hne : ¬(chargedLines t).isEmpty = true := by
    rw [chargedLines_isEmpty_iff]
    obtain ⟨l, hl, hc⟩ := hcharged
    exact fun h => absurd (h l hl) (by rw [hc]; decide)
  simp only [splitRefusal, ht, hst, openOnly, if_neg hout, if_neg hne, entriesRefusal_sound hs]

/-- The first test of R24 that a Split fails. -/
def SplitRefused (tab count : Nat) (entries : List SplitEntry) (s : State) (r : Reply) : Prop :=
  (findTab s tab = none ∧ r = .bare .NO_TAB) ∨
  ∃ t, findTab s tab = some t ∧
    ((t.state = .splitting ∧ r = .bare .BUSY) ∨ (t.state = .split ∧ r = .bare .TAB_SPLIT) ∨
      (t.state = .closed ∧ r = .bare .TAB_CLOSED) ∨
      (t.state = .open ∧ ¬(1 ≤ count ∧ count ≤ 8 ∧ entries.length ≤ 48) ∧ r = .bare .BAD_PARAM) ∨
      (t.state = .open ∧ (1 ≤ count ∧ count ≤ 8 ∧ entries.length ≤ 48) ∧ (∀ l ∈ t.lines, l.state.charged = false) ∧
        r = .bare .NO_LINES) ∨
      (t.state = .open ∧ (1 ≤ count ∧ count ≤ 8 ∧ entries.length ≤ 48) ∧ (∃ l ∈ t.lines, l.state.charged = true) ∧
        ((∃ before e after, entries = before ++ e :: after ∧ EntriesSound t count [] before ∧
            ((BadLine t before e ∧ r = ⟨.BAD_LINE, e1 (before.length + 1)⟩) ∨
              (¬BadLine t before e ∧ BadShare count e ∧ r = ⟨.BAD_SHARE, e1 (before.length + 1)⟩))) ∨
          (EntriesSound t count [] entries ∧ s.engine.isSome = true ∧ r = .bare .BUSY))))

theorem splitRefusal_of_refused {r : Reply} (h : SplitRefused tab count entries s r) : splitRefusal s tab count entries = some r := by
  rcases h with ⟨hn, rfl⟩ | ⟨t, ht, ⟨hst, rfl⟩ | ⟨hst, rfl⟩ | ⟨hst, rfl⟩ | ⟨hst, hr, rfl⟩ | ⟨hst, hr, hc, rfl⟩ | ⟨hst, hr, hc, h⟩⟩
  · simp only [splitRefusal, hn]
  · simp only [splitRefusal, ht, hst, openOnly]
  · simp only [splitRefusal, ht, hst, openOnly]
  · simp only [splitRefusal, ht, hst, openOnly]
  · have hout : count < 1 ∨ 8 < count ∨ 48 < entries.length := by omega
    simp only [splitRefusal, ht, hst, openOnly, if_pos hout]
  · have hout : ¬(count < 1 ∨ 8 < count ∨ 48 < entries.length) := by omega
    simp only [splitRefusal, ht, hst, openOnly, if_neg hout, if_pos (chargedLines_isEmpty_iff.2 hc)]
  · rcases h with ⟨before, e, after, rfl, hs, ⟨hb, rfl⟩ | ⟨hl, hb, rfl⟩⟩ | ⟨hs, he, rfl⟩
    · exact splitRefusal_entries ht hst hr hc (entriesRefusal_first hs (entryRefusal_line hb))
    · exact splitRefusal_entries ht hst hr hc (entriesRefusal_first hs (entryRefusal_share hl hb))
    · rw [splitRefusal_sound ht hst hr hc hs, if_pos he]

theorem exec_split_home_refused {r : Reply} (h : jobReady (.split (own s) tab count entries) .till s = true)
    (hr : splitRefusal s tab count entries = some r) :
    exec (.split (own s) tab count entries) s = .next (afterCommand (.split (own s) tab count entries) s r s) := by
  refine (carryOut_job _ h).trans ?_
  simp only [if_true, hr]

theorem exec_split_home_starts (h : jobReady (.split (own s) tab count entries) .till s = true)
    (hr : splitRefusal s tab count entries = none) :
    exec (.split (own s) tab count entries) s =
      .next (afterCommand (.split (own s) tab count entries) s (.bare .STARTED) (startSplit tab .local count entries s)) := by
  refine (carryOut_job _ h).trans ?_
  simp only [if_true, hr]

/-- What the home makes of a SPLIT frame. -/
def splitBlock (f : Frame) (a : SplitFields) (ans : Answering) (s : State) : State :=
  match splitRefusal s a.tab a.count a.entries with
  | some r => ans r s
  | none => startSplit a.tab (.remote f.source f.tag) a.count a.entries s

theorem exec_splitFrame {f : Frame} {rest : List Frame} (h : requestReady Kind.split .till f rest s = true)
    (hp : rSplit.exact f.payload = some ⟨tab, count, entries⟩) :
    exec .splitFrame s =
      .next (afterFrame s (splitBlock f ⟨tab, count, entries⟩ (fun y u => sendAnswer f.source f.kind f.tag tab 0 y u) (popped rest s))) := by
  have served := request_runs rSplit (fun a => a.tab) (fun _ => 0) splitBlock h hp
  exact served

theorem splitBlock_refused {f : Frame} {a : SplitFields} {ans : Answering} {r : Reply} (hr : splitRefusal s a.tab a.count a.entries = some r) :
    splitBlock f a ans s = ans r s := by
  unfold splitBlock
  rw [hr]

theorem splitBlock_starts {f : Frame} {a : SplitFields} {ans : Answering} (hr : splitRefusal s a.tab a.count a.entries = none) :
    splitBlock f a ans s = startSplit a.tab (.remote f.source f.tag) a.count a.entries s := by
  unfold splitBlock
  rw [hr]

theorem startSplit_eq (ht : findTab s tab = some t) (q : Requester) :
    startSplit tab q count entries s =
      modTab tab (fun u => { u with state := .splitting }) { s with engine := some (engineJob t q count entries) } := by
  unfold startSplit
  rw [ht]

/-! ## Withdraw -/

theorem withdrawRefusal_available {sp : SplitRec} (ht : findTab s tab = some t) (hst : t.state = .split) (hsp : t.split = some sp)
    (hall : ∀ sh ∈ sp.shares, sh.state = .available) : withdrawRefusal s tab = none := by
  have hs : sp.anyIn .settled = false := (anyIn_eq_false_iff _ _).2 fun sh hsh => by rw [hall sh hsh]; decide
  have hc : sp.anyIn .claimed = false := (anyIn_eq_false_iff _ _).2 fun sh hsh => by rw [hall sh hsh]; decide
  simp only [withdrawRefusal, ht, hst, hsp, hs, hc]
  rfl

/-- The first test of R34 that a Withdraw fails. -/
def WithdrawRefused (tab : Nat) (s : State) (r : Reply) : Prop :=
  (findTab s tab = none ∧ r = .bare .NO_TAB) ∨
  ∃ t, findTab s tab = some t ∧
    ((t.state = .open ∧ r = .bare .STATE) ∨ (t.state = .splitting ∧ r = .bare .BUSY) ∨ (t.state = .closed ∧ r = .bare .TAB_CLOSED) ∨
      (t.state = .split ∧ ∃ sp, t.split = some sp ∧
        (((∃ sh ∈ sp.shares, sh.state = .settled) ∧ r = .bare .SETTLED) ∨
          ((∀ sh ∈ sp.shares, sh.state ≠ .settled) ∧ (∃ sh ∈ sp.shares, sh.state = .claimed) ∧ r = .bare .CLAIMED))))

theorem withdrawRefusal_of_refused {r : Reply} (h : WithdrawRefused tab s r) :
    ∃ x, r = .bare x ∧ x ≠ .OK ∧ withdrawRefusal s tab = some x := by
  rcases h with ⟨hn, rfl⟩ | ⟨t, ht, ⟨hst, rfl⟩ | ⟨hst, rfl⟩ | ⟨hst, rfl⟩ | ⟨hst, sp, hsp, ⟨hs, rfl⟩ | ⟨hs, hc, rfl⟩⟩⟩
  · exact ⟨_, rfl, by decide, by simp only [withdrawRefusal, hn]⟩
  · exact ⟨_, rfl, by decide, by simp only [withdrawRefusal, ht, hst]⟩
  · exact ⟨_, rfl, by decide, by simp only [withdrawRefusal, ht, hst]⟩
  · exact ⟨_, rfl, by decide, by simp only [withdrawRefusal, ht, hst]⟩
  · exact ⟨_, rfl, by decide, by simp only [withdrawRefusal, ht, hst, hsp, (anyIn_iff _ _).2 hs, if_true]⟩
  · refine ⟨_, rfl, by decide, ?_⟩
    simp only [withdrawRefusal, ht, hst, hsp, (anyIn_eq_false_iff _ _).2 hs, (anyIn_iff _ _).2 hc, if_true]
    rfl

theorem homeWithdraw_refused {x : Result} (h : withdrawRefusal s tab = some x) : homeWithdraw tab s = (.bare x, s) := by
  unfold homeWithdraw
  rw [h]
  rfl

theorem homeWithdraw_reopens (h : withdrawRefusal s tab = none) : homeWithdraw tab s = (.bare .OK, modTab tab Tab.withdrawSplit s) := by
  unfold homeWithdraw
  rw [h]

theorem exec_withdraw_home (h : jobReady (.withdraw (own s) tab) .till s = true) :
    exec (.withdraw (own s) tab) s =
      .next (afterCommand (.withdraw (own s) tab) s
        (if (homeWithdraw tab s).1.result = .OK then ⟨.OK, e2 tab⟩ else (homeWithdraw tab s).1) (homeWithdraw tab s).2) := by
  refine (carryOut_job _ h).trans ?_
  simp only [if_true]

theorem exec_withdrawFrame {f : Frame} {rest : List Frame} (h : requestReady Kind.withdraw .till f rest s = true)
    (hp : Reader.n2.exact f.payload = some tab) :
    exec .withdrawFrame s =
      .next (afterRequest s f tab 0 (homeWithdraw tab (popped rest s)).1 (homeWithdraw tab (popped rest s)).2) := by
  have served := request_answering (r := Reader.n2) (subject := id) (share := fun _ => 0) (b := fun _ tab => homeWithdraw tab) h hp
  exact served

end

/-- Settles O27: Split's and Withdraw's tests in order, and what each leaves where none fails. -/
theorem splitAndWithdraw : Obligations.SplitAndWithdraw := by
  unfold Obligations.SplitAndWithdraw
  refine ⟨fun tab count entries t => ?_, fun tab t sp => ?_, fun tab count entries => ?_, fun tab => ?_⟩
  · have accepted : ∀ {s : State}, findTab s tab = some t → t.state = .open → 1 ≤ count → count ≤ 8 → entries.length ≤ 48 →
        s.engine = none → (∃ l ∈ t.lines, l.state.charged = true) → EntriesSound t count [] entries →
        splitRefusal s tab count entries = none := fun ht hst h1 h8 h48 hidle hc hs => by
      rw [splitRefusal_sound ht hst ⟨h1, h8, h48⟩ hc hs, hidle]
      rfl
    refine ⟨fun s h ⟨ht, hst, h1, h8, h48, hidle, hc, hn, hall⟩ => ?_, fun f rest s h hp ⟨ht, hst, h1, h8, h48, hidle, hc, hn, hall⟩ => ?_⟩
    · rw [exec_split_home_starts h (accepted ht hst h1 h8 h48 hidle hc (entriesSound_of_distinct hn hall)), startSplit_eq ht]
      rfl
    · rw [exec_splitFrame h hp,
        splitBlock_starts (accepted (s := popped rest s) ht hst h1 h8 h48 hidle hc (entriesSound_of_distinct hn hall)),
        startSplit_eq (s := popped rest s) ht]
      rfl
  · refine ⟨fun s h ⟨ht, hst, hsp, hall⟩ => ?_, fun f rest s h hp ⟨ht, hst, hsp, hall⟩ => ?_⟩
    · rw [exec_withdraw_home h, homeWithdraw_reopens (withdrawRefusal_available ht hst hsp hall)]
      rfl
    · rw [exec_withdrawFrame h hp, homeWithdraw_reopens (withdrawRefusal_available (s := popped rest s) ht hst hsp hall)]
      rfl
  · refine ⟨fun r s h hr => exec_split_home_refused h (splitRefusal_of_refused hr), fun f rest r s h hp hr => ?_⟩
    have hrefusal := splitRefusal_of_refused (tab := tab) (count := count) (entries := entries) hr
    rw [exec_splitFrame h hp, splitBlock_refused hrefusal]
    rfl
  · refine ⟨fun r s h hr => ?_, fun f rest r s h hp hr => ?_⟩
    · obtain ⟨x, rfl, hx, hrefusal⟩ := withdrawRefusal_of_refused hr
      have hresult : (Reply.bare x).result ≠ .OK := hx
      rw [exec_withdraw_home h, homeWithdraw_refused hrefusal]
      simp only [if_neg hresult]
    · obtain ⟨x, rfl, -, hrefusal⟩ := withdrawRefusal_of_refused hr
      rw [exec_withdrawFrame h hp, homeWithdraw_refused hrefusal]

/-! ## The completion -/

section
variable {s : State} {j : EngineJob}

theorem allSettled_iff (sp : SplitRec) : sp.allSettled = true ↔ ∀ sh ∈ sp.shares, sh.state = .settled := by simp [SplitRec.allSettled]

theorem completeSplit_eq (h : s.engine = some j) :
    completeSplit s = if j.stale = true then redo j { s with engine := none } else strike j { s with engine := none } := by
  unfold completeSplit
  rw [h]

/-- The tab as the strike leaves it. -/
def struckState (j : EngineJob) (s : State) : State := modTab j.tab (·.strike (own s) s.cfg.rates j) s

theorem strike_zero_local (hz : (struckSplit (own s) s.cfg.rates j).allSettled = true) (hq : j.requester = .local) :
    strike j s =
      post (.splitStruck j.tab (struckSplit (own s) s.cfg.rates j).count (struckSplit (own s) s.cfg.rates j).total
        ((struckSplit (own s) s.cfg.rates j).shares.map fun sh => (sh.amount, sh.state == .settled)) .closed)
        (closeTab j.tab .paid (struckState j s)) := by
  unfold strike
  simp only [hz, hq, if_true]
  rfl

theorem strike_split_local (hz : (struckSplit (own s) s.cfg.rates j).allSettled = false) (hq : j.requester = .local) :
    strike j s =
      post (.splitStruck j.tab (struckSplit (own s) s.cfg.rates j).count (struckSplit (own s) s.cfg.rates j).total
        ((struckSplit (own s) s.cfg.rates j).shares.map fun sh => (sh.amount, sh.state == .settled)) .split) (struckState j s) := by
  unfold strike
  simp only [hz, hq]
  rfl

theorem strike_zero_remote {k tag : Nat} (hz : (struckSplit (own s) s.cfg.rates j).allSettled = true) (hq : j.requester = .remote k tag) :
    strike j s =
      answerSplit k tag j.tab ⟨.OK, strikeData (struckSplit (own s) s.cfg.rates j) .closed⟩ (closeTab j.tab .paid (struckState j s)) := by
  unfold strike
  simp only [hz, hq, if_true]
  rfl

theorem strike_split_remote {k tag : Nat} (hz : (struckSplit (own s) s.cfg.rates j).allSettled = false) (hq : j.requester = .remote k tag) :
    strike j s = answerSplit k tag j.tab ⟨.OK, strikeData (struckSplit (own s) s.cfg.rates j) .split⟩ (struckState j s) := by
  unfold strike
  simp only [hz, hq]
  rfl

theorem redo_local (hq : j.requester = .local) : redo j s = post (.splitRedo (own s) j.tab) (modTab j.tab Tab.withdrawSplit s) := by
  unfold redo
  rw [hq]

theorem redo_remote {k tag : Nat} (hq : j.requester = .remote k tag) :
    redo j s = answerSplit k tag j.tab (.bare .REDO) (modTab j.tab Tab.withdrawSplit s) := by
  unfold redo
  rw [hq]

theorem answerSplit_sends {k tag tab : Nat} (r : Reply) (h : s.station.state ≠ .duplicate) :
    answerSplit k tag tab r s = sendAnswer k Kind.split tag tab 0 r s := if_neg h

theorem answerSplit_silent {k tag tab : Nat} (r : Reply) (h : s.station.state = .duplicate) : answerSplit k tag tab r s = s := if_pos h

theorem closeTab_state (tab : Nat) (o : TabOutcome) (s : State) : (closeTab tab o s).station = s.station := rfl

theorem exec_splitCompletion (hr : s.station.inReset = false) (h : s.engine = some j) :
    exec .splitCompletion s =
      .next (afterEvent s (if j.stale = true then redo j { s with engine := none } else strike j { s with engine := none })) := by
  rw [← completeSplit_eq h]
  exact event_runs completeSplit hr

end

/-- Settles O28: the strike or the redo, by the stale flag, and what the requester is told. -/
theorem splitCompletionStrikes : Obligations.SplitCompletionStrikes := by
  unfold Obligations.SplitCompletionStrikes
  intro j s hr he sp struck zero data shown closed reopened
  have hzero : zero → sp.allSettled = true := (allSettled_iff sp).2
  have hsome : ¬zero → sp.allSettled = false := fun h => Bool.eq_false_iff.2 (mt (allSettled_iff sp).1 h)
  rw [exec_splitCompletion hr he]
  refine ⟨fun hs hz hq => ?_, fun hs hz hq => ?_, fun k tag hs hz hq hd => ?_, fun k tag hs hz hq hd => ?_, fun hs hq => ?_,
    fun k tag hs hq hd => ?_, fun k tag hq hd => ⟨fun hs hz => ?_, fun hs hz => ?_, fun hs => ?_⟩⟩ <;> rw [hs]
  · exact congrArg (fun u => Host.Outcome.next (afterEvent s u)) (strike_split_local (s := { s with engine := none }) (hsome hz) hq)
  · exact congrArg (fun u => Host.Outcome.next (afterEvent s u)) (strike_zero_local (s := { s with engine := none }) (hzero hz) hq)
  · exact congrArg (fun u => Host.Outcome.next (afterEvent s u))
      ((strike_split_remote (s := { s with engine := none }) (hsome hz) hq).trans (answerSplit_sends _ hd))
  · exact congrArg (fun u => Host.Outcome.next (afterEvent s u))
      ((strike_zero_remote (s := { s with engine := none }) (hzero hz) hq).trans (answerSplit_sends _ hd))
  · exact congrArg (fun u => Host.Outcome.next (afterEvent s u)) (redo_local (s := { s with engine := none }) hq)
  · exact congrArg (fun u => Host.Outcome.next (afterEvent s u))
      ((redo_remote (s := { s with engine := none }) hq).trans (answerSplit_sends _ hd))
  · exact congrArg (fun u => Host.Outcome.next (afterEvent s u))
      ((strike_split_remote (s := { s with engine := none }) (hsome hz) hq).trans (answerSplit_silent _ hd))
  · exact congrArg (fun u => Host.Outcome.next (afterEvent s u))
      ((strike_zero_remote (s := { s with engine := none }) (hzero hz) hq).trans (answerSplit_silent _ hd))
  · exact congrArg (fun u => Host.Outcome.next (afterEvent s u))
      ((redo_remote (s := { s with engine := none }) hq).trans (answerSplit_silent _ hd))

end Sys2Proof.Machine
end

section
/-! Claims and settlement at the home, and how a claim ends (R36, R38 to R43, R49, R50, R55). -/

namespace Sys2Proof.Machine

section
variable {s : State} {tab share k : Nat} {t : Tab} {sp : SplitRec} {sh : Share}

/-! ## Claim -/

theorem homeClaim_split (ht : findTab s tab = some t) (hst : t.state = .split) (hsp : t.split = some sp)
    (hsh : sp.share share = some sh) : homeClaim k tab share s = claimShare k tab sh s := by
  simp only [homeClaim, ht, hst, hsp, hsh]

/-- A granted share: its amount, and the share the claimant's with its hold timer running. -/
def granted (k tab share : Nat) (sh : Share) (s : State) : Reply × State :=
  (⟨.GRANTED, e4 sh.amount⟩, modShare tab share (Share.grant k (s.cfg.claimHold * 1000)) s)

theorem homeClaim_grants (ht : findTab s tab = some t) (hst : t.state = .split) (hsp : t.split = some sp)
    (hsh : sp.share share = some sh) (hfree : sh.state = .available ∨ (sh.state = .claimed ∧ sh.claimant = k)) :
    homeClaim k tab share s = granted k tab share sh s := by
  rw [homeClaim_split ht hst hsp hsh]
  have hnum := number_of_share hsh
  unfold claimShare granted
  rcases hfree with h | ⟨h, hk⟩
  · simp only [h, hnum]
  · simp only [h, if_pos hk, hnum]

/-- The first test of R40 that a Claim by `k` fails. -/
def ClaimRefused (tab share k : Nat) (s : State) (r : Reply) : Prop :=
  (findTab s tab = none ∧ r = .bare .NO_TAB) ∨
  ∃ t, findTab s tab = some t ∧
    ((t.state = .splitting ∧ r = .bare .BUSY) ∨ (t.state = .open ∧ r = .bare .STATE) ∨ (t.state = .closed ∧ r = .bare .TAB_CLOSED) ∨
      (t.state = .split ∧ ∃ sp, t.split = some sp ∧
        ((sp.share share = none ∧ r = .bare .BAD_SHARE) ∨
          ∃ sh, sp.share share = some sh ∧
            ((sh.state = .settled ∧ r = .bare .SETTLED) ∨
              (sh.state = .claimed ∧ sh.claimant ≠ k ∧ r = ⟨.HELD_BY, e1 sh.claimant⟩)))))

theorem homeClaim_refused {r : Reply} (h : ClaimRefused tab share k s r) :
    homeClaim k tab share s = (r, s) ∧ r.result ≠ .OK ∧ r.result ≠ .GRANTED := by
  rcases h with ⟨hn, rfl⟩ | ⟨t, ht, ⟨hst, rfl⟩ | ⟨hst, rfl⟩ | ⟨hst, rfl⟩ | ⟨hst, sp, hsp, ⟨hno, rfl⟩ | ⟨sh, hsh, h⟩⟩⟩
  · exact ⟨by simp only [homeClaim, hn, refuse], by decide, by decide⟩
  · exact ⟨by simp only [homeClaim, ht, hst, refuse], by decide, by decide⟩
  · exact ⟨by simp only [homeClaim, ht, hst, refuse], by decide, by decide⟩
  · exact ⟨by simp only [homeClaim, ht, hst, refuse], by decide, by decide⟩
  · exact ⟨by simp only [homeClaim, ht, hst, hsp, hno, refuse], by decide, by decide⟩
  · rw [homeClaim_split ht hst hsp hsh]
    rcases h with ⟨hs, rfl⟩ | ⟨hs, hne, rfl⟩
    · exact ⟨by simp only [claimShare, hs, refuse], by decide, by decide⟩
    · exact ⟨by simp only [claimShare, hs, if_neg hne], by simp, by simp⟩

theorem exec_claim_home (h : jobReady (.claim (own s) tab share) .till s = true) :
    exec (.claim (own s) tab share) s =
      .next (afterCommand (.claim (own s) tab share) s (withSubject tab share (homeClaim (own s) tab share s).1)
        (homeClaim (own s) tab share s).2) := by
  refine (carryOut_job _ h).trans ?_
  simp only [if_true]

theorem exec_claimFrame {f : Frame} {rest : List Frame} (h : requestReady Kind.claim .till f rest s = true)
    (hp : rTabByte.exact f.payload = some (tab, share)) :
    exec .claimFrame s =
      .next (afterRequest s f tab share (homeClaim f.source tab share (popped rest s)).1
        (homeClaim f.source tab share (popped rest s)).2) := by
  have served := request_answering (r := rTabByte) (subject := (·.1)) (share := (·.2)) (b := fun f a => homeClaim f.source a.1 a.2) h hp
  exact served

theorem withSubject_refused {r : Reply} (h1 : r.result ≠ .OK) (h2 : r.result ≠ .GRANTED) : withSubject tab share r = r :=
  if_neg fun h => h.elim h1 h2

/-! ## The split that Settle and Release share meet -/

theorem settleSplit_struck (ht : findTab s tab = some t) (hst : t.state = .split ∨ t.state = .closed) (hsp : t.split = some sp) :
    settleSplit s tab = .ok sp := by
  rcases hst with hst | hst <;> simp only [settleSplit, ht, hst, hsp]

theorem settleSplit_none (hn : findTab s tab = none) : settleSplit s tab = .error .NO_TAB := by simp only [settleSplit, hn]

theorem settleSplit_busy (ht : findTab s tab = some t) (hst : t.state = .splitting) : settleSplit s tab = .error .BUSY := by
  simp only [settleSplit, ht, hst]

theorem settleSplit_lost (ht : findTab s tab = some t) (hst : t.state = .open ∨ (t.state = .closed ∧ t.split = none)) :
    settleSplit s tab = .error .CLAIM_LOST := by
  rcases hst with hst | ⟨hst, hsp⟩
  · simp only [settleSplit, ht, hst]
  · simp only [settleSplit, ht, hst, hsp]

/-! ## Release share -/

theorem homeRelease_frees (ht : findTab s tab = some t) (hst : t.state = .split) (hsp : t.split = some sp)
    (hsh : sp.share share = some sh) (hc : sh.state = .claimed) (hk : sh.claimant = k) :
    homeRelease k tab share s = (.bare .OK, modShare tab share Share.free s) := by
  simp only [homeRelease, settleSplit_struck ht (.inl hst) hsp, hsh, hc, if_pos hk]

/-- The first test of R42 that a Release share by `k` fails. -/
def ReleaseRefused (tab share k : Nat) (s : State) (r : Reply) : Prop :=
  (findTab s tab = none ∧ r = .bare .NO_TAB) ∨
  ∃ t, findTab s tab = some t ∧
    ((t.state = .splitting ∧ r = .bare .BUSY) ∨
      (t.state = .open ∨ (t.state = .closed ∧ t.split = none)) ∧ r = .bare .CLAIM_LOST ∨
      ((t.state = .split ∨ t.state = .closed) ∧ ∃ sp, t.split = some sp ∧
        ((sp.share share = none ∧ r = .bare .BAD_SHARE) ∨
          ∃ sh, sp.share share = some sh ∧
            ((sh.state = .available ∧ r = .bare .CLAIM_LOST) ∨
              (sh.state = .claimed ∧ sh.claimant ≠ k ∧ r = .bare .NOT_CLAIMANT) ∨
              (sh.state = .settled ∧ r = .bare .SETTLED)))))

theorem homeRelease_refused {r : Reply} (h : ReleaseRefused tab share k s r) : homeRelease k tab share s = (r, s) := by
  rcases h with ⟨hn, rfl⟩ | ⟨t, ht, ⟨hst, rfl⟩ | ⟨hst, rfl⟩ | ⟨hst, sp, hsp, ⟨hno, rfl⟩ | ⟨sh, hsh, h⟩⟩⟩
  · simp only [homeRelease, settleSplit_none hn, refuse]
  · simp only [homeRelease, settleSplit_busy ht hst, refuse]
  · simp only [homeRelease, settleSplit_lost ht hst, refuse]
  · simp only [homeRelease, settleSplit_struck ht hst hsp, hno, refuse]
  · rcases h with ⟨hs, rfl⟩ | ⟨hs, hne, rfl⟩ | ⟨hs, rfl⟩
    · simp only [homeRelease, settleSplit_struck ht hst hsp, hsh, hs, refuse]
    · simp only [homeRelease, settleSplit_struck ht hst hsp, hsh, hs, if_neg hne, refuse]
    · simp only [homeRelease, settleSplit_struck ht hst hsp, hsh, hs, refuse]

theorem exec_releaseShare_home (h : jobReady (.releaseShare (own s) tab share) .till s = true) :
    exec (.releaseShare (own s) tab share) s =
      .next (afterCommand (.releaseShare (own s) tab share) s (homeRelease (own s) tab share s).1 (homeRelease (own s) tab share s).2) := by
  refine (carryOut_job _ h).trans ?_
  simp only [if_true]

theorem exec_releaseFrame {f : Frame} {rest : List Frame} (h : requestReady Kind.release .till f rest s = true)
    (hp : rTabByte.exact f.payload = some (tab, share)) :
    exec .releaseFrame s =
      .next (afterRequest s f tab share (homeRelease f.source tab share (popped rest s)).1
        (homeRelease f.source tab share (popped rest s)).2) := by
  have served := request_answering (r := rTabByte) (subject := (·.1)) (share := (·.2)) (b := fun f a => homeRelease f.source a.1 a.2) h hp
  exact served

end

/-- Settles O32: a claim and a release by the state of the tab and of the share. -/
theorem claimAndReleaseShare : Obligations.ClaimAndReleaseShare := by
  unfold Obligations.ClaimAndReleaseShare
  refine ⟨fun tab share t sp sh => ⟨fun s h ⟨ht, hst, hsp, hsh, hfree⟩ => ?_, fun f rest s h hp ⟨ht, hst, hsp, hsh, hfree⟩ => ?_⟩,
    fun tab share t sp sh => ⟨fun s h ⟨ht, hst, hsp, hsh, hc, hk⟩ => ?_, fun f rest s h hp ⟨ht, hst, hsp, hsh, hc, hk⟩ => ?_⟩,
    fun tab share => ⟨fun r s h hr => ?_, fun f rest r s h hp hr => ?_⟩,
    fun tab share => ⟨fun r s h hr => ?_, fun f rest r s h hp hr => ?_⟩⟩
  · rw [exec_claim_home h, homeClaim_grants ht hst hsp hsh hfree]
    rfl
  · rw [exec_claimFrame h hp, homeClaim_grants (s := popped rest s) ht hst hsp hsh hfree]
    rfl
  · rw [exec_releaseShare_home h, homeRelease_frees ht hst hsp hsh hc hk]
    rfl
  · rw [exec_releaseFrame h hp, homeRelease_frees (s := popped rest s) ht hst hsp hsh hc hk]
    rfl
  · obtain ⟨heq, h1, h2⟩ := homeClaim_refused hr
    rw [exec_claim_home h, heq, withSubject_refused h1 h2]
  · obtain ⟨heq, -, -⟩ := homeClaim_refused hr
    rw [exec_claimFrame h hp, heq]
  · rw [exec_releaseShare_home h, homeRelease_refused hr]
  · rw [exec_releaseFrame h hp, homeRelease_refused hr]

/-! ## Cash rounding -/

theorem tenderedAmount_cash (g amount : Nat) :
    tenderedAmount g .cash amount = if 2 * (amount % g) ≥ g then amount - amount % g + g else amount - amount % g := rfl

/-- Settles O33: the amount is a multiple of the increment and a remainder, which is dropped below half and filled up from there. -/
theorem cashRoundsToTheIncrement : Obligations.CashRoundsToTheIncrement := by
  unfold Obligations.CashRoundsToTheIncrement
  intro g amount hg d
  have hcash := tenderedAmount_cash g amount
  have hd : d = (tenderedAmount g .cash amount : Int) - (amount : Int) := rfl
  clear_value d
  generalize tenderedAmount g .cash amount = taken at *
  by_cases hhalf : 2 * (amount % g) ≥ g
  · rw [if_pos hhalf] at hcash
    refine ⟨?_, ?_, ?_, fun _ => hcash, fun h => absurd hhalf (Nat.not_le.2 h), ?_, rfl, rfl⟩ <;>
      rcases hg with rfl | rfl | rfl | rfl <;> omega
  · rw [if_neg hhalf] at hcash
    refine ⟨?_, ?_, ?_, fun h => absurd h hhalf, fun _ => hcash, ?_, rfl, rfl⟩ <;>
      rcases hg with rfl | rfl | rfl | rfl <;> omega

/-! ## Settlement -/

section
variable {s : State} {tab share code k : Nat} {t : Tab} {sp : SplitRec} {sh : Share} {tender : Tender}

theorem ofCode_none_iff : Tender.ofCode code = none ↔ 3 ≤ code := by
  unfold Tender.ofCode
  split <;> simp_all
  omega

theorem ofCode_some_iff : (∃ t, Tender.ofCode code = some t) ↔ code < 3 := by
  rw [← Option.isSome_iff_exists, ← Nat.not_le, ← ofCode_none_iff, Option.isSome_iff_ne_none]

theorem tender_ctorIdx (t : Tender) : t.ctorIdx = t.code := by cases t <;> rfl

theorem code_of_ofCode (h : Tender.ofCode code = some tender) : tender.code = code := by
  unfold Tender.ofCode at h
  split at h <;> cases h <;> rfl

/-- The share settled by `k`. -/
def settledState (k tab share tendered : Nat) (tender : Tender) (s : State) : State :=
  modShare tab share (Share.settle k tendered tender) s

theorem homeSettle_share (ans : Answering) (hsplit : settleSplit s tab = .ok sp) (hsh : sp.share share = some sh)
    (hcode : Tender.ofCode code = some tender) : homeSettle k tab share code ans s = settleShare k tab tender sh ans s := by
  simp only [homeSettle, hsplit, hsh, hcode]

theorem settleShare_settles (ans : Answering) (hsh : sp.share share = some sh) (hc : sh.state = .claimed) (hk : sh.claimant = k) :
    settleShare k tab tender sh ans s =
      let tendered := tenderedAmount s.cfg.rounding tender sh.amount
      let reply : Reply := ⟨.OK, settledData sh.amount tender tendered⟩
      let settled := settledState k tab share tendered tender s
      (reply, closeIfPaid tab (ans reply
        (if k = own s then countSettlement tender tendered ((tendered : Int) - (sh.amount : Int)) settled else settled))) := by
  unfold settleShare
  simp only [hc, if_pos hk, number_of_share hsh]
  rfl

/-- Once this share is settled, every share is: the others were. -/
theorem allSettled_settle (n tendered : Nat) :
    ({ sp with shares := mapIf (·.number == share) (Share.settle n tendered tender) sp.shares } : SplitRec).allSettled = true ↔
      ∀ x ∈ sp.shares, x.number = share ∨ x.state = .settled := by
  rw [allSettled_iff]
  simp only [mapIf, List.forall_mem_map]
  refine forall₂_congr fun x _ => ?_
  by_cases hx : x.number = share
  · simp [hx, Share.settle]
  · simp [hx]

theorem findTab_of_tabs {u v : State} (h : u.tabs = v.tabs) (n : Nat) : findTab u n = findTab v n := by
  unfold findTab
  rw [h]

theorem closeIfPaid_settled {u : State} {n tendered : Nat} (ht : findTab s tab = some t) (hsp : t.split = some sp)
    (hu : u.tabs = (settledState n tab share tendered tender s).tabs) :
    ((∀ x ∈ sp.shares, x.number = share ∨ x.state = .settled) → closeIfPaid tab u = closeTab tab .paid u) ∧
    (¬(∀ x ∈ sp.shares, x.number = share ∨ x.state = .settled) → closeIfPaid tab u = u) := by
  have hfind : (findTab u tab).bind (·.split) =
      some { sp with shares := mapIf (·.number == share) (Share.settle n tendered tender) sp.shares } := by
    have hmod : findTab (settledState n tab share tendered tender s) tab =
        (findTab s tab).map (·.modShare share (Share.settle n tendered tender)) := by
      refine findTab_modTab tab _ ?_ s
      exact fun _ => rfl
    rw [findTab_of_tabs hu, hmod, ht]
    change t.split.map _ = _
    rw [hsp]
    rfl
  unfold closeIfPaid
  rw [hfind]
  exact ⟨fun h => if_pos ((allSettled_settle n tendered).2 h), fun h => if_neg (mt (allSettled_settle n tendered).1 h)⟩

/-- The first test of R41 that a Settle by `k` fails. -/
def SettleRefused (tab share code k : Nat) (s : State) (r : Reply) : Prop :=
  (findTab s tab = none ∧ r = .bare .NO_TAB) ∨
  ∃ t, findTab s tab = some t ∧
    ((t.state = .splitting ∧ r = .bare .BUSY) ∨
      (t.state = .open ∨ (t.state = .closed ∧ t.split = none)) ∧ r = .bare .CLAIM_LOST ∨
      ((t.state = .split ∨ t.state = .closed) ∧ ∃ sp, t.split = some sp ∧
        ((sp.share share = none ∧ r = .bare .BAD_SHARE) ∨
          ∃ sh, sp.share share = some sh ∧
            ((3 ≤ code ∧ r = .bare .BAD_PARAM) ∨
              (code < 3 ∧ sh.state = .available ∧ r = .bare .CLAIM_LOST) ∨
              (code < 3 ∧ sh.state = .claimed ∧ sh.claimant ≠ k ∧ r = .bare .NOT_CLAIMANT) ∨
              (code < 3 ∧ sh.state = .settled ∧ (∀ p, sh.settlement = some p → p.station ≠ k) ∧ r = .bare .SETTLED)))))

theorem settleShare_refused {r : Reply} (ans : Answering)
    (h : (sh.state = .available ∧ r = .bare .CLAIM_LOST) ∨ (sh.state = .claimed ∧ sh.claimant ≠ k ∧ r = .bare .NOT_CLAIMANT) ∨
      (sh.state = .settled ∧ (∀ p, sh.settlement = some p → p.station ≠ k) ∧ r = .bare .SETTLED)) :
    settleShare k tab tender sh ans s = (r, ans r s) := by
  rcases h with ⟨hs, rfl⟩ | ⟨hs, hne, rfl⟩ | ⟨hs, hp, rfl⟩
  · simp only [settleShare, hs, answered]
  · simp only [settleShare, hs, if_neg hne, answered]
  · cases hset : sh.settlement with
    | none => simp only [settleShare, hs, hset, answered]
    | some p => simp only [settleShare, hs, hset, if_neg (hp p hset), answered]

theorem homeSettle_refused {r : Reply} (ans : Answering) (h : SettleRefused tab share code k s r) :
    homeSettle k tab share code ans s = (r, ans r s) ∧ r.result ≠ .OK ∧ r.result ≠ .GRANTED := by
  rcases h with ⟨hn, rfl⟩ | ⟨t, ht, ⟨hst, rfl⟩ | ⟨hst, rfl⟩ | ⟨hst, sp, hsp, ⟨hno, rfl⟩ | ⟨sh, hsh, h⟩⟩⟩
  · exact ⟨by simp only [homeSettle, settleSplit_none hn, answered], by decide, by decide⟩
  · exact ⟨by simp only [homeSettle, settleSplit_busy ht hst, answered], by decide, by decide⟩
  · exact ⟨by simp only [homeSettle, settleSplit_lost ht hst, answered], by decide, by decide⟩
  · exact ⟨by simp only [homeSettle, settleSplit_struck ht hst hsp, hno, answered], by decide, by decide⟩
  · have hsplit := settleSplit_struck ht hst hsp
    have known : ∀ {r : Reply}, code < 3 →
        (sh.state = .available ∧ r = .bare .CLAIM_LOST) ∨ (sh.state = .claimed ∧ sh.claimant ≠ k ∧ r = .bare .NOT_CLAIMANT) ∨
          (sh.state = .settled ∧ (∀ p, sh.settlement = some p → p.station ≠ k) ∧ r = .bare .SETTLED) →
        homeSettle k tab share code ans s = (r, ans r s) := fun hcode hr => by
      obtain ⟨tender, htender⟩ := ofCode_some_iff.2 hcode
      rw [homeSettle_share ans hsplit hsh htender, settleShare_refused ans hr]
    rcases h with ⟨hcode, rfl⟩ | ⟨hcode, hs, rfl⟩ | ⟨hcode, hs, hne, rfl⟩ | ⟨hcode, hs, hp, rfl⟩
    · exact ⟨by simp only [homeSettle, hsplit, hsh, ofCode_none_iff.2 hcode, answered], by decide, by decide⟩
    · exact ⟨known hcode (.inl ⟨hs, rfl⟩), by decide, by decide⟩
    · exact ⟨known hcode (.inr (.inl ⟨hs, hne, rfl⟩)), by decide, by decide⟩
    · exact ⟨known hcode (.inr (.inr ⟨hs, hp, rfl⟩)), by decide, by decide⟩

theorem homeSettle_repeated {p : Settlement} (ans : Answering) (hcode : code < 3) (ht : findTab s tab = some t)
    (hst : t.state = .split ∨ t.state = .closed) (hsp : t.split = some sp) (hsh : sp.share share = some sh)
    (hs : sh.state = .settled) (hset : sh.settlement = some p) (hp : p.station = k) :
    homeSettle k tab share code ans s =
      (⟨.OK, settledData sh.amount p.tender p.tendered⟩, ans ⟨.OK, settledData sh.amount p.tender p.tendered⟩ s) := by
  obtain ⟨tender, htender⟩ := ofCode_some_iff.2 hcode
  rw [homeSettle_share ans (settleSplit_struck ht hst hsp) hsh htender]
  simp only [settleShare, hs, hset, if_pos hp, answered]

theorem exec_settle_home (h : jobReady (.settle (own s) tab share code) .till s = true) :
    exec (.settle (own s) tab share code) s =
      .next (afterCommand (.settle (own s) tab share code) s
        (withSubject tab share (homeSettle (own s) tab share code noAnswer s).1) (homeSettle (own s) tab share code noAnswer s).2) := by
  refine (carryOut_job _ h).trans ?_
  simp only [if_true]

theorem exec_settleFrame {f : Frame} {rest : List Frame} (h : requestReady Kind.settle .till f rest s = true)
    (hp : rTabShareByte.exact f.payload = some (tab, share, code)) :
    exec .settleFrame s =
      .next (afterFrame s
        (homeSettle f.source tab share code (fun y u => sendAnswer f.source f.kind f.tag tab share y u) (popped rest s)).2) := by
  have served := request_runs rTabShareByte (·.1) (·.2.1) (fun f a ans s => (homeSettle f.source a.1 a.2.1 a.2.2 ans s).2) h hp
  exact served

end

/-- Settles O34: a settlement by the tab's and the share's states, and the counts by the accumulators' rule. -/
theorem settleTakesTheMoney : Obligations.SettleTakesTheMoney := by
  unfold Obligations.SettleTakesTheMoney
  refine ⟨fun tab share code tender t sp sh hcode => ?_, fun tab share code => ?_, fun tendered diff s => ⟨rfl, rfl, rfl, rfl, rfl⟩⟩
  · have hcode' := code_of_ofCode hcode
    subst hcode'
    refine ⟨fun s h ⟨ht, hst, hsp, hsh, hc, hk⟩ => ?_, fun f rest s h hp hne ⟨ht, hst, hsp, hsh, hc, hk⟩ => ?_⟩
    · rw [exec_settle_home h, homeSettle_share _ (settleSplit_struck ht (.inl hst) hsp) hsh hcode, settleShare_settles _ hsh hc hk]
      simp only [if_true]
      obtain ⟨hlast, hmore⟩ := closeIfPaid_settled (share := share) (tender := tender) (n := own s)
        (tendered := tenderedAmount s.cfg.rounding tender sh.amount) ht hsp (u := countSettlement tender
          (tenderedAmount s.cfg.rounding tender sh.amount) ((tenderedAmount s.cfg.rounding tender sh.amount : Int) - (sh.amount : Int))
          (settledState (own s) tab share (tenderedAmount s.cfg.rounding tender sh.amount) tender s)) rfl
      exact ⟨fun hl => congrArg (fun u => Host.Outcome.next (afterCommand _ s
          (withSubject tab share ⟨.OK, settledData sh.amount tender (tenderedAmount s.cfg.rounding tender sh.amount)⟩) u)) (hmore hl),
        fun hl => congrArg (fun u => Host.Outcome.next (afterCommand _ s
          (withSubject tab share ⟨.OK, settledData sh.amount tender (tenderedAmount s.cfg.rounding tender sh.amount)⟩) u)) (hlast hl)⟩
    · rw [exec_settleFrame h hp, homeSettle_share (s := popped rest s) _ (settleSplit_struck ht (.inl hst) hsp) hsh hcode,
        settleShare_settles (s := popped rest s) _ hsh hc hk, kind_of_requestReady h]
      have hne' : ¬f.source = own (popped rest s) := hne
      simp only [if_neg hne']
      obtain ⟨hlast, hmore⟩ := closeIfPaid_settled (s := popped rest s) (share := share) (tender := tender) (n := f.source)
        (tendered := tenderedAmount s.cfg.rounding tender sh.amount) ht hsp (u := sendAnswer f.source Kind.settle f.tag tab share
          ⟨.OK, settledData sh.amount tender (tenderedAmount s.cfg.rounding tender sh.amount)⟩
          (settledState f.source tab share (tenderedAmount s.cfg.rounding tender sh.amount) tender (popped rest s)))
        (sendAnswer_tabs _ _ _ _ _ _ _)
      exact ⟨fun hl => congrArg (fun u => Host.Outcome.next (afterFrame s u)) (hmore hl),
        fun hl => congrArg (fun u => Host.Outcome.next (afterFrame s u)) (hlast hl)⟩
  · refine ⟨fun r s h hr => ?_, fun f rest r s h hp hr => ?_, fun sh p s h ⟨hcode, t, ht, hst, sp, hsp, hsh, hs, hset, hk⟩ => ?_,
      fun f rest sh p s h hp ⟨hcode, t, ht, hst, sp, hsp, hsh, hs, hset, hk⟩ => ?_⟩
    · obtain ⟨heq, h1, h2⟩ := homeSettle_refused noAnswer hr
      rw [exec_settle_home h, heq, withSubject_refused h1 h2]
      rfl
    · obtain ⟨heq, -, -⟩ := homeSettle_refused (fun y u => sendAnswer f.source f.kind f.tag tab share y u) hr
      rw [exec_settleFrame h hp, heq]
      rfl
    · rw [exec_settle_home h, homeSettle_repeated noAnswer hcode ht hst hsp hsh hs hset hk]
      simp only [tender_ctorIdx]
      rfl
    · rw [exec_settleFrame h hp, homeSettle_repeated (s := popped rest s) _ hcode ht hst hsp hsh hs hset hk]
      simp only [tender_ctorIdx]
      rfl

end Sys2Proof.Machine
end

section
/-! How a claim ends, what the claims list makes of an answer, and the periods (R39, R46 to R50, R56, R58 to R60). -/

namespace Sys2Proof.Machine

section
variable {s : State} {home tab share : Nat} {e : ClaimEntry} {sh : Share}

/-! ## A claim that ends without its holder asking -/

theorem holdExpiry_frees (hd : s.station.state ≠ .duplicate) (h : findShare s tab share = some sh) (hst : sh.state = .claimed)
    (hh : sh.hold.isSome = true) :
    holdExpiry tab share s = tellClaimEnd tab share sh.claimant .expired (modShare tab share Share.free s) := by
  simp only [holdExpiry, if_neg hd, h]
  exact if_pos ⟨hst, hh⟩

theorem claimEnded_none {r : EndReason} (h : findClaim s home tab share = none) : claimEnded home tab share r s = s := by
  simp only [claimEnded, h]

theorem claimEnded_drops {r : EndReason} (h : findClaim s home tab share = some e) (hst : e.state = .held ∨ e.state = .releasing) :
    claimEnded home tab share r s = post (.claimEnded home tab share r) (dropClaim home tab share s) := by
  rcases hst with hst | hst <;> simp only [claimEnded, h, hst]

theorem claimEnded_settling {r : EndReason} (h : findClaim s home tab share = some e) (hst : e.state = .settling) :
    claimEnded home tab share r s = modClaim home tab share (fun e => { e with state := .ended, reason := some r }) s := by
  simp only [claimEnded, h, hst]

theorem claimEnded_ended {r : EndReason} (h : findClaim s home tab share = some e) (hst : e.state = .ended) :
    claimEnded home tab share r s = s := by
  simp only [claimEnded, h, hst]

/-- A CLAIM-END with a reason goes to the claims list of a till in service. -/
theorem exec_claimEndFrame {f : Frame} {rest : List Frame} {code : Nat} {reason : EndReason}
    (h : requestReady Kind.claimEnd .till f rest s = true) (hp : rTabShareByte.exact f.payload = some (tab, share, code))
    (hr : endReason code = some reason) :
    exec .claimEndFrame s = .next (afterFrame s (claimEnded f.source tab share reason (popped rest s))) := by
  simp only [requestReady, Bool.and_eq_true] at h
  obtain ⟨⟨hf, hs⟩, hrole⟩ := h
  refine (deliver_runs _ hf).trans ?_
  have hboth : (inService (popped rest s) && hasRole (popped rest s) .till) = true := Bool.and_eq_true_iff.2 ⟨hs, hrole⟩
  simp only [hp, hr, if_pos hboth]

theorem exec_claimEndFrame_undefined {f : Frame} {rest : List Frame} {code : Nat} (h : frameReady Kind.claimEnd f rest s = true)
    (hp : rTabShareByte.exact f.payload = some (tab, share, code)) (hc : 1 < code) :
    exec .claimEndFrame s = .next (afterFrame s (popped rest s)) := by
  obtain ⟨c, rfl⟩ : ∃ c, code = c + 2 := ⟨code - 2, by omega⟩
  refine (deliver_runs _ h).trans ?_
  simp only [hp, endReason]

theorem endReason_of_code {code : Nat} {reason : EndReason} (h : (code = 0 ∧ reason = .expired) ∨ (code = 1 ∧ reason = .cancelled)) :
    endReason code = some reason := by
  rcases h with ⟨rfl, rfl⟩ | ⟨rfl, rfl⟩ <;> rfl

theorem localExpired_drops (hd : s.station.state ≠ .duplicate) (h : findClaim s home tab share = some e) (ht : e.expiry.isSome = true)
    (hst : e.state = .held ∨ e.state = .releasing) :
    localExpired home tab share s = post (.claimLost home tab share) (dropClaim home tab share s) := by
  have ht' : isPending e.expiry = true := ht
  rcases hst with hst | hst <;> simp only [localExpired, if_neg hd, h, if_pos ht', hst]

theorem localExpired_settling (hd : s.station.state ≠ .duplicate) (h : findClaim s home tab share = some e)
    (ht : e.expiry.isSome = true) (hst : e.state = .settling) :
    localExpired home tab share s =
      modClaim home tab share (fun e => { e with state := .ended, reason := some .expired, expiry := none }) s := by
  have ht' : isPending e.expiry = true := ht
  simp only [localExpired, if_neg hd, h, if_pos ht', hst]

theorem localExpired_ended (hd : s.station.state ≠ .duplicate) (h : findClaim s home tab share = some e)
    (ht : e.expiry.isSome = true) (hst : e.state = .ended) :
    localExpired home tab share s = modClaim home tab share (fun e => { e with expiry := none }) s := by
  have ht' : isPending e.expiry = true := ht
  simp only [localExpired, if_neg hd, h, if_pos ht', hst]

end

/-- Settles O35: the hold timer, CLAIM-END and the local expiry, each by the entry's state. -/
theorem claimsEnd : Obligations.ClaimsEnd := by
  unfold Obligations.ClaimsEnd
  refine ⟨fun tab share sh s hr hd h hst hh => ?_, fun f rest tab share code reason s h hp hc => ?_,
    fun f rest tab share code s h hp hc => exec_claimEndFrame_undefined h hp hc, fun home tab share e s hr hd h ht => ?_⟩
  · have hrun : exec (.holdTimerExpiry tab share) s = _ :=
      (event_runs _ hr).trans (congrArg (fun u => Host.Outcome.next (afterEvent s u)) (holdExpiry_frees hd h hst hh))
    refine ⟨fun hk => hrun.trans ?_, fun hk => hrun.trans ?_⟩
    · rw [tellClaimEnd, if_pos (show sh.claimant = own (modShare tab share Share.free s) from hk)]
      rfl
    · rw [tellClaimEnd, if_neg (show ¬sh.claimant = own (modShare tab share Share.free s) from hk)]
      rfl
  · rw [exec_claimEndFrame h hp (endReason_of_code hc)]
    refine ⟨fun hn => ?_, fun e he => ⟨fun hst => ?_, fun hst => ?_, fun hst => ?_⟩⟩
    · rw [claimEnded_none (s := popped rest s) hn]
    · rw [claimEnded_drops (s := popped rest s) he hst]
      rfl
    · rw [claimEnded_settling (s := popped rest s) he hst]
    · rw [claimEnded_ended (s := popped rest s) he hst]
  · have hrun : exec (.localExpiry home tab share) s = .next (afterEvent s (localExpired home tab share s)) := event_runs _ hr
    rw [hrun]
    refine ⟨fun hst => ?_, fun hst => ?_, fun hst => ?_⟩
    · rw [localExpired_drops hd h ht hst]
      rfl
    · rw [localExpired_settling hd h ht hst]
    · rw [localExpired_ended hd h ht hst]

/-! ## Periods -/

section
variable {s : State} {ended : Nat}

theorem captureAttempt_first (h1 : s.takings.slot1 = none) :
    captureAttempt ended s =
      (some 1, post (.periodCapture 1 s.takings.spanStart ended s.takings.deferral)
        { s with
          takings :=
            { s.takings with
              accums := .zero, spanStart := s.takings.period, deferral := false,
              slot1 := some (captureRecord ended s.takings) } }) := by
  simp only [captureAttempt, h1, captureRecord]

theorem captureAttempt_second {c : Capture} (h1 : s.takings.slot1 = some c) (h2 : s.takings.slot2 = none) :
    captureAttempt ended s =
      (some 2, post (.periodCapture 2 s.takings.spanStart ended s.takings.deferral)
        { s with
          takings :=
            { s.takings with
              accums := .zero, spanStart := s.takings.period, deferral := false,
              slot2 := some (captureRecord ended s.takings) } }) := by
  simp only [captureAttempt, h1, h2, captureRecord]

theorem captureAttempt_deferred {c d : Capture} (h1 : s.takings.slot1 = some c) (h2 : s.takings.slot2 = some d) :
    captureAttempt ended s = (none, post (.captureDeferred ended) { s with takings := { s.takings with deferral := true } }) := by
  simp only [captureAttempt, h1, h2]

/-- The state a local advance captures from: the number raised and the PERIOD frame offered. -/
def raised (s : State) : State :=
  (sendFrame ⟨Kind.period, 127, 0, e1 (min (s.takings.period + 1) 99)⟩
    { s with takings := { s.takings with period := min (s.takings.period + 1) 99 } }).2

theorem raised_takings (s : State) : (raised s).takings = { s.takings with period := min (s.takings.period + 1) 99 } :=
  sendFrame_takings _ _

/-- A local advance: the first FREE slot takes the span that ends, which is put off where both are FULL. -/
def advanced (s : State) : Option Nat × State :=
  let record : Capture := ⟨s.takings.spanStart, s.takings.period, s.takings.deferral, s.takings.accums⟩
  let fresh : Takings :=
    { (raised s).takings with accums := Accums.zero, spanStart := min (s.takings.period + 1) 99, deferral := false }
  if s.takings.slot1 = none then
    (some 1, post (.periodCapture 1 record.first record.last record.deferred)
      { raised s with takings := { fresh with slot1 := some record } })
  else if s.takings.slot2 = none then
    (some 2, post (.periodCapture 2 record.first record.last record.deferred)
      { raised s with takings := { fresh with slot2 := some record } })
  else (none, post (.captureDeferred s.takings.period) { raised s with takings := { (raised s).takings with deferral := true } })

theorem localAdvance_eq (s : State) : localAdvance s = advanced s := by
  have hrun : localAdvance s = captureAttempt s.takings.period (raised s) := rfl
  have ht := raised_takings s
  rw [hrun, advanced]
  cases h1 : s.takings.slot1 with
  | none =>
    rw [captureAttempt_first (by rw [ht]; exact h1), captureRecord, ht, if_pos rfl]
  | some c =>
    rw [if_neg (Option.some_ne_none c)]
    cases h2 : s.takings.slot2 with
    | none => rw [captureAttempt_second (by rw [ht]; exact h1) (by rw [ht]; exact h2), captureRecord, ht, if_pos rfl]
    | some d =>
      rw [captureAttempt_deferred (by rw [ht]; exact h1) (by rw [ht]; exact h2), if_neg (Option.some_ne_none d)]

theorem advanced_period (s : State) : (advanced s).2.takings.period = min (s.takings.period + 1) 99 := by
  have ht := congrArg Takings.period (raised_takings s)
  unfold advanced
  split
  · exact (congrArg Takings.period (post_takings _ _)).trans ht
  · split <;> exact (congrArg Takings.period (post_takings _ _)).trans ht

theorem exec_markPeriod (h : commandTaken .markPeriod s = true) (hs : inService s = true) :
    exec .markPeriod s =
      .next (afterCommand .markPeriod s ⟨.OK, e1 (min (s.takings.period + 1) 99) ++ eOpt e1 (advanced s).1⟩ (advanced s).2) := by
  refine (carryOut_taken markPeriodBody h).trans ?_
  rw [markPeriodBody, job_runs_any _ hs, localAdvance_eq]
  simp only [advanced_period]

theorem exec_releaseCapture {slot : Nat} (h : readReady (.releaseCapture slot) none s = true) :
    exec (.releaseCapture slot) s =
      .next (afterCommand (.releaseCapture slot) s
        (if slot < 1 ∨ 2 < slot then .bare .BAD_PARAM else if (s.takings.slot slot).isSome = true then .bare .OK else .bare .NO_ENTRY)
        (if slot < 1 ∨ 2 < slot then s
          else if (s.takings.slot slot).isSome = true then { s with takings := s.takings.freeSlot slot } else s)) := by
  refine (carryOut_read _ h).trans ?_
  by_cases hr : slot < 1 ∨ 2 < slot
  · simp only [if_pos hr, refuse]
  · simp only [if_neg hr]
    cases s.takings.slot slot <;> rfl

end

/-- Settles O36: the advance by the slot that takes the span, the pin by its lockout, and the release by the slot. -/
theorem periodsAdvanceAndCapture : Obligations.PeriodsAdvanceAndCapture := by
  unfold Obligations.PeriodsAdvanceAndCapture
  refine ⟨fun s h hs => exec_markPeriod h hs, fun s hr hs hl => ?_, fun s hr hno => ?_, fun s hr hd => ?_, fun slot s h => ?_⟩
  · refine (event_runs pinEdge hr).trans ?_
    rw [pinEdge, if_pos ⟨hs, hl⟩, localAdvance_eq]
    rfl
  · refine (event_runs pinEdge hr).trans ?_
    rw [pinEdge, if_neg]
    rintro ⟨hs, hl⟩
    rcases hno with h | h
    · exact Bool.false_ne_true (h.symm.trans hs)
    · exact Bool.false_ne_true ((congrArg Option.isSome hl).symm.trans h)
  · refine (event_runs lockoutExpiry hr).trans ?_
    rw [lockoutExpiry, if_neg hd]
  · rw [exec_releaseCapture h]
    refine ⟨?_, ?_, ?_, fun h1 h2 => ?_⟩
    · rintro rfl hfull
      have hfull' : (s.takings.slot 1).isSome = true := hfull
      simp only [if_pos hfull']
      rfl
    · rintro rfl hfull
      have hfull' : (s.takings.slot 2).isSome = true := hfull
      simp only [if_pos hfull']
      rfl
    · rintro (⟨rfl, hfree⟩ | ⟨rfl, hfree⟩)
      · simp only [show s.takings.slot 1 = none from hfree]
        rfl
      · simp only [show s.takings.slot 2 = none from hfree]
        rfl
    · have hout : slot < 1 ∨ 2 < slot := by omega
      simp only [if_pos hout]

/-! ## Answers to the claims list -/

section
variable {s : State} {a : AnswerRec} {c : ClaimEntry}

theorem is_of_result {r : Result} (h : a.result = r.code) : a.is r = true := beq_iff_eq.2 h

theorem is_eq_false {r : Result} (h : a.result ≠ r.code) : a.is r = false := beq_eq_false_iff_ne.2 h

theorem handOutcome_claims {e : ExchEntry} (h : e.owner = .claims) : handOutcome e a s = claimsOutcome a s := by
  simp only [handOutcome, h]

theorem claimsOutcome_claim (h : a.kind = Kind.claim) : claimsOutcome a s = claimAnswer a s := if_pos h

theorem claimsOutcome_settle (h : a.kind = Kind.settle) : claimsOutcome a s = settleAnswer a s := by
  simp only [claimsOutcome, h, Kind.claim, Kind.settle]
  rfl

theorem claimsOutcome_release (h : a.kind = Kind.release) : claimsOutcome a s = releaseAnswer a s := by
  simp only [claimsOutcome, h, Kind.claim, Kind.settle, Kind.release]
  rfl

theorem lateEffect_claims (hs : inService s = true) (hr : hasRole s .till = true) (h1 : a.kind ≠ Kind.ticket)
    (h2 : a.kind ≠ Kind.lineVoid) : lateEffect a s = claimsLate a s := by
  simp only [lateEffect, hs, hr, if_neg h1, if_neg h2, Bool.not_true, Bool.false_eq_true, if_false]

/-! What a grant does with the entry that stands. -/

theorem takeGrant_makes {amount : Nat} (hd : Reader.n4.exact a.data = some amount)
    (he : findClaim s a.source a.subject a.share = none) (hl : s.claims.length < 8) :
    takeGrant a s =
      { s with
        claims := s.claims ++ [⟨a.source, a.subject, a.share, amount, some (s.cfg.claimHold * 1000), .held, none⟩] } := by
  simp only [takeGrant, he, hd]
  exact if_pos hl

theorem takeGrant_full (he : findClaim s a.source a.subject a.share = none) (hl : 8 ≤ s.claims.length) : takeGrant a s = s := by
  simp only [takeGrant, he]
  exact if_neg (Nat.not_lt.2 hl)

theorem takeGrant_renews (he : findClaim s a.source a.subject a.share = some c) (hst : c.state = .held) :
    takeGrant a s =
      modClaim a.source a.subject a.share (fun x => { x with expiry := some (s.cfg.claimHold * 1000) }) s := by
  simp only [takeGrant, he, if_pos hst]

theorem takeGrant_leaves (he : findClaim s a.source a.subject a.share = some c) (hst : c.state ≠ .held) : takeGrant a s = s := by
  simp only [takeGrant, he, if_neg hst]

theorem claimAnswer_granted (h : a.result = Result.GRANTED.code) : claimAnswer a s = post (.claimResult a) (takeGrant a s) :=
  if_pos (is_of_result h)

theorem claimAnswer_drops (hg : a.result ≠ Result.GRANTED.code) (hn : a.result ≠ Result.NO_ANSWER.code)
    (he : findClaim s a.source a.subject a.share = some c) (hst : c.state = .held) :
    claimAnswer a s = post (.claimResult a) (dropClaim a.source a.subject a.share s) := by
  have hst' : (c.state == ClaimState.held) = true := beq_iff_eq.2 hst
  simp only [claimAnswer, is_eq_false hg, is_eq_false hn, he, Option.map_some, Option.getD_some, hst', Bool.not_false,
    Bool.and_true, Bool.false_eq_true, if_false, if_true]

theorem claimAnswer_leaves (hg : a.result ≠ Result.GRANTED.code)
    (h : a.result = Result.NO_ANSWER.code ∨ findClaim s a.source a.subject a.share = none ∨
      ∃ c, findClaim s a.source a.subject a.share = some c ∧ c.state ≠ .held) :
    claimAnswer a s = post (.claimResult a) s := by
  rcases h with h | h | ⟨c, h, hst⟩
  · simp only [claimAnswer, is_eq_false hg, is_of_result h, Bool.not_true, Bool.and_false, Bool.false_eq_true, if_false]
  · simp only [claimAnswer, is_eq_false hg, h]
    rfl
  · have hst' : (c.state == ClaimState.held) = false := beq_eq_false_iff_ne.2 hst
    simp only [claimAnswer, is_eq_false hg, h, Option.map_some, Option.getD_some, hst', Bool.false_and, Bool.false_eq_true, if_false]

/-! What an OK counts. -/

theorem countAnswered_counts {amount code tendered : Nat} {diff : Int} {tender : Tender}
    (hd : rSettled.exact a.data = some (amount, code, tendered, diff)) (ht : Tender.ofCode code = some tender) :
    countAnswered a s = countSettlement tender tendered diff (dropClaim a.source a.subject a.share s) := by
  simp only [countAnswered, hd, ht, Option.getD_some]

theorem countAnswered_unknown {amount code tendered : Nat} {diff : Int}
    (hd : rSettled.exact a.data = some (amount, code, tendered, diff)) (ht : Tender.ofCode code = none) :
    countAnswered a s = dropClaim a.source a.subject a.share s := by
  simp only [countAnswered, hd, ht, Option.getD_none]
  rfl

/-! What the answer to a SETTLE does with the entry that stands. -/

theorem settleAnswer_none (he : findClaim s a.source a.subject a.share = none) : settleAnswer a s = post (.settleResult a) s := by
  simp only [settleAnswer, he]

theorem settleAnswer_ok (h : a.result = Result.OK.code) (he : findClaim s a.source a.subject a.share = some c) :
    settleAnswer a s = post (.settleResult a) (countAnswered a s) := by
  simp only [settleAnswer, he, if_pos (is_of_result h)]

theorem settleAnswer_undecided (h : a.result ≠ Result.OK.code) (he : findClaim s a.source a.subject a.share = some c)
    (hst : c.state = .held ∨ c.state = .releasing) : settleAnswer a s = post (.settleResult a) s := by
  rcases hst with hst | hst <;> simp only [settleAnswer, he, is_eq_false h, hst, Bool.false_eq_true, if_false]

theorem settleAnswer_lost (h : a.result = Result.CLAIM_LOST.code) (he : findClaim s a.source a.subject a.share = some c)
    (hst : c.state = .settling ∨ c.state = .ended) :
    settleAnswer a s = post (.claimLost a.source a.subject a.share) (dropClaim a.source a.subject a.share s) := by
  have hok : a.result ≠ Result.OK.code := h ▸ by decide
  rcases hst with hst | hst <;>
    simp only [settleAnswer, he, is_eq_false hok, is_of_result h, hst, Bool.false_eq_true, if_false, if_true]

theorem settleAnswer_silent_settling (h : a.result = Result.NO_ANSWER.code)
    (he : findClaim s a.source a.subject a.share = some c) (hst : c.state = .settling) :
    settleAnswer a s = post (.settleResult a) (modClaim a.source a.subject a.share (fun x => { x with state := .held }) s) := by
  have hok : a.result ≠ Result.OK.code := h ▸ by decide
  have hl : a.result ≠ Result.CLAIM_LOST.code := h ▸ by decide
  simp only [settleAnswer, he, is_eq_false hok, is_eq_false hl, is_of_result h, hst, Bool.false_eq_true, if_false, if_true]

theorem settleAnswer_silent_ended {r : EndReason} (h : a.result = Result.NO_ANSWER.code)
    (he : findClaim s a.source a.subject a.share = some c) (hst : c.state = .ended) (hr : c.reason = some r) :
    settleAnswer a s = post (.claimEnded a.source a.subject a.share r) (dropClaim a.source a.subject a.share s) := by
  have hok : a.result ≠ Result.OK.code := h ▸ by decide
  have hl : a.result ≠ Result.CLAIM_LOST.code := h ▸ by decide
  simp only [settleAnswer, he, is_eq_false hok, is_eq_false hl, is_of_result h, hst, hr, Option.getD_some, Bool.false_eq_true,
    if_false, if_true]

theorem settleAnswer_refused (h : a.result ≠ Result.OK.code) (hl : a.result ≠ Result.CLAIM_LOST.code)
    (hn : a.result ≠ Result.NO_ANSWER.code) (he : findClaim s a.source a.subject a.share = some c)
    (hst : c.state = .settling ∨ c.state = .ended) :
    settleAnswer a s = post (.settleResult a) (dropClaim a.source a.subject a.share s) := by
  rcases hst with hst | hst <;>
    simp only [settleAnswer, he, is_eq_false h, is_eq_false hl, is_eq_false hn, hst, Bool.false_eq_true, if_false]

/-! Late answers. -/

theorem claimsLate_grant (hk : a.kind = Kind.claim) (h : a.result = Result.GRANTED.code) : claimsLate a s = takeGrant a s :=
  if_pos ⟨hk, is_of_result h⟩

theorem claimsLate_ok (hk : a.kind = Kind.settle) (h : a.result = Result.OK.code) :
    claimsLate a s = if (findClaim s a.source a.subject a.share).isSome = true then countAnswered a s else s := by
  have h1 : ¬(a.kind = Kind.claim ∧ a.is .GRANTED = true) := fun hc => by
    have := hk.symm.trans hc.1
    exact absurd this (by decide)
  rw [claimsLate, if_neg h1]
  simp only [hk, is_of_result h, true_and]

theorem claimsLate_nothing (h1 : ¬(a.kind = Kind.claim ∧ a.result = Result.GRANTED.code))
    (h2 : ¬(a.kind = Kind.settle ∧ a.result = Result.OK.code)) : claimsLate a s = s := by
  rw [claimsLate, if_neg fun h => h1 ⟨h.1, beq_iff_eq.1 h.2⟩, if_neg fun h => h2 ⟨h.1, beq_iff_eq.1 h.2.1⟩]

end

/-- Settles O39: the grant, the settlement and the release against the entry that stands, in time and late. -/
theorem claimAnswersDecideEntries : Obligations.ClaimAnswersDecideEntries := by
  unfold Obligations.ClaimAnswersDecideEntries
  intro a s
  refine ⟨fun e ho => ?_, fun hs hr => ⟨fun hk hg => ?_, fun hk hok => ?_, fun h1 h2 h3 h4 => ?_⟩⟩
  · rw [handOutcome_claims ho]
    refine ⟨fun hk hg => ?_, fun hk hg => ?_, fun amount code tendered diff c hk hok hd he => ?_, fun hk he => ?_,
      fun c hk hok he => ?_, fun hk => claimsOutcome_release hk⟩
    · rw [claimsOutcome_claim hk, claimAnswer_granted hg]
      exact ⟨fun amount hd he hl => congrArg _ (takeGrant_makes hd he hl), fun he hl => congrArg _ (takeGrant_full he hl),
        fun c he => ⟨fun hst => congrArg _ (takeGrant_renews he hst), fun hst => congrArg _ (takeGrant_leaves he hst)⟩⟩
    · rw [claimsOutcome_claim hk]
      exact ⟨fun c hn he hst => claimAnswer_drops hg hn he hst, claimAnswer_leaves hg⟩
    · rw [claimsOutcome_settle hk, settleAnswer_ok hok he]
      exact ⟨fun tender ht => congrArg _ (countAnswered_counts hd ht), fun ht => congrArg _ (countAnswered_unknown hd ht)⟩
    · rw [claimsOutcome_settle hk, settleAnswer_none he]
    · rw [claimsOutcome_settle hk]
      exact ⟨settleAnswer_undecided hok he, fun hst h => settleAnswer_lost h he hst,
        fun hst h => settleAnswer_silent_settling h he hst, fun reason hst hreason h => settleAnswer_silent_ended h he hst hreason,
        fun hst hl hn => settleAnswer_refused hok hl hn he hst⟩
  · rw [lateEffect_claims hs hr (hk ▸ by decide) (hk ▸ by decide), claimsLate_grant hk hg]
    exact ⟨fun amount hd he hl => takeGrant_makes hd he hl, takeGrant_full,
      fun c he => ⟨takeGrant_renews he, takeGrant_leaves he⟩⟩
  · rw [lateEffect_claims hs hr (hk ▸ by decide) (hk ▸ by decide), claimsLate_ok hk hok]
    refine ⟨fun he => if_neg (by simp [he]), fun amount code tendered diff c hd he => ?_⟩
    rw [if_pos (by simp [he])]
    exact ⟨fun tender ht => countAnswered_counts hd ht, countAnswered_unknown hd⟩
  · rw [lateEffect_claims hs hr h1 h2, claimsLate_nothing h3 h4]

end Sys2Proof.Machine
end

section
/-! The transmit scheduler (R121, R154), the requests it carries to tabs and tickets at peers (R11, R35, R45, R92, R166, R170), and the
bits of a frame (R155). -/

namespace Sys2Proof.Machine

/-! ## The scheduler's decision -/

section
variable {s : State} {f : OutFrame} {l : List Slot}

/-- A slot whose frame a newer one may take the place of. -/
def Evictable (x : Slot) : Prop := kindClass x.frame.kind = 3 ∧ x.onWire = false

theorem evictNewest_eq_none_iff : evictNewest l = none ↔ ∀ x ∈ l, ¬Evictable x := by
  refine ⟨evictNewest_none, fun h => ?_⟩
  cases he : evictNewest l with
  | none => rfl
  | some p =>
    obtain ⟨before, x, after, rfl, -, hc, hw, -⟩ := evictNewest_some he
    exact absurd ⟨hc, hw⟩ (h x (by simp))

theorem evictNewest_last {before after : List Slot} {x : Slot} (hx : Evictable x) (ha : ∀ y ∈ after, ¬Evictable y) :
    evictNewest (before ++ x :: after) = some (x.frame, before ++ after) := by
  induction before with
  | nil =>
    have hx' : kindClass x.frame.kind = 3 ∧ x.onWire = false := hx
    simp only [List.nil_append, evictNewest, evictNewest_eq_none_iff.2 ha, if_pos hx']
  | cons y before ih => simp only [List.cons_append, evictNewest, ih]

/-- The queue has no room for a frame of the kind's class. -/
def Crowded (kind : Nat) (l : List Slot) : Prop := 24 ≤ l.length ∨ (kindClass kind ≠ 0 ∧ 20 ≤ lowCount l)

theorem offerFrame_room (h : ¬Crowded f.kind l) : offerFrame f l = .taken (l ++ [Slot.fresh f]) := by
  obtain ⟨h24, h20⟩ := not_or.1 h
  have hlen : l.length < Config.txCapacity := Nat.lt_of_not_le h24
  unfold offerFrame
  by_cases hc : kindClass f.kind = 0
  · rw [if_pos hc, if_pos hlen]
  · have hlow : lowCount l < Config.txLowCapacity := Nat.lt_of_not_le fun h => h20 ⟨hc, h⟩
    rw [if_neg hc, if_pos ⟨hlen, hlow⟩]

theorem crowded_low (h : Crowded f.kind l) : ¬(l.length < Config.txCapacity ∧ lowCount l < Config.txLowCapacity) := fun hroom => by
  rcases h with h | h
  · exact absurd hroom.1 (Nat.not_lt_of_le h)
  · exact absurd hroom.2 (Nat.not_lt_of_le h.2)

theorem offerFrame_evicts {before after : List Slot} {x : Slot} (h : Crowded f.kind l) (hc : kindClass f.kind = 1 ∨ kindClass f.kind = 2)
    (hl : l = before ++ x :: after) (hx : Evictable x) (ha : ∀ y ∈ after, ¬Evictable y) :
    offerFrame f l = .evicting x.frame (before ++ after ++ [Slot.fresh f]) := by
  have h0 : kindClass f.kind ≠ 0 := by omega
  have h3 : kindClass f.kind ≠ 3 := by omega
  rw [offerFrame, if_neg h0, if_neg (crowded_low h), if_neg h3, hl, evictNewest_last hx ha]

theorem offerFrame_refused (h : Crowded f.kind l) (hc : kindClass f.kind = 0 ∨ kindClass f.kind = 3 ∨ ∀ x ∈ l, ¬Evictable x) :
    offerFrame f l = .refused := by
  by_cases h0 : kindClass f.kind = 0
  · rw [offerFrame, if_pos h0, if_neg]
    exact Nat.not_lt_of_le (h.resolve_right fun h => h.1 h0)
  · rw [offerFrame, if_neg h0, if_neg (crowded_low h)]
    by_cases h3 : kindClass f.kind = 3
    · rw [if_pos h3]
    · rw [if_neg h3, evictNewest_eq_none_iff.2 ((hc.resolve_left h0).resolve_left h3)]

theorem sendFrame_taken (h : ¬Crowded f.kind s.tx.slots) :
    sendFrame f s = (true, { s with tx := { s.tx with slots := s.tx.slots ++ [Slot.fresh f] } }) := by
  simp only [sendFrame, offerFrame_room h]

theorem sendFrame_evicts {before after : List Slot} {x : Slot} (h : Crowded f.kind s.tx.slots)
    (hc : kindClass f.kind = 1 ∨ kindClass f.kind = 2) (hl : s.tx.slots = before ++ x :: after) (hx : Evictable x)
    (ha : ∀ y ∈ after, ¬Evictable y) :
    sendFrame f s =
      (true, frameLost x.frame
        { s with
          tx := { s.tx with slots := before ++ after ++ [Slot.fresh f], dropped := bumpDropped s.tx.dropped },
          router := { s.router with pause := false } }) := by
  simp only [sendFrame, offerFrame_evicts h hc hl hx ha]

theorem sendFrame_refused (h : Crowded f.kind s.tx.slots)
    (hc : kindClass f.kind = 0 ∨ kindClass f.kind = 3 ∨ ∀ x ∈ s.tx.slots, ¬Evictable x) :
    sendFrame f s =
      (false, if isRequest f.kind then s else frameLost f { s with tx := { s.tx with dropped := bumpDropped s.tx.dropped } }) := by
  simp only [sendFrame, offerFrame_refused h hc]
  split <;> rfl

end

/-! ## The item a STOCK frame is for -/

theorem frameLost_none {s : State} {f : OutFrame} (h : stockItem f = none) : frameLost f s = s := by
  simp only [frameLost, h]

theorem frameLost_some {s : State} {f : OutFrame} {item : Nat} (h : stockItem f = some item) :
    frameLost f s = { s with portions := markResend item s.portions } := by
  simp only [frameLost, h]

theorem stockState_code_lt (st : StockState) : st.ctorIdx < 256 := by cases st <;> decide

theorem rStock_reads {item remaining code : Nat} (hi : item < 65536) (hc : code < 256) (hr : remaining < 65536) :
    rStock.exact (e2 item ++ e1 code ++ e2 remaining) = some ⟨item, code, remaining⟩ := by
  have hread : rStock (e2 item ++ (e1 code ++ (e2 remaining ++ []))) = some (⟨item, code, remaining⟩, []) := by
    simp only [rStock, reader_bind, n2_e2 hi, n1_e1 hc, n2_e2 hr, Option.bind_some, reader_pure]
  rw [List.append_nil, ← List.append_assoc] at hread
  simp only [Reader.exact, Reader.run, hread, List.length_nil, Nat.le_refl, if_true]

/-- Settles O40: the scheduler by room, class and what can be evicted. -/
theorem schedulerDecidesByClass : Obligations.SchedulerDecidesByClass := by
  unfold Obligations.SchedulerDecidesByClass
  refine ⟨fun f s => ⟨fun h => sendFrame_taken h, fun h hc before x after hl hx ha => sendFrame_evicts h hc hl hx ha |>.trans ?_,
    fun h hc => (sendFrame_refused h hc).trans ?_⟩, fun f hf => if_neg hf, fun dest tag item remaining st hi hr => ?_⟩
  · cases hi : stockItem x.frame with
    | none => simp only [hi, frameLost_none hi]; rfl
    | some item => simp only [hi, frameLost_some hi]; rfl
  · cases hi : stockItem f with
    | none => simp only [hi, frameLost_none hi]; rfl
    | some item => simp only [hi, frameLost_some hi]; rfl
  · rw [stockItem, if_pos rfl, rStock_reads hi (stockState_code_lt st) hr, Option.map_some]

/-! ## The bits of a frame -/

section
variable {bits before after : List Bool} {i : Nat}

theorem drop_field (h : bits = before ++ after) (hi : before.length = i) : bits.drop i = after := by
  subst h hi
  exact List.drop_left

theorem length_laneTag (lane : Lane) : (laneTag lane).length = 2 := by cases lane <;> rfl

theorem laneTag_read (lane : Lane) :
    (laneTag lane = laneTag .A ∨ laneTag lane = laneTag .B) ∧ (if laneTag lane = laneTag .A then Lane.A else .B) = lane := by
  cases lane <;> decide

theorem kindClass_lt (k : Nat) : kindClass k < 2 ^ 2 := by
  unfold kindClass
  split
  · decide
  · split
    · decide
    · split <;> decide

variable {lane : Lane} {source age : Nat} {f : OutFrame}

theorem length_bodyBits (f : OutFrame) : (bodyBits f).length = 32 + 8 * f.payload.length := by
  simp only [bodyBits, List.length_append, length_bitsOf, length_bitsOfBytes]

/-- A driven frame as its fields in a row. -/
theorem wireBits_fields (lane : Lane) (source age : Nat) (f : OutFrame) :
    wireBits lane source age f =
      syncBits ++ (laneTag lane ++ (bitsOf 2 (kindClass f.kind) ++ (bitsOf 3 (7 - age) ++ (bitsOf 7 source ++ (bitsOf 8 f.kind ++
        (bitsOf 8 f.dest ++ (bitsOf 8 f.tag ++ (bitsOf 8 f.payload.length ++ (bitsOfBytes f.payload ++
          bitsOf 16 (crc16 (bodyBits f))))))))))) := by
  simp only [wireBits, keyBits, bodyBits, List.append_assoc]

theorem length_wireBits (lane : Lane) (source age : Nat) (f : OutFrame) :
    (wireBits lane source age f).length = 70 + 8 * f.payload.length := by
  simp only [wireBits_fields, List.length_append, length_bitsOf, length_bitsOfBytes, length_laneTag]
  simp only [syncBits, List.length_cons, List.length_nil]
  omega

/-- Each field is found at its own place. -/
theorem wireBits_read (lane : Lane) (source age : Nat) (f : OutFrame) :
    let bits := wireBits lane source age f
    bits.take 8 = syncBits ∧ (bits.drop 8).take 2 = laneTag lane ∧ (bits.drop 10).take 2 = bitsOf 2 (kindClass f.kind) ∧
    (bits.drop 12).take 3 = bitsOf 3 (7 - age) ∧ (bits.drop 15).take 7 = bitsOf 7 source ∧
    (bits.drop 22).take 8 = bitsOf 8 f.kind ∧ (bits.drop 30).take 8 = bitsOf 8 f.dest ∧ (bits.drop 38).take 8 = bitsOf 8 f.tag ∧
    (bits.drop 46).take 8 = bitsOf 8 f.payload.length ∧
    bits.drop 54 = bitsOfBytes f.payload ++ bitsOf 16 (crc16 (bodyBits f)) ∧
    (bits.drop 22).take (32 + 8 * f.payload.length) = bodyBits f ∧
    bits.drop (54 + 8 * f.payload.length) = bitsOf 16 (crc16 (bodyBits f)) := by
  intro bits
  have hb : bits = _ := wireBits_fields lane source age f
  have h8 : bits.drop 8 = _ := drop_field hb rfl
  have h10 : (bits.drop 8).drop 2 = _ := drop_field h8 (length_laneTag lane)
  have h12 : ((bits.drop 8).drop 2).drop 2 = _ := drop_field h10 (length_bitsOf _ _)
  have h15 : (((bits.drop 8).drop 2).drop 2).drop 3 = _ := drop_field h12 (length_bitsOf _ _)
  have h22 : ((((bits.drop 8).drop 2).drop 2).drop 3).drop 7 = _ := drop_field h15 (length_bitsOf _ _)
  have h30 : (((((bits.drop 8).drop 2).drop 2).drop 3).drop 7).drop 8 = _ := drop_field h22 (length_bitsOf _ _)
  have h38 : ((((((bits.drop 8).drop 2).drop 2).drop 3).drop 7).drop 8).drop 8 = _ := drop_field h30 (length_bitsOf _ _)
  have h46 : (((((((bits.drop 8).drop 2).drop 2).drop 3).drop 7).drop 8).drop 8).drop 8 = _ := drop_field h38 (length_bitsOf _ _)
  have h54 : ((((((((bits.drop 8).drop 2).drop 2).drop 3).drop 7).drop 8).drop 8).drop 8).drop 8 = _ :=
    drop_field h46 (length_bitsOf _ _)
  simp only [List.drop_drop] at h10 h12 h15 h22 h30 h38 h46 h54
  have hbody : bits.drop 22 = bodyBits f ++ bitsOf 16 (crc16 (bodyBits f)) := by
    rw [h22]
    simp only [bodyBits, List.append_assoc]
  have hcheck : (bits.drop 22).drop (32 + 8 * f.payload.length) = _ := drop_field hbody (length_bodyBits f)
  rw [List.drop_drop, ← Nat.add_assoc] at hcheck
  refine ⟨?_, ?_, ?_, ?_, ?_, ?_, ?_, ?_, ?_, h54, ?_, hcheck⟩
  · rw [hb]
    exact List.take_left' rfl
  · rw [h8]
    exact List.take_left' (length_laneTag lane)
  · rw [h10]
    exact List.take_left' (length_bitsOf _ _)
  · rw [h12]
    exact List.take_left' (length_bitsOf _ _)
  · rw [h15]
    exact List.take_left' (length_bitsOf _ _)
  · rw [h22]
    exact List.take_left' (length_bitsOf _ _)
  · rw [h30]
    exact List.take_left' (length_bitsOf _ _)
  · rw [h38]
    exact List.take_left' (length_bitsOf _ _)
  · rw [h46]
    exact List.take_left' (length_bitsOf _ _)
  · rw [hbody]
    exact List.take_left' (length_bodyBits f)

end

/-- Settles O41: the receiver finds each field where the transmitter put it. -/
theorem framesReadBack : Obligations.FramesReadBack := by
  unfold Obligations.FramesReadBack
  intro lane source age f hsource hage hkind hdest htag hlen
  obtain ⟨hsync, hlane, hcls, hagebits, hsrc, hk, hd, ht, hl, hpay, hbody, hcheck⟩ := wireBits_read lane source age f
  have hn : natOf (bitsOf 8 f.payload.length) = f.payload.length := natOf_bitsOf (by omega)
  have hcrc : natOf (bitsOf 16 (crc16 (bodyBits f))) = crc16 (bodyBits f) := natOf_bitsOf (crc16_lt _)
  have hageNat : 7 - natOf (bitsOf 3 (7 - age)) = age := by
    rw [natOf_bitsOf (by omega)]
    omega
  obtain ⟨htagged, hlaneRead⟩ := laneTag_read lane
  simp only [receive, hl, hn, hlane, hcls, hagebits, hsrc, hk, hd, ht, hpay, hbody, hcheck, hsync, hcrc]
  rw [if_pos ⟨length_wireBits lane source age f, hlen, trivial, htagged, trivial⟩, hlaneRead, natOf_bitsOf (kindClass_lt _), hageNat,
    natOf_bitsOf (by omega), natOf_bitsOf (by omega), natOf_bitsOf (by omega), natOf_bitsOf (by omega), bytesOf_bitsOfBytes]

end Sys2Proof.Machine
end

section
/-! Requests to tabs and tickets at peers, and Test (R11, R35, R45, R92, R166, R170). -/

namespace Sys2Proof.Machine

section
variable {s : State} {kind dest subject share c : Nat} {owner : Owner} {payload : Bytes}

/-! ## A request frame at the scheduler -/

/-- Room for a frame of class 1 to 3. -/
def Room (s : State) : Prop := s.tx.slots.length < 24 ∧ lowCount s.tx.slots < 20

theorem not_crowded_of_room (h : Room s) : ¬Crowded kind s.tx.slots := by
  rintro (h24 | ⟨-, h20⟩)
  · exact Nat.not_lt_of_le h24 h.1
  · exact Nat.not_lt_of_le h20 h.2

theorem room_of_not_crowded (h : ¬Crowded kind s.tx.slots) (hc : kindClass kind ≠ 0) : Room s := by
  obtain ⟨h24, h20⟩ := not_or.1 h
  exact ⟨Nat.lt_of_not_le h24, Nat.lt_of_not_le fun h => h20 ⟨hc, h⟩⟩

/-- The scheduler takes a request: it has room, or its class may evict and there is a frame to evict. -/
def Accepts (kind : Nat) (s : State) : Prop :=
  Room s ∨ ((kindClass kind = 1 ∨ kindClass kind = 2) ∧ ∃ x ∈ s.tx.slots, Evictable x)

/-- The state with a tag used up. -/
def tagUsed (c : Nat) (s : State) : State := { s with exch := { s.exch with counter := (c + 1) % 256 } }

/-- A request frame queued: behind the others, or as the scheduler makes room for it. -/
def requestQueued (kind dest c : Nat) (payload : Bytes) (s : State) : State :=
  if s.tx.slots.length < 24 ∧ lowCount s.tx.slots < 20 then
    { tagUsed c s with tx := { s.tx with slots := s.tx.slots ++ [⟨⟨kind, dest, c, payload⟩, 0, 0, false, false⟩] } }
  else (sendFrame ⟨kind, dest, c, payload⟩ (tagUsed c s)).2

theorem offerRequest_room (h : Room s) : offerRequest kind dest c payload s = (true, requestQueued kind dest c payload s) := by
  have htaken := sendFrame_taken (f := ⟨kind, dest, c, payload⟩) (s := tagUsed c s) (not_crowded_of_room h)
  exact htaken.trans (congrArg (Prod.mk true) (if_pos h).symm)

theorem offerRequest_evicts (h : ¬Room s) (hc : kindClass kind = 1 ∨ kindClass kind = 2) (hev : ∃ x ∈ s.tx.slots, Evictable x) :
    offerRequest kind dest c payload s = (true, requestQueued kind dest c payload s) := by
  have h0 : kindClass kind ≠ 0 := by omega
  have hfull : Crowded kind s.tx.slots := Classical.byContradiction fun hn => h (room_of_not_crowded hn h0)
  obtain ⟨x, hx, hev⟩ := hev
  cases hn : evictNewest s.tx.slots with
  | none => exact absurd hev (evictNewest_eq_none_iff.1 hn x hx)
  | some p =>
    obtain ⟨before, y, after, hl, -, hyc, hyw, -, ha⟩ := evictNewest_some hn
    have hsent := sendFrame_evicts (f := ⟨kind, dest, c, payload⟩) (s := tagUsed c s) hfull hc hl ⟨hyc, hyw⟩ ha
    have htrue : (sendFrame ⟨kind, dest, c, payload⟩ (tagUsed c s)).1 = true := congrArg Prod.fst hsent
    exact Prod.ext htrue (if_neg h).symm

theorem offerRequest_accepted (h : Accepts kind s) :
    offerRequest kind dest c payload s = (true, requestQueued kind dest c payload s) := by
  by_cases hr : Room s
  · exact offerRequest_room hr
  · obtain ⟨hc, hev⟩ := h.resolve_left hr
    exact offerRequest_evicts hr hc hev

/-- The exchange opened and its frame queued. -/
def started (kind dest subject share : Nat) (owner : Owner) (payload : Bytes) (c : Nat) (s : State) : State :=
  let sent := requestQueued kind dest c payload s
  { sent with exch := { sent.exch with entries := s.exch.entries ++ [⟨c, kind, dest, subject, share, owner, some 300⟩] } }

/-- A request may be sent there. -/
def Reachable (kind dest : Nat) (s : State) : Prop := kind = Kind.test ∨ isLost s dest = false

theorem openExchange_started (hl : Reachable kind dest s) (he : s.exch.entries.length < 8) (hc : Drawn s c) (h : Accepts kind s) :
    openExchange kind dest subject share owner payload s = (.STARTED, started kind dest subject share owner payload c s) := by
  rw [openExchange_drawn hl he hc, offerRequest_accepted h]
  rfl

theorem openExchange_busy (hl : Reachable kind dest s) (he : 8 ≤ s.exch.entries.length) :
    openExchange kind dest subject share owner payload s = (.BUSY, s) := by
  have hlost : ¬(kind ≠ Kind.test ∧ isLost s dest = true) := by
    rintro ⟨hk, hi⟩
    exact Bool.false_ne_true ((hl.resolve_left hk).symm.trans hi)
  have hfull : exchangeFree s = false := by
    refine Bool.eq_false_iff.2 fun h => ?_
    exact absurd (exchangeFree_iff.1 h) (Nat.not_lt_of_le he)
  rw [openExchange, if_neg hlost, if_pos hfull]

theorem openExchange_linkBusy (hl : Reachable kind dest s) (he : s.exch.entries.length < 8) (hc : Drawn s c)
    (hk : isRequest kind = true) (hfull : Crowded kind s.tx.slots) (hev : kindClass kind = 3 ∨ ∀ x ∈ s.tx.slots, ¬Evictable x) :
    openExchange kind dest subject share owner payload s = (.LINK_BUSY, tagUsed c s) := by
  have hrefused : offerRequest kind dest c payload s = (false, tagUsed c s) := by
    refine (sendFrame_refused (f := ⟨kind, dest, c, payload⟩) (s := tagUsed c s) hfull (.inr hev)).trans ?_
    simp only [hk, if_true]
  rw [openExchange_drawn hl he hc, hrefused]
  rfl

/-! ## The tests on the way to a tab at a peer -/

variable {home tab : Nat} {tests : State → Option Result} {r : Result}

theorem remoteRequest_no_station (h : isStation home = false) :
    remoteRequest home tests kind subject share owner payload s = (.bare .BAD_PARAM, s) := by
  simp only [remoteRequest, h, Bool.not_false, if_true, refuse]

theorem remoteRequest_isolated (h : isStation home = true) (hst : s.station.state = .isolated) :
    remoteRequest home tests kind subject share owner payload s = (.bare .LINK_DOWN, s) := by
  simp only [remoteRequest, h, hst, Bool.not_true, Bool.false_eq_true, if_false, if_true, refuse]

theorem remoteRequest_lost (h : isStation home = true) (hst : s.station.state ≠ .isolated) (hl : isLost s home = true) :
    remoteRequest home tests kind subject share owner payload s = (.bare .HOME_LOST, s) := by
  simp only [remoteRequest, h, if_neg hst, hl, Bool.not_true, Bool.false_eq_true, if_false, if_true, refuse]

theorem remoteRequest_tested (h : isStation home = true) (hst : s.station.state ≠ .isolated) (hl : isLost s home = false)
    (ht : tests s = some r) : remoteRequest home tests kind subject share owner payload s = (.bare r, s) := by
  simp only [remoteRequest, h, if_neg hst, hl, ht, Bool.not_true, Bool.false_eq_true, if_false, refuse]

theorem remoteRequest_opens (h : isStation home = true) (hst : s.station.state ≠ .isolated) (hl : isLost s home = false)
    (ht : tests s = none) :
    remoteRequest home tests kind subject share owner payload s =
      (.bare (openExchange kind home subject share owner payload s).1, (openExchange kind home subject share owner payload s).2) := by
  simp only [remoteRequest, h, if_neg hst, hl, ht, Bool.not_true, Bool.false_eq_true, if_false]

end

/-! ## The commands for a tab at a peer -/

/-- What a command for a tab at a peer asks: its home and subject, its frame, its own tests, and the state its claims entry takes. -/
structure RemoteForm where
  home : Nat
  tab : Nat
  share : Nat
  kind : Nat
  owner : Owner
  payload : Bytes
  tests : State → Option Result
  mark : Option ClaimState

def RemoteForm.of : Instr → Option RemoteForm
  | .add home tab lines send => some ⟨home, tab, 0, Kind.add, .command, eAddPayload tab send lines, fun _ => none, none⟩
  | .lineVoid home tab line => some ⟨home, tab, 0, Kind.lineVoid, .command, e2 tab ++ e1 line, fun _ => none, none⟩
  | .query home tab => some ⟨home, tab, 0, Kind.tabQuery, .command, e2 tab, fun _ => none, none⟩
  | .split home tab count entries => some ⟨home, tab, 0, Kind.split, .command, eSplitPayload tab count entries, fun _ => none, none⟩
  | .withdraw home tab => some ⟨home, tab, 0, Kind.withdraw, .command, e2 tab, fun _ => none, none⟩
  | .claim home tab share => some ⟨home, tab, share, Kind.claim, .claims, e2 tab ++ e1 share, claimTests home tab share, none⟩
  | .settle home tab share tender =>
    some ⟨home, tab, share, Kind.settle, .claims, e2 tab ++ e1 share ++ e1 tender, settleTests home tab share tender, some .settling⟩
  | .releaseShare home tab share =>
    some ⟨home, tab, share, Kind.release, .claims, e2 tab ++ e1 share, heldTests home tab share, some .releasing⟩
  | _ => none

/-- The claims entry takes its state once the request is on its way. -/
def RemoteForm.marked (r : RemoteForm) (u : State) : State :=
  match r.mark with
  | none => u
  | some st => modClaim r.home r.tab r.share (fun x => { x with state := st }) u

/-- The request, and the claims entry marked where it started. -/
def RemoteForm.run (r : RemoteForm) (s : State) : Reply × State :=
  let p := remoteRequest r.home r.tests r.kind r.tab r.share r.owner r.payload s
  match r.mark with
  | none => p
  | some st => markStarted r.home r.tab r.share st p

section
variable {s : State} {c : Instr} {r : RemoteForm} {x : Result} {u : State} {tag : Nat}

theorem RemoteForm.run_refused (h : remoteRequest r.home r.tests r.kind r.tab r.share r.owner r.payload s = (.bare x, u))
    (hx : x ≠ .STARTED) : r.run s = (.bare x, u) := by
  unfold RemoteForm.run
  cases r.mark with
  | none => exact h
  | some st =>
    rw [h]
    exact if_neg hx

theorem RemoteForm.run_started (h : remoteRequest r.home r.tests r.kind r.tab r.share r.owner r.payload s = (.bare .STARTED, u)) :
    r.run s = (.bare .STARTED, r.marked u) := by
  unfold RemoteForm.run RemoteForm.marked
  cases r.mark with
  | none => exact h
  | some st =>
    rw [h]
    exact if_pos rfl

theorem exec_remote (hf : RemoteForm.of c = some r) (h : jobReady c .till s = true) (hne : r.home ≠ own s) :
    exec c s = .next (afterCommand c s (r.run s).1 (r.run s).2) := by
  unfold RemoteForm.of at hf
  split at hf <;> cases hf <;> refine (carryOut_job _ h).trans ?_ <;> simp only [if_neg hne] <;> rfl

theorem exec_remote_refused (hf : RemoteForm.of c = some r) (h : jobReady c .till s = true) (hne : r.home ≠ own s)
    (hr : remoteRequest r.home r.tests r.kind r.tab r.share r.owner r.payload s = (.bare x, u)) (hx : x ≠ .STARTED) :
    exec c s = .next (afterCommand c s (.bare x) u) := by
  rw [exec_remote hf h hne, RemoteForm.run_refused hr hx]

/-- The home is another station, this one is on the concourse, and the home is not LOST. -/
def Elsewhere (home : Nat) (s : State) : Prop :=
  isStation home = true ∧ home ≠ own s ∧ s.station.state = .online ∧ isLost s home = false

theorem not_isolated (h : s.station.state = .online) : s.station.state ≠ .isolated := by rw [h]; decide

/-- A command for a tab at a peer is of class 1 or 2, a request, and no Test. -/
theorem RemoteForm.kind_of (hf : RemoteForm.of c = some r) :
    (kindClass r.kind = 1 ∨ kindClass r.kind = 2) ∧ isRequest r.kind = true := by
  unfold RemoteForm.of at hf
  split at hf <;> cases hf <;> dsimp only <;> decide

theorem exec_remote_starts (hf : RemoteForm.of c = some r) (h : jobReady c .till s = true) (hw : Elsewhere r.home s)
    (ht : r.tests s = none) (he : s.exch.entries.length < 8) (hc : Drawn s tag)
    (ha : Room s ∨ ∃ x ∈ s.tx.slots, Evictable x) :
    exec c s = .next (afterCommand c s (.bare .STARTED)
      (r.marked (started r.kind r.home r.tab r.share r.owner r.payload tag s))) := by
  obtain ⟨hs, hne, hst, hl⟩ := hw
  have hopen := remoteRequest_opens (kind := r.kind) (subject := r.tab) (share := r.share) (owner := r.owner) (payload := r.payload)
    hs (not_isolated hst) hl ht
  rw [openExchange_started (.inr hl) he hc (ha.imp_right fun h => ⟨(RemoteForm.kind_of hf).1, h⟩)] at hopen
  rw [exec_remote hf h hne, RemoteForm.run_started hopen]

theorem exec_remote_tested (hf : RemoteForm.of c = some r) (h : jobReady c .till s = true) (hw : Elsewhere r.home s)
    (ht : r.tests s = some x) (hx : x ≠ .STARTED) : exec c s = .next (afterCommand c s (.bare x) s) := by
  obtain ⟨hs, hne, hst, hl⟩ := hw
  exact exec_remote_refused hf h hne (remoteRequest_tested hs (not_isolated hst) hl ht) hx

theorem exec_remote_busy (hf : RemoteForm.of c = some r) (h : jobReady c .till s = true) (hw : Elsewhere r.home s)
    (ht : r.tests s = none) (he : 8 ≤ s.exch.entries.length) : exec c s = .next (afterCommand c s (.bare .BUSY) s) := by
  obtain ⟨hs, hne, hst, hl⟩ := hw
  refine exec_remote_refused hf h hne ((remoteRequest_opens hs (not_isolated hst) hl ht).trans ?_) (by decide)
  rw [openExchange_busy (.inr hl) he]

theorem exec_remote_linkBusy (hf : RemoteForm.of c = some r) (h : jobReady c .till s = true) (hw : Elsewhere r.home s)
    (ht : r.tests s = none) (he : s.exch.entries.length < 8) (hc : Drawn s tag) (hfull : 24 ≤ s.tx.slots.length ∨ 20 ≤ lowCount s.tx.slots)
    (hnone : ∀ x ∈ s.tx.slots, ¬Evictable x) : exec c s = .next (afterCommand c s (.bare .LINK_BUSY) (tagUsed tag s)) := by
  obtain ⟨hs, hne, hst, hl⟩ := hw
  obtain ⟨hclass, hreq⟩ := RemoteForm.kind_of hf
  have h0 : kindClass r.kind ≠ 0 := by omega
  refine exec_remote_refused hf h hne ((remoteRequest_opens hs (not_isolated hst) hl ht).trans ?_) (by decide)
  rw [openExchange_linkBusy (.inr hl) he hc hreq (hfull.imp_right fun h => ⟨h0, h⟩) (.inr hnone)]

/-! ## The claims list's own tests -/

variable {home tab share tender : Nat} {e : ClaimEntry}

theorem heldTests_held (h : findClaim s home tab share = some e) (hst : e.state = .held) : heldTests home tab share s = none := by
  simp only [heldTests, h, if_pos hst]

theorem heldTests_none (h : findClaim s home tab share = none) : heldTests home tab share s = some .NOT_CLAIMANT := by
  simp only [heldTests, h]

theorem heldTests_busy (h : findClaim s home tab share = some e) (hst : e.state ≠ .held) : heldTests home tab share s = some .BUSY := by
  simp only [heldTests, h, if_neg hst]

theorem settleTests_first {r : Result} (h : heldTests home tab share s = some r) : settleTests home tab share tender s = some r := by
  simp only [settleTests, h]

theorem settleTests_tender (h : heldTests home tab share s = none) (ht : 3 ≤ tender) :
    settleTests home tab share tender s = some .BAD_PARAM := by
  simp only [settleTests, h, ofCode_none_iff.2 ht, Option.isNone_none, if_true]

theorem settleTests_none (h : heldTests home tab share s = none) (ht : tender < 3) : settleTests home tab share tender s = none := by
  obtain ⟨t, ht'⟩ := ofCode_some_iff.2 ht
  simp only [settleTests, h, ht', Option.isNone_some, Bool.false_eq_true, if_false]

theorem claimTests_full (h : findClaim s home tab share = none)
    (hfull : 8 ≤ s.claims.length +
      (s.exch.entries.filter fun x => x.kind == Kind.claim && (findClaim s x.dest x.subject x.share).isNone).length) :
    claimTests home tab share s = some .BUSY := by
  simp only [claimTests, h]
  exact if_pos hfull

theorem claimTests_busy (h : findClaim s home tab share = some e) (hst : e.state ≠ .held) : claimTests home tab share s = some .BUSY := by
  simp only [claimTests, h, if_neg hst]

end

/-! ## Test -/

section
variable {s : State} {dest c : Nat} {payload : Bytes}

theorem testBody_bad (ht : testable s = true) (h : 32 < payload.length ∨ isStation dest = false) :
    testBody dest payload s = (.bare .BAD_PARAM, s) := by
  simp only [testBody, ht, Bool.not_true, Bool.false_eq_true, if_false, if_pos h, refuse]

theorem testBody_self (ht : testable s = true) (hlen : payload.length ≤ 32) (hd : isStation dest = true)
    (h : dest = own s ∧ s.station.state ≠ .loopback) : testBody dest payload s = (.bare .BAD_PARAM, s) := by
  have hok : ¬(32 < payload.length ∨ isStation dest = false) := by simp [hlen, hd]
  simp only [testBody, ht, Bool.not_true, Bool.false_eq_true, if_false, if_neg hok, if_pos h, refuse]

theorem testBody_isolated (ht : testable s = true) (hlen : payload.length ≤ 32) (hd : isStation dest = true)
    (ho : ¬(dest = own s ∧ s.station.state ≠ .loopback)) (hst : s.station.state = .isolated) :
    testBody dest payload s = (.bare .LINK_DOWN, s) := by
  have hok : ¬(32 < payload.length ∨ isStation dest = false) := by simp [hlen, hd]
  simp only [testBody, ht, Bool.not_true, Bool.false_eq_true, if_false, if_neg hok, if_neg ho, if_pos hst, refuse]

theorem testBody_opens (ht : testable s = true) (hlen : payload.length ≤ 32) (hd : isStation dest = true)
    (ho : ¬(dest = own s ∧ s.station.state ≠ .loopback)) (hst : s.station.state ≠ .isolated) :
    testBody dest payload s =
      (.bare (openExchange Kind.test dest 0 0 .command payload s).1, (openExchange Kind.test dest 0 0 .command payload s).2) := by
  have hok : ¬(32 < payload.length ∨ isStation dest = false) := by simp [hlen, hd]
  simp only [testBody, ht, Bool.not_true, Bool.false_eq_true, if_false, if_neg hok, if_neg ho, if_neg hst]

theorem exec_test (h : commandTaken (.test dest payload) s = true) {x : Result} {u : State}
    (hr : testBody dest payload s = (.bare x, u)) :
    exec (.test dest payload) s = .next (afterCommand (.test dest payload) s (.bare x) u) := by
  refine (carryOut_taken (testBody dest payload) h).trans ?_
  rw [hr]

theorem testable_of (h : s.station.state = .loopback ∨ inService s = true) : testable s = true := by
  rcases h with h | h <;> simp [testable, h]

theorem inService_online (h : s.station.state = .online) : inService s = true := by simp [inService, h]

end

/-! ## Refresh of a ticket at a peer -/

section
variable {s : State} {ticket kitchen c : Nat} {t : Ticket} {ks : KState} {x : Result} {u : State}

theorem refreshPeerAt_isolated (h : s.station.state = .isolated) : refreshPeerAt ticket kitchen s = (.bare .LINK_DOWN, s) :=
  if_pos h

theorem refreshPeerAt_opens (h : s.station.state ≠ .isolated) {r : Result}
    (ho : openExchange Kind.ticketQuery kitchen ticket 0 .command (e2 ticket) s = (r, u)) :
    refreshPeerAt ticket kitchen s = (.bare r, u) := by
  simp only [refreshPeerAt, if_neg h, ho]

theorem exec_refresh_peer (h : jobReady (.refresh ticket) .till s = true) (ht : findTicket s ticket = some t)
    (hst : t.state = .placed kitchen ks) (hne : kitchen ≠ own s) (hr : refreshPeerAt ticket kitchen s = (.bare x, u)) :
    exec (.refresh ticket) s = .next (afterCommand (.refresh ticket) s (.bare x) u) := by
  refine (carryOut_job _ h).trans ?_
  simp only [ht, hst, if_neg hne, hr]

end

theorem not_other {s : State} {dest : Nat} :
    ¬(dest ≠ own s ∨ s.station.state = .loopback) ↔ dest = own s ∧ s.station.state ≠ .loopback := by
  rw [not_or, Classical.not_not]

section
variable {s : State} {c : Instr} {home tab : Nat}

/-- The commands for a tab at a peer. -/
def IsRemote (c : Instr) (home tab : Nat) : Prop :=
  (∃ lines send, c = .add home tab lines send) ∨ (∃ line, c = .lineVoid home tab line) ∨ c = .query home tab ∨
    (∃ count entries, c = .split home tab count entries) ∨ c = .withdraw home tab ∨ (∃ share, c = .claim home tab share) ∨
    (∃ share tender, c = .settle home tab share tender) ∨ (∃ share, c = .releaseShare home tab share)

/-- The tests of the command's own, met. -/
def OwnTestsPass (c : Instr) (home tab : Nat) (s : State) : Prop :=
  (∀ share, c = .claim home tab share → claimTests home tab share s = none) ∧
  (∀ share tender, c = .settle home tab share tender → tender < 3 ∧ ∃ e, findClaim s home tab share = some e ∧ e.state = .held) ∧
  (∀ share, c = .releaseShare home tab share → ∃ e, findClaim s home tab share = some e ∧ e.state = .held)

theorem RemoteForm.of_isRemote (h : IsRemote c home tab) :
    ∃ r, RemoteForm.of c = some r ∧ r.home = home ∧ (OwnTestsPass c home tab s → r.tests s = none) := by
  rcases h with ⟨lines, send, rfl⟩ | ⟨line, rfl⟩ | rfl | ⟨count, entries, rfl⟩ | rfl | ⟨share, rfl⟩ | ⟨share, tender, rfl⟩ | ⟨share, rfl⟩
  · exact ⟨_, rfl, rfl, fun _ => rfl⟩
  · exact ⟨_, rfl, rfl, fun _ => rfl⟩
  · exact ⟨_, rfl, rfl, fun _ => rfl⟩
  · exact ⟨_, rfl, rfl, fun _ => rfl⟩
  · exact ⟨_, rfl, rfl, fun _ => rfl⟩
  · exact ⟨_, rfl, rfl, fun hp => hp.1 share rfl⟩
  · refine ⟨_, rfl, rfl, fun ⟨_, hsettle, _⟩ => ?_⟩
    obtain ⟨ht, e, he, hst⟩ := hsettle share tender rfl
    exact settleTests_none (heldTests_held he hst) ht
  · refine ⟨_, rfl, rfl, fun ⟨_, _, hrelease⟩ => ?_⟩
    obtain ⟨e, he, hst⟩ := hrelease share rfl
    exact heldTests_held he hst

/-- The tests every command for a tab at a peer goes through, in their order. -/
theorem exec_remote_refusals (h : jobReady c .till s = true) (hne : home ≠ own s) (hform : IsRemote c home tab) :
    (isStation home = false → exec c s = .next (afterCommand c s (.bare .BAD_PARAM) s)) ∧
    (isStation home = true → s.station.state = .isolated → exec c s = .next (afterCommand c s (.bare .LINK_DOWN) s)) ∧
    (isStation home = true → s.station.state = .online → isLost s home = true →
      exec c s = .next (afterCommand c s (.bare .HOME_LOST) s)) ∧
    (Elsewhere home s →
      (∀ share, c = .claim home tab share → claimTests home tab share s = none) →
      (∀ share tender, c = .settle home tab share tender → tender < 3 ∧ ∃ e, findClaim s home tab share = some e ∧ e.state = .held) →
      (∀ share, c = .releaseShare home tab share → ∃ e, findClaim s home tab share = some e ∧ e.state = .held) →
      (8 ≤ s.exch.entries.length → exec c s = .next (afterCommand c s (.bare .BUSY) s)) ∧
      (∀ tag, s.exch.entries.length < 8 ∧ Drawn s tag → 24 ≤ s.tx.slots.length ∨ 20 ≤ lowCount s.tx.slots →
        (∀ x ∈ s.tx.slots, ¬Evictable x) → exec c s = .next (afterCommand c s (.bare .LINK_BUSY) (tagUsed tag s)))) := by
  obtain ⟨r, hf, rfl, htests⟩ := RemoteForm.of_isRemote (s := s) hform
  refine ⟨fun hs => ?_, fun hs hiso => ?_, fun hs hon hl => ?_, fun hw hclaim hsettle hrelease => ⟨fun he => ?_,
    fun tag hfree hfull hnone => ?_⟩⟩
  · exact exec_remote_refused hf h hne (remoteRequest_no_station hs) (by decide)
  · exact exec_remote_refused hf h hne (remoteRequest_isolated hs hiso) (by decide)
  · exact exec_remote_refused hf h hne (remoteRequest_lost hs (not_isolated hon) hl) (by decide)
  · exact exec_remote_busy hf h hw (htests ⟨hclaim, hsettle, hrelease⟩) he
  · exact exec_remote_linkBusy hf h hw (htests ⟨hclaim, hsettle, hrelease⟩) hfree.1 hfree.2 hfull hnone

end

/-- Settles O37: each command opens its exchange, or stops at the first test it fails. -/
theorem remoteRequestsStart : Obligations.RemoteRequestsStart := by
  unfold Obligations.RemoteRequestsStart
  intro drawn free room evicts started' elsewhere crowded noneToEvict tagUsed'
  have hstarted : started' = started := rfl
  rw [hstarted]
  clear hstarted started'
  refine ⟨fun dest payload c s hfree hroom h hlen hd hst => ?_, fun home tab c s hfree hroom hw => ?_,
    fun c home tab s h hne hform => ?_, fun dest payload s h hst => ?_, fun ticket kitchen t ks s h ht hst hne => ?_,
    fun home tab share s hw => ?_⟩
  · have htest : testable s = true := testable_of (hst.imp_right fun h => inService_online h.1)
    have hother : ¬(dest = own s ∧ s.station.state ≠ .loopback) := by
      rintro ⟨ho, hl⟩
      exact (hst.resolve_left hl).2 ho
    have hiso : s.station.state ≠ .isolated := by rcases hst with h | ⟨h, -⟩ <;> rw [h] <;> decide
    refine exec_test h ((testBody_opens htest hlen hd hother hiso).trans ?_)
    rw [openExchange_started (.inl rfl) hfree.1 hfree.2 (.inl hroom)]
  · obtain ⟨he, hc⟩ := hfree
    refine ⟨fun lines send h => ?_, fun line h => ?_, fun h => ?_, fun count entries h => ?_, fun h => ?_, fun share h ht => ?_,
      fun share tender e h hclaim hheld htender => ?_, fun share e h hclaim hheld => ?_, fun ticket r ks h ht hst => ?_⟩
    · have hf : RemoteForm.of (.add home tab lines send) = some _ := rfl
      exact exec_remote_starts hf h hw rfl he hc hroom
    · have hf : RemoteForm.of (.lineVoid home tab line) = some _ := rfl
      exact exec_remote_starts hf h hw rfl he hc hroom
    · have hf : RemoteForm.of (.query home tab) = some _ := rfl
      exact exec_remote_starts hf h hw rfl he hc hroom
    · have hf : RemoteForm.of (.split home tab count entries) = some _ := rfl
      exact exec_remote_starts hf h hw rfl he hc hroom
    · have hf : RemoteForm.of (.withdraw home tab) = some _ := rfl
      exact exec_remote_starts hf h hw rfl he hc hroom
    · have hf : RemoteForm.of (.claim home tab share) = some _ := rfl
      exact exec_remote_starts hf h hw ht he hc hroom
    · have hf : RemoteForm.of (.settle home tab share tender) = some _ := rfl
      exact exec_remote_starts hf h hw
        (settleTests_none (heldTests_held hclaim hheld) htender) he hc hroom
    · have hf : RemoteForm.of (.releaseShare home tab share) = some _ := rfl
      exact exec_remote_starts hf h hw (heldTests_held hclaim hheld) he hc hroom
    · obtain ⟨-, hne, honline, hl⟩ := hw
      refine exec_refresh_peer h ht hst hne (refreshPeerAt_opens (not_isolated honline) ?_)
      exact openExchange_started (.inr hl) he hc (hroom.imp_right fun h => ⟨.inr rfl, h⟩)
  · exact exec_remote_refusals h hne hform
  · have htest := testable_of hst
    refine ⟨fun hbad => exec_test h (testBody_bad htest hbad), fun hlen hd => ⟨fun ho => ?_, fun ho hiso => ?_, fun ho hiso he => ?_,
      fun tag ho hiso hfree hfull => ?_⟩⟩
    · exact exec_test h (testBody_self htest hlen hd (not_other.1 ho))
    · exact exec_test h (testBody_isolated htest hlen hd (fun hs => not_other.2 hs ho) hiso)
    · refine exec_test h ((testBody_opens htest hlen hd (fun hs => not_other.2 hs ho) hiso).trans ?_)
      rw [openExchange_busy (.inl rfl) he]
    · refine exec_test h ((testBody_opens htest hlen hd (fun hs => not_other.2 hs ho) hiso).trans ?_)
      rw [openExchange_linkBusy (.inl rfl) hfree.1 hfree.2 (by decide) (hfull.imp_right fun h => ⟨by decide, h⟩) (.inl (by decide))]
      rfl
  · have hrun : ∀ {r u}, refreshPeerAt ticket kitchen s = (.bare r, u) →
        exec (.refresh ticket) s = .next (afterCommand (.refresh ticket) s (.bare r) u) := exec_refresh_peer h ht hst hne
    refine ⟨fun hiso => hrun (refreshPeerAt_isolated hiso), fun hon hl => hrun (refreshPeerAt_opens (not_isolated hon) ?_),
      fun hon hl => ⟨fun he => hrun (refreshPeerAt_opens (not_isolated hon) (openExchange_busy (.inr hl) he)),
        fun tag hfree hfull hnone => hrun (refreshPeerAt_opens (not_isolated hon) ?_)⟩⟩
    · exact openExchange_lost (by decide) hl
    · exact openExchange_linkBusy (.inr hl) hfree.1 hfree.2 (by decide) (hfull.imp_right fun h => ⟨by decide, h⟩) (.inr hnone)
  · refine ⟨fun h => ⟨fun hn hfull => ?_, fun e he hst => ?_⟩, fun h => ⟨fun hn => ?_, fun e he hst => ?_⟩,
      fun tender h => ⟨fun hn => ?_, fun e he => ⟨fun hst => ?_, fun hst ht => ?_⟩⟩⟩
    · exact exec_remote_tested rfl h hw (claimTests_full hn hfull) (by decide)
    · exact exec_remote_tested rfl h hw (claimTests_busy he hst) (by decide)
    · exact exec_remote_tested rfl h hw (heldTests_none hn) (by decide)
    · exact exec_remote_tested rfl h hw (heldTests_busy he hst) (by decide)
    · exact exec_remote_tested rfl h hw (settleTests_first (heldTests_none hn)) (by decide)
    · exact exec_remote_tested rfl h hw (settleTests_first (heldTests_busy he hst)) (by decide)
    · exact exec_remote_tested rfl h hw (settleTests_tender (heldTests_held he hst) ht)
        (by decide)

end Sys2Proof.Machine
end

section
/-! How an exchange ends: the TEST and ANSWER frames, the requests nobody serves, and what each owner makes of an answer (R83 to R86, R91,
R92, R163, R167 to R170). -/

namespace Sys2Proof.Machine

section
variable {s : State} {f : Frame} {rest : List Frame} {a : AnswerRec}

/-! ## TEST and requests nobody serves -/

theorem exec_testFrame (h : frameReady Kind.test f rest s = true) (ht : testable s = true) :
    exec .testFrame s =
      .next (afterFrame s (sendAnswer f.source Kind.test f.tag 0 0 (testEcho f.payload) (popped rest s))) := by
  refine (deliver_runs _ h).trans ?_
  have ht' : testable (popped rest s) = true := ht
  simp only [if_pos ht']

theorem exec_testFrame_idle (h : frameReady Kind.test f rest s = true) (ht : testable s = false) :
    exec .testFrame s = .next (afterFrame s (popped rest s)) := by
  refine (deliver_runs _ h).trans ?_
  have ht' : testable (popped rest s) = false := ht
  simp only [ht', Bool.false_eq_true, if_false]

theorem layoutOk_of_frameReady {kind : Nat} (h : frameReady kind f rest s = true) : f.kind = kind ∧ layoutOk kind f.tag f.payload = true := by
  simp only [frameReady, deliverable, Bool.and_eq_true, beq_iff_eq] at h
  obtain ⟨⟨-, hk⟩, -, hl⟩ := h
  exact ⟨hk, hk ▸ hl⟩

/-- A request the station does not serve is answered NOT_SERVED in service, and dropped out of it. -/
theorem request_unserved {α : Type} {kind : Nat} {role : Role} {r : Reader α} {subject share : α → Nat}
    {block : Frame → α → Answering → State → State} {x : α} (h : frameReady kind f rest s = true) (hx : r.exact f.payload = some x) :
    (inService s = true → hasRole s role = false →
      event (request kind r role subject share block) s =
        .next (afterRequest s f (subject x) (share x) (.bare .NOT_SERVED) (popped rest s))) ∧
    (inService s = false → event (request kind r role subject share block) s = .next (afterFrame s (popped rest s))) := by
  refine ⟨fun hs hr => ?_, fun hs => ?_⟩
  · have hs' : inService (popped rest s) = true := hs
    have hr' : hasRole (popped rest s) role = false := by cases role <;> exact hr
    refine (deliver_runs _ h).trans ?_
    simp only [hx, serve, hs', hr', Bool.not_true, Bool.false_eq_true, if_false]
    rfl
  · have hs' : inService (popped rest s) = false := hs
    refine (deliver_runs _ h).trans ?_
    simp only [hx, serve, hs', Bool.not_false, if_true]

end

/-! ## The subject and the share a request begins with -/

section
variable {a b : Byte} {tail : Bytes}

theorem n2_cons (a b : Byte) (tail : Bytes) : Reader.n2 (a :: b :: tail) = some (a.toNat * 256 + b.toNat, tail) := rfl

theorem run_some {α : Type} {r : Reader α} {bs : Bytes} {x : α} (h : r.exact bs = some x) : ∃ left, r bs = some (x, left) := by
  simp only [Reader.exact, Reader.run] at h
  cases hr : r bs with
  | none => simp [hr] at h
  | some p =>
    simp only [hr] at h
    split at h
    · cases h
      exact ⟨p.2, rfl⟩
    · cases h

/-- A reader that begins with a two-byte field and keeps it. -/
def Leads {α : Type} (r : Reader α) (subject : α → Nat) : Prop :=
  ∀ a b tail x, r.exact (a :: b :: tail) = some x → subject x = a.toNat * 256 + b.toNat

theorem leads_bind {α : Type} {k : Nat → Reader α} {subject : α → Nat}
    (h : ∀ n bs x left, k n bs = some (x, left) → subject x = n) : Leads (Reader.n2 >>= k) subject := by
  intro a b tail x hx
  obtain ⟨left, hread⟩ := run_some hx
  rw [reader_step (n2_cons a b tail)] at hread
  exact h _ _ _ _ hread

theorem leads_n2 : Leads Reader.n2 id := fun a b tail x hx => by
  obtain ⟨left, hread⟩ := run_some hx
  rw [n2_cons] at hread
  cases hread
  rfl

theorem bind_some {α β : Type} {r : Reader α} {k : α → Reader β} {bs left : Bytes} {x : β} (h : (r >>= k) bs = some (x, left)) :
    ∃ y bs', k y bs' = some (x, left) := by
  rw [reader_bind] at h
  obtain ⟨p, -, hk⟩ := Option.bind_eq_some_iff.1 h
  exact ⟨p.1, p.2, hk⟩

theorem leads_tabByte : Leads rTabByte (·.1) := leads_bind fun n bs x left h => by
  obtain ⟨_, _, h⟩ := bind_some h
  cases h
  rfl

theorem leads_tabShareByte : Leads rTabShareByte (·.1) := leads_bind fun n bs x left h => by
  obtain ⟨_, _, h⟩ := bind_some h
  obtain ⟨_, _, h⟩ := bind_some h
  cases h
  rfl

theorem leads_add : Leads rAdd (·.tab) := leads_bind fun n bs x left h => by
  obtain ⟨_, _, h⟩ := bind_some h
  obtain ⟨_, _, h⟩ := bind_some h
  cases h
  rfl

theorem leads_split : Leads rSplit (·.tab) := leads_bind fun n bs x left h => by
  obtain ⟨_, _, h⟩ := bind_some h
  obtain ⟨_, _, h⟩ := bind_some h
  cases h
  rfl

theorem leads_ticketVoid : Leads rTicketVoid (·.1) := leads_bind fun n bs x left h => by
  obtain ⟨_, _, h⟩ := bind_some h
  cases h
  rfl

theorem leads_offer : Leads rOffer (·.ticket) := leads_bind fun n bs x left h => by
  obtain ⟨_, _, h⟩ := bind_some h
  obtain ⟨_, _, h⟩ := bind_some h
  obtain ⟨_, _, h⟩ := bind_some h
  obtain ⟨_, _, h⟩ := bind_some h
  cases h
  rfl

theorem n1_head {bs left : Bytes} {n : Nat} (h : Reader.n1 bs = some (n, left)) : n = (bs.headD 0#8).toNat := by
  cases bs with
  | nil => cases h
  | cons c bs =>
    rw [n1_cons] at h
    cases h
    rfl

/-- The byte after the two-byte field is the share. -/
theorem share_bind {α : Type} {k : Nat → Nat → Reader α} {share : α → Nat} (h : ∀ n m bs x left, k n m bs = some (x, left) → share x = m)
    {x : α} (hx : (Reader.n2 >>= fun n => Reader.n1 >>= k n).exact (a :: b :: tail) = some x) : share x = (tail.headD 0#8).toNat := by
  obtain ⟨left, hread⟩ := run_some hx
  rw [reader_step (n2_cons a b tail), reader_bind] at hread
  obtain ⟨p, hp, hk⟩ := Option.bind_eq_some_iff.1 hread
  rw [h _ _ _ _ _ hk, ← n1_head hp]

theorem share_tabByte {x : Nat × Nat} (hx : rTabByte.exact (a :: b :: tail) = some x) : x.2 = (tail.headD 0#8).toNat :=
  share_bind (k := fun n m => pure (n, m)) (fun n m bs x left h => by cases h; rfl) hx

theorem share_tabShareByte {x : Nat × Nat × Nat} (hx : rTabShareByte.exact (a :: b :: tail) = some x) :
    x.2.1 = (tail.headD 0#8).toNat :=
  share_bind (k := fun n m => Reader.n1 >>= fun y => pure (n, m, y)) (share := (·.2.1))
    (fun n m bs x left h => by obtain ⟨_, _, h⟩ := bind_some h; cases h; rfl) hx

/-- What an unserved request of a kind is answered, by the bytes it begins with. -/
theorem unserved {α : Type} {kind : Nat} {role : Role} {r : Reader α} {subject share : α → Nat}
    {block : Frame → α → Answering → State → State} {f : Frame} {rest : List Frame} {s : State} {sh : Nat}
    (h : frameReady kind f rest s = true) (hp : f.payload = a :: b :: tail)
    (hl : layoutOk kind f.tag f.payload = (r.exact f.payload).isSome) (hsub : Leads r subject)
    (hshare : ∀ x, r.exact (a :: b :: tail) = some x → share x = sh) :
    (inService s = true → hasRole s role = false →
      event (request kind r role subject share block) s =
        .next (afterRequest s f (a.toNat * 256 + b.toNat) sh (.bare .NOT_SERVED) (popped rest s))) ∧
    (inService s = false → event (request kind r role subject share block) s = .next (afterFrame s (popped rest s))) := by
  have hok := hl.symm.trans (layoutOk_of_frameReady h).2
  obtain ⟨x, hx⟩ := Option.isSome_iff_exists.1 hok
  have hrun := request_unserved (subject := subject) (share := share) (block := block) (role := role) h hx
  rw [hp] at hx
  rwa [hsub a b tail x hx, hshare x hx] at hrun

end

/-! ## Frames that are dropped -/

section
variable {s : State} {f : Frame} {rest : List Frame} {a : AnswerRec}

theorem exec_ticketStateFrame_no_till (h : frameReady Kind.ticketState f rest s = true) (hr : hasRole s .till = false) :
    exec .ticketStateFrame s = .next (afterFrame s (popped rest s)) := by
  have hr' : hasRole (popped rest s) .till = false := hr
  refine (deliver_runs _ h).trans ?_
  simp only [hr', Bool.and_false, Bool.false_and, Bool.false_eq_true, if_false]
  split <;> rfl

theorem exec_stockFrame_no_till (h : frameReady Kind.stock f rest s = true) (hr : hasRole s .till = false) :
    exec .stockFrame s = .next (afterFrame s (popped rest s)) := by
  have hr' : hasRole (popped rest s) .till = false := hr
  refine (deliver_runs _ h).trans ?_
  simp only [hr', Bool.and_false, Bool.false_and, Bool.false_eq_true, if_false]
  split
  · split <;> rfl
  · rfl

theorem exec_claimEndFrame_no_till (h : frameReady Kind.claimEnd f rest s = true) (hr : hasRole s .till = false) :
    exec .claimEndFrame s = .next (afterFrame s (popped rest s)) := by
  have hr' : hasRole (popped rest s) .till = false := hr
  refine (deliver_runs _ h).trans ?_
  simp only [hr', Bool.and_false, Bool.false_eq_true, if_false]
  split
  · split <;> rfl
  · rfl

/-! ## An ANSWER -/

/-- What an ANSWER is about is what an entry waits for. -/
def Answers (a : AnswerRec) (e : ExchEntry) : Prop :=
  e.dest = a.source ∧ e.tag = a.tag ∧ e.kind = a.kind ∧ e.subject = a.subject ∧ e.share = a.share

theorem matches_iff {e : ExchEntry} : e.matches a = true ↔ Answers a e := by
  simp only [ExchEntry.matches, Answers, Bool.and_eq_true, beq_iff_eq, and_assoc]

theorem matchEntry_none (h : ∀ e ∈ s.exch.entries, ¬Answers a e) : matchEntry a s = none :=
  List.find?_eq_none.2 fun e he hm => h e he (matches_iff.1 hm)

theorem matchEntry_some {before after : List ExchEntry} {e : ExchEntry} (hl : s.exch.entries = before ++ e :: after) (he : Answers a e)
    (hu : ∀ x ∈ before ++ after, x.tag ≠ e.tag) : matchEntry a s = some e := by
  refine find_first hl (matches_iff.2 he) fun x hx => Bool.eq_false_iff.2 fun hm => ?_
  obtain ⟨-, htag, -⟩ := matches_iff.1 hm
  obtain ⟨-, htag', -⟩ := he
  exact hu x (List.mem_append_left _ hx) (htag.trans htag'.symm)

theorem freeEntry_eq {before after : List ExchEntry} {e : ExchEntry} (hl : s.exch.entries = before ++ e :: after)
    (hu : ∀ x ∈ before ++ after, x.tag ≠ e.tag) : freeEntry e.tag s = { s with exch := { s.exch with entries := before ++ after } } := by
  have hkeep : ∀ l : List ExchEntry, (∀ x ∈ l, x.tag ≠ e.tag) → l.filter (·.tag != e.tag) = l := fun l hk =>
    List.filter_eq_self.2 fun x hx => bne_iff_ne.2 (hk x hx)
  have hfilter : s.exch.entries.filter (·.tag != e.tag) = before ++ after := by
    rw [hl, List.filter_append, List.filter_cons_of_neg (by simp), hkeep before fun x hx => hu x (List.mem_append_left _ hx),
      hkeep after fun x hx => hu x (List.mem_append_right _ hx)]
  simp only [freeEntry, hfilter]

theorem exec_answerFrame_idle (h : frameReady Kind.answer f rest s = true) (ht : testable s = false) :
    exec .answerFrame s = .next (afterFrame s (popped rest s)) := by
  refine (deliver_runs _ h).trans ?_
  have ht' : testable (popped rest s) = false := ht
  simp only [ht', Bool.false_eq_true, if_false]
  split <;> rfl

theorem exec_answerFrame_matched {before after : List ExchEntry} {e : ExchEntry} (h : frameReady Kind.answer f rest s = true)
    (ht : testable s = true) (hp : parseAnswer f.source f.payload = some a) (hl : s.exch.entries = before ++ e :: after)
    (he : Answers a e) (hu : ∀ x ∈ before ++ after, x.tag ≠ e.tag) :
    exec .answerFrame s =
      .next (afterFrame s (handOutcome e a { popped rest s with exch := { s.exch with entries := before ++ after } })) := by
  refine (deliver_runs _ h).trans ?_
  have ht' : testable (popped rest s) = true := ht
  simp only [hp, if_pos ht', matchEntry_some (s := popped rest s) hl he hu, freeEntry_eq (s := popped rest s) hl hu]
  rfl

theorem exec_answerFrame_late (h : frameReady Kind.answer f rest s = true) (ht : testable s = true)
    (hp : parseAnswer f.source f.payload = some a) (hn : ∀ e ∈ s.exch.entries, ¬Answers a e) :
    exec .answerFrame s = .next (afterFrame s (lateAnswer a (popped rest s))) := by
  refine (deliver_runs _ h).trans ?_
  have ht' : testable (popped rest s) = true := ht
  simp only [hp, if_pos ht', matchEntry_none (s := popped rest s) hn]

theorem lateAnswer_no_request (h : isRequest a.kind = false) : lateAnswer a s = s := by
  simp only [lateAnswer, h, Bool.not_false, if_true]

theorem lateAnswer_ticket (h : isRequest a.kind = true) (hk : a.kind = Kind.ticket) : lateAnswer a s = lateEffect a s := by
  simp only [lateAnswer, h, Bool.not_true, Bool.false_eq_true, if_false, if_pos hk]

theorem lateAnswer_posts (h : isRequest a.kind = true) (hk : a.kind ≠ Kind.ticket) :
    lateAnswer a s = post (.lateAnswer a) (lateEffect a s) := by
  simp only [lateAnswer, h, Bool.not_true, Bool.false_eq_true, if_false, if_neg hk]

theorem exec_exchangeTimeout {before after : List ExchEntry} {e : ExchEntry} (hr : s.station.inReset = false)
    (hd : s.station.state ≠ .duplicate) (hl : s.exch.entries = before ++ e :: after) (hu : ∀ x ∈ before ++ after, x.tag ≠ e.tag)
    (ht : e.timer.isSome = true) :
    exec (.exchangeTimeout e.tag) s =
      .next (afterEvent s (handOutcome e ⟨e.dest, e.kind, e.tag, e.subject, e.share, Result.NO_ANSWER.code, []⟩
        { s with exch := { s.exch with entries := before ++ after } })) := by
  have hfind : s.exch.entries.find? (·.tag == e.tag) = some e :=
    find_first hl (beq_self_eq_true _) fun x hx => beq_eq_false_iff_ne.2 (hu x (List.mem_append_left _ hx))
  have ht' : isPending e.timer = true := ht
  refine (event_runs _ hr).trans ?_
  rw [exchangeExpiry, if_neg hd]
  simp only [hfind, if_pos ht', freeEntry_eq hl hu]
  rfl

end

end Sys2Proof.Machine
end

section
/-! What each owner of an exchange makes of its outcome (R83 to R86, R91, R92, R167 to R170). -/

namespace Sys2Proof.Machine

section
variable {s : State} {e : ExchEntry} {a : AnswerRec}

theorem is_iff {r : Result} : a.is r = true ↔ a.result = r.code := beq_iff_eq

theorem handOutcome_command (h : e.owner = .command) : handOutcome e a s = commandOutcome a s := by simp only [handOutcome, h]

theorem handOutcome_offer (h : e.owner = .offer) : handOutcome e a s = offerOutcome a s := by simp only [handOutcome, h]

theorem handOutcome_void {purpose : VoidPurpose} {tab : Nat} {lines : List Nat} (h : e.owner = .void purpose tab lines) :
    handOutcome e a s = voidEnd ⟨e.dest, e.subject, tab, lines, purpose⟩ (voidAnswerOf a) s := by
  simp only [handOutcome, h]

/-! ## A local command's outcome -/

theorem commandOutcome_add (h : a.kind = Kind.add) : commandOutcome a s = post (.addResult a) s := by rw [commandOutcome, h]; rfl

theorem commandOutcome_lineVoid (h : a.kind = Kind.lineVoid) :
    commandOutcome a s = post (.lineVoidResult a) (if a.result = Result.OK.code then countLineVoided s else s) := by
  simp only [commandOutcome, h, is_iff]
  rfl

theorem commandOutcome_query (h : a.kind = Kind.tabQuery) : commandOutcome a s = post (.queryResult a) s := by
  rw [commandOutcome, h]; rfl

theorem commandOutcome_split (h : a.kind = Kind.split) : commandOutcome a s = post (.splitResult a) s := by
  rw [commandOutcome, h]; rfl

theorem commandOutcome_withdraw (h : a.kind = Kind.withdraw) : commandOutcome a s = post (.withdrawResult a) s := by
  rw [commandOutcome, h]; rfl

theorem commandOutcome_test (h : a.kind = Kind.test) : commandOutcome a s = post (.testResult a) s := by
  rw [commandOutcome, h]; rfl

theorem commandOutcome_refresh (h : a.kind = Kind.ticketQuery) : commandOutcome a s = refreshAnswer a s := by
  rw [commandOutcome, h]; rfl

theorem refreshAnswer_view {place position depth : Nat} {lines : List (Nat × Nat)} (h : a.result = Result.OK.code)
    (hd : rQueryAnswer.exact a.data = some (place, position, depth, lines)) :
    refreshAnswer a s = post (.refreshResult a) (applyView a.subject a.source place ((lines.filter fun l => l.2 == 1).map (·.1)) s) := by
  simp only [refreshAnswer, is_of_result h, hd, if_true]
  rfl

theorem refreshAnswer_unknown (h : a.result = Result.UNKNOWN.code) :
    refreshAnswer a s = post (.refreshResult a) (applyUnknown a.subject a.source s) := by
  have hok : a.result ≠ Result.OK.code := h ▸ by decide
  simp only [refreshAnswer, is_eq_false hok, is_of_result h, Bool.false_eq_true, if_false, if_true]

theorem refreshAnswer_other (h1 : a.result ≠ Result.OK.code) (h2 : a.result ≠ Result.UNKNOWN.code) :
    refreshAnswer a s = post (.refreshResult a) s := by
  simp only [refreshAnswer, is_eq_false h1, is_eq_false h2, Bool.false_eq_true, if_false]

theorem placedAt_iff {t : Ticket} {k : Nat} : t.placedAt k = true ↔ ∃ ks, t.state = .placed k ks := by
  unfold Ticket.placedAt
  split
  · rename_i k' ks h
    rw [h, beq_iff_eq]
    exact ⟨fun hk => ⟨ks, hk ▸ rfl⟩, fun ⟨_, hk⟩ => by cases hk; rfl⟩
  · rename_i h
    exact ⟨(fun h => nomatch h), fun ⟨ks, hk⟩ => absurd hk (h k ks)⟩

theorem applyUnknown_placed {n k : Nat} {t : Ticket} {ks : KState} (ht : findTicket s n = some t) (hst : t.state = .placed k ks) :
    applyUnknown n k s = endTicket t .lost s := by
  simp only [applyUnknown, ht, if_pos (placedAt_iff.2 ⟨ks, hst⟩)]

theorem applyUnknown_elsewhere {n k : Nat} (h : ∀ t ks, findTicket s n = some t → t.state ≠ .placed k ks) : applyUnknown n k s = s := by
  unfold applyUnknown
  split
  · rfl
  · rename_i t ht
    refine if_neg fun hp => ?_
    obtain ⟨ks, hst⟩ := placedAt_iff.1 hp
    exact h t ks ht hst

/-! ## An offer's outcome -/

theorem offerOutcome_accept {position depth : Nat} (h : a.result = Result.ACCEPT.code)
    (hd : rAccept.exact a.data = some (position, depth)) : offerOutcome a s = takeAccept ownVoid a.subject a.source depth s := by
  simp only [offerOutcome, is_of_result h, acceptDepth, hd, if_true]
  rfl

theorem offerOutcome_failed (h : a.result ≠ Result.ACCEPT.code) : offerOutcome a s = failOffer a.subject a.source s := by
  simp only [offerOutcome, is_eq_false h, Bool.false_eq_true, if_false]

section
variable {own' : OwnVoid} {n k depth : Nat} {t : Ticket}

theorem takeAccept_none (h : findTicket s n = none) : takeAccept own' n k depth s = requestVoid own' ⟨k, n, 0, [], .stray⟩ s := by
  simp only [takeAccept, h]

theorem takeAccept_offered (h : findTicket s n = some t) (hst : t.state = .offered k) :
    takeAccept own' n k depth s = placeTicket own' t k (some depth) false s := by
  simp only [takeAccept, h, hst, if_true]

theorem takeAccept_placed {ks : KState} (h : findTicket s n = some t) (hst : t.state = .placed k ks) :
    takeAccept own' n k depth s = recordDepth k depth s := by
  simp only [takeAccept, h, hst, if_true]

theorem takeAccept_stray (h : findTicket s n = some t) (ho : t.state ≠ .offered k) (hp : ∀ ks, t.state ≠ .placed k ks) :
    takeAccept own' n k depth s = strayVoid own' t k s := by
  simp only [takeAccept, h]
  split
  · rename_i k' hk
    rw [if_neg]
    rintro rfl
    exact ho hk
  · rename_i k' ks hk
    rw [if_neg]
    rintro rfl
    exact hp ks hk
  · rfl

theorem takeLateAccept_none (h : findTicket s n = none) :
    takeLateAccept own' n k depth s = requestVoid own' ⟨k, n, 0, [], .stray⟩ s := by
  simp only [takeLateAccept, h]

theorem takeLateAccept_placed {ks : KState} (h : findTicket s n = some t) (hst : t.state = .placed k ks) :
    takeLateAccept own' n k depth s = recordDepth k depth s := by
  simp only [takeLateAccept, h, hst, if_true]

theorem takeLateAccept_stray {k' : Nat} {ks : KState} (h : findTicket s n = some t) (hst : t.state = .placed k' ks) (hk : k' ≠ k) :
    takeLateAccept own' n k depth s = strayVoid own' t k s := by
  simp only [takeLateAccept, h, hst, if_neg hk]

theorem takeLateAccept_places (h : findTicket s n = some t) (hp : ∀ k' ks, t.state ≠ .placed k' ks) :
    takeLateAccept own' n k depth s = placeTicket own' t k (some depth) true s := by
  cases hst : t.state with
  | placed k' ks => exact absurd hst (hp k' ks)
  | _ => simp only [takeLateAccept, h, hst]

end

/-! ## A placement -/

theorem filter_mapIf {α : Type} {p q : α → Bool} {f : α → α} (h : ∀ x, q x = true → p x = false ∧ p (f x) = false) (l : List α) :
    (mapIf q f l).filter p = l.filter p := by
  induction l with
  | nil => rfl
  | cons x l ih =>
    have hc : mapIf q f (x :: l) = (if q x = true then f x else x) :: mapIf q f l := rfl
    by_cases hx : q x = true
    · obtain ⟨h1, h2⟩ := h x hx
      rw [hc, if_pos hx, List.filter_cons_of_neg (by simp [h2]), List.filter_cons_of_neg (by simp [h1]), ih]
    · rw [hc, if_neg hx, List.filter_cons, List.filter_cons, ih]

theorem mapIf_mapIf {α : Type} {p : α → Bool} {f g : α → α} (h : ∀ x, p x = true → p (f x) = true) (l : List α) :
    mapIf p g (mapIf p f l) = mapIf p (fun x => g (f x)) l := by
  simp only [mapIf, List.map_map]
  refine List.map_congr_left fun x _ => ?_
  by_cases hx : p x = true
  · simp [hx, h x hx]
  · simp [hx]

/-- The load figures a placement leaves in the kitchen's entry. -/
def placedFigures (depth : Option Nat) (l : KitchenLoad) : KitchenLoad :=
  { l with
    depth := match depth with
      | some d => min d 48
      | none => l.depth
    placed := min (l.placed + 1) 255 }

/-- A record placed, with its waiting lines QUEUED and the load figures risen. -/
def placedAtKitchen (t : Ticket) (k : Nat) (depth : Option Nat) (s : State) : State :=
  modPeer k (fun p => { p with load := p.load.map (placedFigures depth) })
    (moveLines t.tab t.lines (fun st => st == .pending || st == .unrouted) .queued
      (modTicket t.number (fun r => { r with state := .placed k .queued }) s))

theorem modPeer_modPeer {k : Nat} {f : Peer → Peer} (hf : ∀ p, (f p).station = p.station) (g : Peer → Peer) (u : State) :
    modPeer k g (modPeer k f u) = modPeer k (fun p => g (f p)) u := by
  have hentries : mapIf (·.station == k) g (mapIf (·.station == k) f u.dir.entries) = _ :=
    mapIf_mapIf (p := fun p : Peer => p.station == k) (f := f) (g := g) (fun p h => by rwa [hf]) u.dir.entries
  simp only [modPeer, hentries]

theorem recordPlaced_recordDepth (k d : Nat) (u : State) :
    recordPlaced k (recordDepth k d u) = modPeer k (fun p => { p with load := p.load.map (placedFigures (some d)) }) u := by
  refine (modPeer_modPeer (f := fun p => { p with load := p.load.map fun l => { l with depth := min d 48 } }) (fun _ => rfl) _ u).trans ?_
  refine congrArg (fun g => modPeer k g u) (funext fun p => congrArg (fun l => { p with load := l }) ?_)
  cases p.load <;> rfl

theorem recordPlaced_alone (k : Nat) (u : State) :
    recordPlaced k u = modPeer k (fun p => { p with load := p.load.map (placedFigures none) }) u := rfl

/-- The VOID lines a placement asks for are those the tab shows before it. -/
theorem linesToVoid_moved (t : Ticket) (late : Bool) {p : LineState → Bool} {dst : LineState} (hp : p .void = false) (hd : dst ≠ .void)
    {u : State} (hu : u.tabs = (moveLines t.tab t.lines p dst s).tabs) : linesToVoid u t late = linesToVoid s t late := by
  have hfind : findTab u t.tab = (findTab s t.tab).map fun x =>
      { x with lines := mapIf (fun l => t.lines.contains l.number && p l.state) (fun l => { l with state := dst }) x.lines } := by
    refine (findTab_of_tabs hu _).trans (findTab_modTab t.tab _ ?_ s)
    exact fun _ => rfl
  have hd' : (dst == LineState.void) = false := beq_eq_false_iff_ne.2 hd
  unfold linesToVoid
  rw [hfind]
  cases findTab s t.tab with
  | none => rfl
  | some x =>
    simp only [Option.map_some]
    rw [filter_mapIf]
    intro l hl
    obtain ⟨-, hpl⟩ := Bool.and_eq_true_iff.1 hl
    have hvoid : (l.state == LineState.void) = false := beq_eq_false_iff_ne.2 fun h => by rw [h, hp] at hpl; exact nomatch hpl
    exact ⟨by simp only [hvoid, Bool.false_and], by simp only [hd', Bool.false_and]⟩

theorem placeTicket_eq (own' : OwnVoid) (t : Ticket) (k : Nat) (depth : Option Nat) (late : Bool) (s : State) :
    placeTicket own' t k depth late s =
      pruneTicket t.number
        (if (linesToVoid s t late).isEmpty then placedAtKitchen t k depth s
          else requestVoid own' ⟨k, t.number, t.tab, linesToVoid s t late, .till⟩ (placedAtKitchen t k depth s)) := by
  have hvoids : linesToVoid (placedAtKitchen t k depth s) t late = linesToVoid s t late :=
    linesToVoid_moved t late (s := s) (p := fun st => st == .pending || st == .unrouted) (dst := .queued) rfl (by decide) rfl
  cases depth with
  | none => rw [← hvoids]; rfl
  | some d =>
    rw [← hvoids]
    unfold placeTicket
    simp only [recordPlaced_recordDepth]
    rfl

/-! ## A failed offer -/

section
variable {n k : Nat} {t : Ticket}

/-- The record a failed offer leaves: PENDING, the kitchen tried, and without the lines that have ended. -/
def failedRecord (k : Nat) (t : Ticket) (s : State) : Ticket :=
  { t with state := .pending, tried := addNew k t.tried, lines := t.lines.filter fun l => !lineEnded s t.tab l }

theorem failOffer_other (h : ∀ t, findTicket s n = some t → t.state ≠ .offered k) : failOffer n k s = s := by
  unfold failOffer
  split
  · rfl
  · rename_i t ht
    exact if_neg (h t ht)

theorem failOffer_offered (h : findTicket s n = some t) (hst : t.state = .offered k) :
    failOffer n k s =
      if (failedRecord k t s).lines.isEmpty then dropTicket n (modTicket n (fun _ => failedRecord k t s) s)
      else if t.attempts < 3 then modTicket n (fun _ => failedRecord k t s) s
      else unroute (failedRecord k t s) .attempts (modTicket n (fun _ => failedRecord k t s) s) := by
  simp only [failOffer, h, if_pos hst]
  rfl

theorem dropTicket_modTicket {f : Ticket → Ticket} (hf : ∀ x, x.number = n → (f x).number = n) :
    dropTicket n (modTicket n f s) = { s with router := { s.router with tickets := s.router.tickets.filter (·.number != n) } } := by
  have hfilter : (mapIf (·.number == n) f s.router.tickets).filter (·.number != n) = s.router.tickets.filter (·.number != n) :=
    filter_mapIf (fun x hx => ⟨by simpa using hx, by simpa using hf x (by simpa using hx)⟩) _
  simp only [dropTicket, modTicket, hfilter]

theorem not_lineEnded (s : State) (tab line : Nat) :
    (!lineEnded s tab line) = ((lineState s tab line).map fun st => !st.ended).getD false := by
  unfold lineEnded
  cases lineState s tab line <;> simp

end

/-! ## A void request's end -/

theorem voidAnswerOf_lines {rs : List (Nat × Nat)} (h : a.result = Result.OK.code) (hd : rVoidResults.exact a.data = some rs) :
    voidAnswerOf a = .lines rs := by
  simp only [voidAnswerOf, is_of_result h, hd, if_true]

theorem voidAnswerOf_unread (h : a.result = Result.OK.code) (hd : rVoidResults.exact a.data = none) :
    voidAnswerOf a = .failed a.result := by
  simp only [voidAnswerOf, is_of_result h, hd, if_true]

theorem voidAnswerOf_other (h : a.result ≠ Result.OK.code) :
    voidAnswerOf a = if a.result = Result.UNKNOWN.code then .unknown else .failed a.result := by
  simp only [voidAnswerOf, is_eq_false h, Bool.false_eq_true, if_false, is_iff]

theorem strayResult_same {rs : List (Nat × Nat)} {c : Nat} (hne : rs ≠ []) (h : ∀ r ∈ rs, r.2 = c) : strayResult (.lines rs) = byteOf c := by
  cases rs with
  | nil => exact absurd rfl hne
  | cons r rs =>
    have hr : r.2 = c := h r List.mem_cons_self
    have hall : (rs.map (·.2)).all (· == c) = true := by
      simp only [List.all_map, List.all_eq_true, Function.comp, beq_iff_eq]
      exact fun x hx => h x (List.mem_cons_of_mem _ hx)
    simp only [strayResult, List.map_cons, hr, hall, if_true]

theorem strayResult_mixed {rs : List (Nat × Nat)} (h : rs = [] ∨ ∃ r ∈ rs, ∃ r' ∈ rs, r.2 ≠ r'.2) :
    strayResult (.lines rs) = Config.strayMixedResult (rs.map (·.2)) := by
  cases rs with
  | nil => rfl
  | cons r rs =>
    obtain ⟨x, hx, y, hy, hne⟩ := h.resolve_left (List.cons_ne_nil _ _)
    have hall : ¬(rs.map (·.2)).all (· == r.2) = true := fun hall => by
      simp only [List.all_map, List.all_eq_true, Function.comp, beq_iff_eq] at hall
      have hsame : ∀ z ∈ r :: rs, z.2 = r.2 := List.forall_mem_cons.2 ⟨rfl, hall⟩
      exact hne ((hsame x hx).trans (hsame y hy).symm)
    simp only [strayResult, List.map_cons, if_neg hall]

variable {kitchen ticket tab : Nat} {lines : List Nat}

/-- The end of a till's request: the confirmed lines told, the others warned of with the cause. -/
def tillEnd (kitchen ticket : Nat) (lines : List Nat) (confirmed : List (Nat × Nat)) (cause : Nat) (s : State) : State :=
  let told := if confirmed.isEmpty then s else post (.voidResult ticket kitchen confirmed) s
  let left := lines.filter fun n => !confirmed.any (·.1 == n)
  if left.isEmpty then told else post (.voidUnconfirmed ticket kitchen left cause) told

theorem voidEnd_lines (rs : List (Nat × Nat)) :
    voidEnd ⟨kitchen, ticket, tab, lines, .till⟩ (.lines rs) s =
      tillEnd kitchen ticket lines (rs.filter fun r => r.2 == Result.RETURNED.code || r.2 == Result.WASTED.code) Result.UNKNOWN.code s := rfl

theorem filter_none_confirmed (lines : List Nat) : (lines.filter fun n => !([] : List (Nat × Nat)).any (·.1 == n)) = lines :=
  List.filter_eq_self.2 fun _ _ => rfl

theorem voidEnd_unknown :
    voidEnd ⟨kitchen, ticket, tab, lines, .till⟩ .unknown s =
      if lines.isEmpty then s else post (.voidUnconfirmed ticket kitchen lines Result.UNKNOWN.code) s := by
  have h : voidEnd ⟨kitchen, ticket, tab, lines, .till⟩ .unknown s = tillEnd kitchen ticket lines [] Result.UNKNOWN.code s := rfl
  rw [h, tillEnd, filter_none_confirmed]
  rfl

theorem voidEnd_failed (cause : Nat) :
    voidEnd ⟨kitchen, ticket, tab, lines, .till⟩ (.failed cause) s =
      if lines.isEmpty then s else post (.voidUnconfirmed ticket kitchen lines cause) s := by
  have h : voidEnd ⟨kitchen, ticket, tab, lines, .till⟩ (.failed cause) s = tillEnd kitchen ticket lines [] cause s := rfl
  rw [h, tillEnd, filter_none_confirmed]
  rfl

theorem voidEnd_stray (answer : VoidAnswer) :
    voidEnd ⟨kitchen, ticket, tab, lines, .stray⟩ answer s = post (.strayVoided ticket kitchen (strayResult answer)) s := rfl

/-! ## A late answer -/

theorem lateEffect_idle (h : inService s = false) : lateEffect a s = s := by
  simp only [lateEffect, h, Bool.not_false, if_true]

theorem lateEffect_lineVoid (h : inService s = true) (hk : a.kind = Kind.lineVoid) :
    lateEffect a s = if a.result = Result.OK.code then countLineVoided s else s := by
  simp only [lateEffect, h, if_pos hk, Bool.not_true, Bool.false_eq_true, if_false, is_iff]

theorem lateEffect_no_till (h : inService s = true) (hk : a.kind ≠ Kind.lineVoid) (hr : hasRole s .till = false) : lateEffect a s = s := by
  simp only [lateEffect, h, if_neg hk, hr, Bool.not_true, Bool.not_false, Bool.false_eq_true, if_false, if_true]

theorem lateEffect_ticket (h : inService s = true) (hr : hasRole s .till = true) (hk : a.kind = Kind.ticket) :
    lateEffect a s = if a.result = Result.ACCEPT.code then takeLateAccept ownVoid a.subject a.source (acceptDepth a) s else s := by
  have hne : a.kind ≠ Kind.lineVoid := hk ▸ by decide
  simp only [lateEffect, h, if_neg hne, hr, if_pos hk, Bool.not_true, Bool.false_eq_true, if_false, is_iff]

end

/-- Settles O38: each way an exchange ends, and what each owner makes of it. -/
theorem exchangesEnd : Obligations.ExchangesEnd := by
  unfold Obligations.ExchangesEnd
  refine ⟨fun f rest s h ht hlen => ?_, fun f rest s h ht hlen => ?_, ?_, ?_,
    fun f rest s ht => ⟨fun h => exec_testFrame_idle h ht, fun h => exec_answerFrame_idle h ht⟩,
    fun f rest a s h hp hk hn => ?_, fun f rest a e before after s h ht hp hl he hu => exec_answerFrame_matched h ht hp hl he hu,
    fun f rest a s h ht hp hk hn => ⟨fun hne => ?_, fun heq => ?_⟩,
    fun e before after s hr hd hl hu ht => exec_exchangeTimeout hr hd hl hu ht, fun e a s ho => ?_, fun e a s ho => ?_,
    fun n k depth s => ⟨fun h => ⟨takeAccept_none h, takeLateAccept_none h⟩, fun t h => ?_⟩, fun t k depth late s => ?_,
    fun n k s => ⟨failOffer_other, fun t h hst => ?_⟩, fun e a purpose tab lines s ho => ?_, fun kitchen ticket tab lines s => ?_, fun a s => ?_⟩
  · rw [exec_testFrame h ht, testEcho, if_neg (Nat.not_lt.2 hlen)]
  · rw [exec_testFrame h ht, testEcho, if_pos hlen]
  · simp only [List.forall_mem_cons, List.not_mem_nil, false_implies, implies_true, and_true]
    exact ⟨fun f rest a b tail s h hp => unserved h hp rfl leads_add fun _ _ => rfl,
      fun f rest a b tail s h hp => unserved h hp rfl leads_tabByte fun _ _ => rfl,
      fun f rest a b tail s h hp => unserved h hp rfl leads_n2 fun _ _ => rfl,
      fun f rest a b tail s h hp => unserved h hp rfl leads_split fun _ _ => rfl,
      fun f rest a b tail s h hp => unserved h hp rfl leads_n2 fun _ _ => rfl,
      fun f rest a b tail s h hp => unserved h hp rfl leads_tabByte fun _ hx => share_tabByte hx,
      fun f rest a b tail s h hp => unserved h hp rfl leads_tabShareByte fun _ hx => share_tabShareByte hx,
      fun f rest a b tail s h hp => unserved h hp rfl leads_tabByte fun _ hx => share_tabByte hx,
      fun f rest a b tail s h hp => unserved h hp rfl leads_offer fun _ _ => rfl,
      fun f rest a b tail s h hp => unserved h hp rfl leads_ticketVoid fun _ _ => rfl,
      fun f rest a b tail s h hp => unserved h hp rfl leads_n2 fun _ _ => rfl⟩
  · simp only [List.forall_mem_cons, List.not_mem_nil, false_implies, implies_true, and_true]
    exact ⟨fun f rest s => exec_ticketStateFrame_no_till, fun f rest s => exec_stockFrame_no_till,
      fun f rest s => exec_claimEndFrame_no_till⟩
  · cases ht : testable s with
    | true => rw [exec_answerFrame_late h ht hp hn, lateAnswer_no_request hk]
    | false => exact exec_answerFrame_idle h ht
  · rw [exec_answerFrame_late h ht hp hn, lateAnswer_posts hk hne]
  · rw [exec_answerFrame_late h ht hp hn, lateAnswer_ticket hk heq]
  · rw [handOutcome_command ho]
    refine ⟨commandOutcome_add, commandOutcome_lineVoid, commandOutcome_query, commandOutcome_split, commandOutcome_withdraw,
      commandOutcome_test, fun hk => ?_⟩
    rw [commandOutcome_refresh hk]
    exact ⟨fun place position depth lines h hd => refreshAnswer_view h hd,
      fun t ks h ht hst => (refreshAnswer_unknown h).trans (congrArg _ (applyUnknown_placed ht hst)),
      fun h hn => (refreshAnswer_unknown h).trans (congrArg _ (applyUnknown_elsewhere hn)), refreshAnswer_other⟩
  · rw [handOutcome_offer ho]
    exact ⟨fun position depth h hd => offerOutcome_accept h hd, offerOutcome_failed⟩
  · exact ⟨takeAccept_offered h, fun ks hst => ⟨takeAccept_placed h hst, takeLateAccept_placed h hst⟩,
      takeAccept_stray h, fun k' ks hst hk => takeLateAccept_stray h hst hk, takeLateAccept_places h⟩
  · refine ⟨fun hnone => ?_, fun hsome => ?_⟩
    · have hempty : (linesToVoid s t late).isEmpty = true := List.isEmpty_iff.2 hnone
      rw [placeTicket_eq, if_pos hempty]
      rfl
    · have hempty : ¬(linesToVoid s t late).isEmpty = true := fun h => hsome (List.isEmpty_iff.1 h)
      rw [placeTicket_eq, if_neg hempty]
      rfl
  · intro left t' back
    have hnum : t'.number = n := (number_of_findTicket h : t.number = n)
    have hleft : left = (failedRecord k t s).lines := List.filter_congr fun l _ => by
      rw [not_lineEnded]
      cases lineState s t.tab l <;> rfl
    have ht' : t' = failedRecord k t s := by
      simp only [t', hleft, failedRecord, addNew, List.contains_iff_mem]
    rw [failOffer_offered h hst, ← hleft, ← ht']
    refine ⟨fun hn => ?_, fun hn ha => ?_, fun hn ha => ?_⟩
    · rw [if_pos (List.isEmpty_iff.2 hn), dropTicket_modTicket fun _ _ => hnum]
    · rw [if_neg fun he => hn (List.isEmpty_iff.1 he), if_pos ha]
    · rw [if_neg fun he => hn (List.isEmpty_iff.1 he), if_neg (Nat.not_lt.2 ha)]
  · rw [handOutcome_void ho]
    refine congrArg (fun x => voidEnd ⟨e.dest, e.subject, tab, lines, purpose⟩ x s) ?_
    by_cases hok : a.result = Result.OK.code
    · rw [if_pos hok]
      cases hd : rVoidResults.exact a.data with
      | none => exact voidAnswerOf_unread hok hd
      | some rs => exact voidAnswerOf_lines hok hd
    · rw [if_neg hok, voidAnswerOf_other hok]
  · refine ⟨fun rs => ?_, voidEnd_unknown, voidEnd_failed, fun rs c hne hall => ?_, fun rs hmixed => ?_, voidEnd_stray _,
      fun cause => voidEnd_stray _⟩
    · exact voidEnd_lines rs
    · rw [voidEnd_stray, strayResult_same hne hall]
    · rw [voidEnd_stray, strayResult_mixed hmixed]
  · refine ⟨lateEffect_idle, lateEffect_lineVoid, lateEffect_no_till, fun hs hr hk => ?_⟩
    rw [lateEffect_ticket hs hr hk]
    refine ⟨fun position depth h hd => ?_, fun h => if_neg h⟩
    rw [if_pos h, acceptDepth, hd]
    rfl

end Sys2Proof.Machine
end

section
/-! The peer directory: what a frame's source, a beacon and a period number leave, and what a rejoin does (R57, R63 to R68). -/

namespace Sys2Proof.Machine

section
variable {s : State} {k : Nat} {p : Peer} {quiet : Bool}

/-! ## A frame's source -/

theorem insertBy_eq {α : Type} (key : α → Nat) (a : α) (l : List α) :
    insertBy key a l = l.takeWhile (fun b => key b ≤ key a) ++ a :: l.dropWhile (fun b => key b ≤ key a) := by
  induction l with
  | nil => rfl
  | cons b l ih =>
    by_cases h : key a < key b
    · have hstop : decide (key b ≤ key a) = false := decide_eq_false (Nat.not_le.2 h)
      simp only [insertBy, if_pos h, List.takeWhile_cons, List.dropWhile_cons, hstop, Bool.false_eq_true, if_false, List.nil_append]
    · have hgo : decide (key b ≤ key a) = true := decide_eq_true (Nat.not_lt.1 h)
      simp only [insertBy, if_neg h, List.takeWhile_cons, List.dropWhile_cons, hgo, if_true, List.cons_append, ih]

theorem enterPeer_eq (k : Nat) (u : State) :
    enterPeer k u =
      reportRejoin k
        { u with
          dir :=
            { u.dir with
              entries :=
                u.dir.entries.takeWhile (fun p => p.station ≤ k) ++
                  ⟨k, false, false, [], none, none, none, .present, some 8000, none, true⟩ ::
                    u.dir.entries.dropWhile (fun p => p.station ≤ k) } } := by
  rw [enterPeer, insertBy_eq]
  rfl

theorem refreshPeer_present (h : findPeer s k = some p) (hp : p.presence = .present) :
    refreshPeer k quiet s = modPeer k (fun q => { q with silence := some q.silenceMs }) s := by
  have hlost : ¬p.presence = .lost := by rw [hp]; decide
  simp only [refreshPeer, h, if_neg hlost]

/-- A LOST entry PRESENT again, out of the LOST order. -/
def presentAgain (k : Nat) (s : State) : State :=
  modPeer k (fun q => { q with presence := .present, silence := some q.silenceMs, changed := true })
    { s with dir := { s.dir with lostOrder := s.dir.lostOrder.filter (· != k) } }

theorem refreshPeer_lost (h : findPeer s k = some p) (hp : p.presence = .lost) :
    refreshPeer k quiet s = if quiet then presentAgain k s else post (.peerReturned k) (presentAgain k s) := by
  simp only [refreshPeer, h, if_pos hp, presentAgain]

theorem refreshPeer_enters (h : findPeer s k = none) (hl : s.dir.entries.length < 64) : refreshPeer k quiet s = enterPeer k s := by
  simp only [refreshPeer, h]
  exact if_pos hl

theorem refreshPeer_evicts {oldest : Nat} {rest : List Nat} (h : findPeer s k = none) (hl : 64 ≤ s.dir.entries.length)
    (ho : s.dir.lostOrder = oldest :: rest) :
    refreshPeer k quiet s =
      enterPeer k (post (.peerEvicted oldest)
        (reportRejoin oldest
          { s with dir := { s.dir with entries := s.dir.entries.filter (·.station != oldest), lostOrder := rest } })) := by
  have hfull : ¬s.dir.entries.length < Config.peerCapacity := Nat.not_lt.2 hl
  simp only [refreshPeer, h, newPeer, if_neg hfull, ho]

theorem refreshPeer_full (h : findPeer s k = none) (hl : 64 ≤ s.dir.entries.length) (ho : s.dir.lostOrder = []) :
    refreshPeer k quiet s = if s.dir.full then s else post (.peersFull k) { s with dir := { s.dir with full := true } } := by
  have hfull : ¬s.dir.entries.length < Config.peerCapacity := Nat.not_lt.2 hl
  simp only [refreshPeer, h, newPeer, if_neg hfull, ho]

/-! ## A beacon -/

theorem clampInterval_eq (n : Nat) :
    clampInterval n = if n < 250 then 250 else if 2000 < n then 2000 else n - n % 250 := by
  unfold clampInterval
  split
  · omega
  · split <;> omega

/-- The join age a beacon carries did not rise. -/
def ShowsRejoin (recorded : Option Nat) (age : Nat) : Prop :=
  ∃ old, recorded = some old ∧ age ≤ old ∧ ¬(age = 4294967295 ∧ old = 4294967295) ∧ ¬(age = 0 ∧ old = 0)

theorem ageShowsRejoin_iff (recorded : Option Nat) (age : Nat) : ageShowsRejoin recorded age = true ↔ ShowsRejoin recorded age := by
  cases recorded with
  | none => simp [ageShowsRejoin, ShowsRejoin]
  | some old =>
    simp only [ageShowsRejoin, ShowsRejoin, Config.max32, Bool.and_eq_true, Bool.not_eq_true', decide_eq_true_eq,
      Bool.and_eq_false_iff, beq_eq_false_iff_ne, ne_eq, Option.some.injEq, exists_eq_left', and_assoc, Classical.not_and_iff_not_or_not]

/-- What a beacon records in its source's entry, its silence timer restarted. -/
def heardBeacon (b : BeaconFields) (q : Peer) : Peer :=
  let interval := if b.interval < 250 then 250 else if 2000 < b.interval then 2000 else b.interval - b.interval % 250
  { q with
    till := b.roles.getLsbD 0
    kitchen := b.roles.getLsbD 1
    prep := membersOf 0 b.prep
    interval := some interval
    joinAge := some b.joinAge
    period := some (min b.period 99)
    silence := some (4 * interval)
    load := if b.roles.getLsbD 1 then some ⟨min b.depth 48, decide (b.hold ≠ 0), min b.late 48, 0⟩ else none }

/-- A beacon's roles or hold flag are not those the entry holds. -/
def beaconDiffers (b : BeaconFields) (q : Peer) : Bool :=
  b.roles.getLsbD 0 != q.till || b.roles.getLsbD 1 != q.kitchen ||
    (b.roles.getLsbD 1 && match q.load with | some l => l.hold != decide (b.hold ≠ 0) | none => false)

theorem hold_eq (n : Nat) : (n != 0) = decide (n ≠ 0) := by
  cases n <;> rfl

theorem recordBeacon_changed (b : BeaconFields) (q : Peer) :
    (recordBeacon b q).changed = (q.changed || beaconDiffers b q) := by
  simp only [recordBeacon, beaconDiffers, hold_eq, Bool.or_assoc]
  cases q.load <;> rfl

theorem recordBeacon_heard (b : BeaconFields) (q : Peer) :
    { recordBeacon b q with silence := some (recordBeacon b q).silenceMs } =
      { heardBeacon b q with changed := q.changed || beaconDiffers b q } := by
  rw [← recordBeacon_changed]
  simp only [recordBeacon, Peer.silenceMs, heardBeacon, hold_eq, clampInterval_eq]
  rfl

section
variable {k : Nat} {b : BeaconFields} {u : State}

theorem findPeer_recorded {f : Peer → Peer} (hf : ∀ q, (f q).station = q.station) (h : findPeer u k = some p) :
    findPeer (modPeer k f u) k = some (f p) := by
  rw [findPeer_modPeer k f hf, h]
  rfl

theorem recordBeacon_station (b : BeaconFields) (q : Peer) : (recordBeacon b q).station = q.station := rfl

/-- A source heard again, its entry marked as the beacon leaves it. -/
def heardChanged (b : BeaconFields) (q : Peer) : Peer := { heardBeacon b q with changed := true }

theorem takeBeacon_none (h : findPeer u k = none) : takeBeacon k b u = u := by simp only [takeBeacon, h]

theorem takeBeacon_known (h : findPeer u k = some p) (hr : ¬ShowsRejoin p.joinAge b.joinAge) :
    takeBeacon k b u = refreshPeer k false (modPeer k (recordBeacon b) u) := by
  simp only [takeBeacon, h, if_neg fun ha => hr ((ageShowsRejoin_iff _ _).1 ha)]

theorem takeBeacon_rejoin (h : findPeer u k = some p) (hr : ShowsRejoin p.joinAge b.joinAge) :
    takeBeacon k b u =
      post (.peerRejoined k (b.roles.getLsbD 0) (b.roles.getLsbD 1) b.joinAge)
        (refreshPeer k true (modPeer k (fun p => { recordBeacon b p with changed := true }) (reportRejoin k u))) := by
  simp only [takeBeacon, h, if_pos ((ageShowsRejoin_iff _ _).2 hr)]

theorem takeBeacon_present (h : findPeer u k = some p) (hr : ¬ShowsRejoin p.joinAge b.joinAge) (hp : p.presence = .present) :
    takeBeacon k b u = modPeer k (fun q => { heardBeacon b q with changed := q.changed || beaconDiffers b q }) u := by
  rw [takeBeacon_known h hr, refreshPeer_present (findPeer_recorded (recordBeacon_station b) h) hp,
    modPeer_modPeer (recordBeacon_station b)]
  exact congrArg (fun g => modPeer k g u) (funext (recordBeacon_heard b))

/-- A LOST entry PRESENT again after a beacon is recorded in it. -/
def heardAgain (k : Nat) (b : BeaconFields) (u : State) : State :=
  modPeer k (fun q => { heardBeacon b q with presence := .present, changed := true })
    { u with dir := { u.dir with lostOrder := u.dir.lostOrder.filter (· != k) } }

theorem presentAgain_recorded {f : Peer → Peer} (hf : ∀ q, (f q).station = q.station)
    (hr : ∀ q, ({ f q with presence := .present, silence := some (f q).silenceMs, changed := true } : Peer) =
      { heardBeacon b q with presence := .present, changed := true }) :
    presentAgain k (modPeer k f u) = heardAgain k b u := by
  refine (modPeer_modPeer hf _ { u with dir := { u.dir with lostOrder := u.dir.lostOrder.filter (· != k) } }).trans ?_
  exact congrArg (fun g => modPeer k g { u with dir := { u.dir with lostOrder := u.dir.lostOrder.filter (· != k) } }) (funext hr)

theorem recordBeacon_again (b : BeaconFields) (q : Peer) :
    ({ recordBeacon b q with presence := .present, silence := some (recordBeacon b q).silenceMs, changed := true } : Peer) =
      { heardBeacon b q with presence := .present, changed := true } :=
  congrArg (fun x : Peer => { x with presence := .present, changed := true }) (recordBeacon_heard b q)

theorem takeBeacon_returned (h : findPeer u k = some p) (hr : ¬ShowsRejoin p.joinAge b.joinAge) (hp : p.presence = .lost) :
    takeBeacon k b u = post (.peerReturned k) (heardAgain k b u) := by
  rw [takeBeacon_known h hr, refreshPeer_lost (findPeer_recorded (recordBeacon_station b) h) hp,
    presentAgain_recorded (recordBeacon_station b) (recordBeacon_again b)]
  rfl

theorem findPeer_reportRejoin (j : Nat) : findPeer (reportRejoin j u) k = findPeer u k := by
  unfold findPeer
  rw [reportRejoin_dir]

theorem takeBeacon_rejoin_present (h : findPeer u k = some p) (hr : ShowsRejoin p.joinAge b.joinAge) (hp : p.presence = .present) :
    takeBeacon k b u =
      post (.peerRejoined k (b.roles.getLsbD 0) (b.roles.getLsbD 1) b.joinAge) (modPeer k (heardChanged b) (reportRejoin k u)) := by
  have h' : findPeer (reportRejoin k u) k = some p := (findPeer_reportRejoin k).trans h
  rw [takeBeacon_rejoin h hr,
    refreshPeer_present (findPeer_recorded (f := fun p => { recordBeacon b p with changed := true }) (fun _ => rfl) h') hp,
    modPeer_modPeer (f := fun p => { recordBeacon b p with changed := true }) fun _ => rfl]
  refine congrArg (fun g => post _ (modPeer k g (reportRejoin k u))) (funext fun q => ?_)
  exact congrArg (fun x : Peer => { x with changed := true }) (recordBeacon_heard b q)

theorem takeBeacon_rejoin_lost (h : findPeer u k = some p) (hr : ShowsRejoin p.joinAge b.joinAge) (hp : p.presence = .lost) :
    takeBeacon k b u =
      post (.peerRejoined k (b.roles.getLsbD 0) (b.roles.getLsbD 1) b.joinAge) (heardAgain k b (reportRejoin k u)) := by
  have h' : findPeer (reportRejoin k u) k = some p := (findPeer_reportRejoin k).trans h
  rw [takeBeacon_rejoin h hr,
    refreshPeer_lost (findPeer_recorded (f := fun p => { recordBeacon b p with changed := true }) (fun _ => rfl) h') hp,
    presentAgain_recorded (f := fun p => { recordBeacon b p with changed := true }) (fun _ => rfl) (recordBeacon_again b)]
  rfl

end

/-! ## The beacon and PERIOD frames -/

section
variable {f : Frame} {rest : List Frame} {b : BeaconFields} {n : Nat}

theorem exec_beaconFrame (h : frameReady Kind.beacon f rest s = true) (hb : rBeacon.exact f.payload = some b)
    (hl : listening s = true) :
    exec .beaconFrame s =
      .next (afterFrame s
        (if b.period ≤ 99 then heardPeriod b.period (takeBeacon f.source b (popped rest s)) else takeBeacon f.source b (popped rest s))) := by
  refine (deliver_runs _ h).trans ?_
  have hl' : listening (popped rest s) = true := hl
  simp only [hb, if_pos hl']
  rfl

theorem exec_beaconFrame_unheard (h : frameReady Kind.beacon f rest s = true) (hb : rBeacon.exact f.payload = some b)
    (hl : listening s = false) : exec .beaconFrame s = .next (afterFrame s (popped rest s)) := by
  refine (deliver_runs _ h).trans ?_
  have hl' : listening (popped rest s) = false := hl
  simp only [hb, hl', Bool.false_eq_true, if_false]

theorem exec_periodFrame_discarded (h : frameReady Kind.period f rest s = true) (hn : Reader.n1.exact f.payload = some n)
    (hbad : 99 < n ∨ listening s = false) : exec .periodFrame s = .next (afterFrame s (popped rest s)) := by
  refine (deliver_runs _ h).trans ?_
  have hno : ¬(listening (popped rest s) && decide (n ≤ Config.maxPeriod)) = true := fun hyes => by
    obtain ⟨h1, h2⟩ := Bool.and_eq_true_iff.1 hyes
    rcases hbad with hbad | hbad
    · exact absurd (of_decide_eq_true h2) (Nat.not_le.2 hbad)
    · exact Bool.false_ne_true (hbad.symm.trans h1)
  simp only [hn, if_neg hno]

theorem exec_periodFrame (h : frameReady Kind.period f rest s = true) (hn : Reader.n1.exact f.payload = some n) (hle : n ≤ 99)
    (hl : listening s = true) :
    exec .periodFrame s =
      .next (afterFrame s (heardPeriod n (modPeer f.source (fun q => { q with period := some n }) (popped rest s)))) := by
  refine (deliver_runs _ h).trans ?_
  have hyes : (listening (popped rest s) && decide (n ≤ Config.maxPeriod)) = true := Bool.and_eq_true_iff.2 ⟨hl, decide_eq_true hle⟩
  simp only [hn, if_pos hyes]

/-! ## A period number heard -/

theorem heardPeriod_old (h : n ≤ s.takings.period) : heardPeriod n s = s := if_pos h

theorem heardPeriod_captures (h : s.takings.period < n) (hs : inService s = true) :
    heardPeriod n s = (captureAttempt s.takings.period { s with takings := { s.takings with period := n } }).2 := by
  rw [heardPeriod, if_neg (Nat.not_le.2 h), if_pos hs]

theorem heardPeriod_joining (h : s.takings.period < n) (hst : s.station.state = .joining) :
    heardPeriod n s = { s with takings := { s.takings with period := n, spanStart := n } } := by
  have hs : ¬inService s = true := by simp [inService, hst]
  rw [heardPeriod, if_neg (Nat.not_le.2 h), if_neg hs, if_pos hst]

theorem heardPeriod_idle (hs : inService s = false) (hst : s.station.state ≠ .joining) : heardPeriod n s = s := by
  have hno : ¬inService s = true := by rw [hs]; decide
  by_cases h : n ≤ s.takings.period
  · exact heardPeriod_old h
  · rw [heardPeriod, if_neg h, if_neg hno, if_neg hst]

end

end

/-- Settles O42: the source by its entry, the beacon by the rejoin it shows, the period number by the station state. -/
theorem peerFramesAreRecorded : Obligations.PeerFramesAreRecorded := by
  unfold Obligations.PeerFramesAreRecorded
  refine ⟨fun k quiet s => ?_,
    fun k s => ?_, fun f rest b p s h hb hl hp => ?_, fun f rest b s h hb => ⟨fun hl hn => ?_, fun hl => exec_beaconFrame_unheard h hb hl⟩,
    fun f rest n s h hn hbad => exec_periodFrame_discarded h hn hbad, fun f rest n s h hn hle hl => exec_periodFrame h hn hle hl,
    fun n s => ⟨heardPeriod_old, heardPeriod_joining, fun hn hs h1 => ?_, fun hn hs h1 h2 => ?_, fun hn hs h1 h2 => ?_,
      heardPeriod_idle⟩⟩
  · intro entered timer
    have htimer : ∀ q : Peer, some q.silenceMs = timer q := fun q => by
      simp only [timer, Peer.silenceMs]
      cases q.interval <;> rfl
    refine ⟨fun p h => ⟨fun hp => ?_, fun hp => ?_⟩, fun h => ⟨fun hl => ?_, fun hl => ⟨fun oldest rest ho => ?_,
      fun ho => ⟨fun hf => ?_, fun hf => ?_⟩⟩⟩⟩
    · simp only [refreshPeer_present h hp, htimer]
    · simp only [refreshPeer_lost h hp, presentAgain, htimer]
    · rw [refreshPeer_enters h hl, enterPeer_eq]
    · rw [refreshPeer_evicts h hl ho, enterPeer_eq]
    · rw [refreshPeer_full h hl ho, if_pos hf]
    · rw [refreshPeer_full h hl ho, hf]
      rfl
  · intro freed told routed forgotten flagged count orphaned
    have hrouted : told.router.tickets.foldl (rejoinTicket k) told = routed :=
      congrArg (fun g => told.router.tickets.foldl g told) (funext fun u => funext fun t => by
        unfold rejoinTicket
        cases t.state with
        | placed k' ks =>
          by_cases hk : k' = k
          · cases ks <;> simp only [hk, ne_eq, not_true_eq_false, if_false, if_true, reduceCtorEq]
            all_goals rfl
          · simp only [hk, ne_eq, not_false_eq_true, if_true, if_false]
        | _ => rfl)
    have hforgotten : routerRejoined k told = forgotten := by
      rw [routerRejoined, hrouted]
      refine congrArg (fun g => ({ routed with router := { routed.router with tickets := routed.router.tickets.map g } } : State))
        (funext fun t => ?_)
      unfold forgetKitchen
      cases t.state <;> rfl
    have htold : claimsRejoined k (releaseClaimant k s) = told := rfl
    rw [reportRejoin, htold, hforgotten]
    rfl
  · rw [exec_beaconFrame h hb hl]
    refine ⟨fun hr => ⟨fun hpres => ?_, fun hpres => ?_⟩, fun hr => ⟨fun hpres => ?_, fun hpres => ?_⟩⟩
    · rw [takeBeacon_present (u := popped rest s) hp hr hpres]
      rfl
    · rw [takeBeacon_returned (u := popped rest s) hp hr hpres]
      rfl
    · rw [takeBeacon_rejoin_present (u := popped rest s) hp hr hpres]
      rfl
    · rw [takeBeacon_rejoin_lost (u := popped rest s) hp hr hpres]
      rfl
  · rw [exec_beaconFrame h hb hl, takeBeacon_none (u := popped rest s) hn]
  · rw [heardPeriod_captures hn hs, captureAttempt_first (s := { s with takings := { s.takings with period := n } }) h1]
    rfl
  · obtain ⟨c, hc⟩ := Option.isSome_iff_exists.1 h1
    rw [heardPeriod_captures hn hs, captureAttempt_second (s := { s with takings := { s.takings with period := n } }) hc h2]
    rfl
  · obtain ⟨c, hc⟩ := Option.isSome_iff_exists.1 h1
    obtain ⟨d, hd⟩ := Option.isSome_iff_exists.1 h2
    rw [heardPeriod_captures hn hs, captureAttempt_deferred (s := { s with takings := { s.takings with period := n } }) hc hd]

end Sys2Proof.Machine
end

section
/-! The silence timer, the beacon timers and a beacon's generation (R65, R73 to R75, R93, R121). -/

namespace Sys2Proof.Machine

section
variable {s u : State} {k : Nat} {p : Peer}

/-! ## A peer lost -/

theorem exec_silenceTimerExpiry (hr : s.station.inReset = false) (hd : s.station.state ≠ .duplicate) (h : findPeer s k = some p)
    (hp : p.presence = .present) (ht : p.silence.isSome = true) :
    exec (.silenceTimerExpiry k) s = .next (afterEvent s (losePeer p s)) := by
  have hrun : p.presence = .present ∧ isPending p.silence = true := ⟨hp, ht⟩
  refine (event_runs _ hr).trans ?_
  rw [silenceExpiry, if_neg hd]
  simp only [h, if_pos hrun]

/-! ## A beacon generated -/

/-- A frame of the kind that waits, not begun. -/
def waitsUnsent (q : OutFrame → Bool) (x : Slot) : Bool := q x.frame && !x.begun

theorem replaceUnsent_some {q : OutFrame → Bool} {payload : Bytes} {l : List Slot} (h : ∃ x ∈ l, waitsUnsent q x = true) :
    replaceUnsent q payload l =
      some (l.map fun x => if waitsUnsent q x then { x with frame := { x.frame with payload := payload } } else x) :=
  if_pos (List.any_eq_true.2 h)

theorem replaceUnsent_none {q : OutFrame → Bool} {payload : Bytes} {l : List Slot} (h : ∀ x ∈ l, waitsUnsent q x = false) :
    replaceUnsent q payload l = none := by
  refine if_neg fun hany => ?_
  obtain ⟨x, hx, hw⟩ := List.any_eq_true.1 hany
  exact Bool.false_ne_true ((h x hx).symm.trans hw)

/-- The beacon's timers started anew. -/
def beaconTimed (s : State) : State := { s with beacon := { s.beacon with interval := some s.cfg.interval, holdOff := some 100 } }

theorem genBeacon_replaces (h : ∃ x ∈ s.tx.slots, waitsUnsent (fun f => f.kind == Kind.beacon) x = true) :
    genBeacon s =
      resendStock
        { beaconTimed s with
          tx :=
            { s.tx with
              slots :=
                s.tx.slots.map fun x =>
                  if waitsUnsent (fun f => f.kind == Kind.beacon) x then { x with frame := { x.frame with payload := beaconPayload s } }
                  else x } } := by
  simp only [genBeacon, replaceUnsent_some h]
  rfl

theorem genBeacon_queues (h : ∀ x ∈ s.tx.slots, waitsUnsent (fun f => f.kind == Kind.beacon) x = false) :
    genBeacon s = resendStock (sendFrame ⟨Kind.beacon, 127, 0, beaconPayload s⟩ (beaconTimed s)).2 := by
  simp only [genBeacon, replaceUnsent_none h]
  rfl

/-! ## A marked item reported again -/

theorem resendStock_none (h : ∀ p ∈ u.portions, p.resend = false) : resendStock u = u := by
  have hfind : u.portions.find? (·.resend) = none := List.find?_eq_none.2 fun p hp => by simp [h p hp]
  simp only [resendStock, hfind]

theorem find_lowest {l : List Portion} {p : Portion} (hp : p ∈ l) (ho : (l.map (·.item)).Pairwise (· < ·)) (hm : p.resend = true)
    (hlow : ∀ q ∈ l, q.resend = true → p.item ≤ q.item) : l.find? (·.resend) = some p := by
  obtain ⟨before, after, rfl⟩ := List.append_of_mem hp
  refine find_first rfl hm fun q hq => Bool.eq_false_iff.2 fun hqm => ?_
  have hle := hlow q (List.mem_append_left _ hq) hqm
  have hlt : q.item < p.item := by
    rw [List.map_append, List.map_cons] at ho
    exact (List.pairwise_append.1 ho).2.2 _ (List.mem_map_of_mem hq) _ List.mem_cons_self
  exact absurd hle (Nat.not_le.2 hlt)

theorem resendStock_lowest {p : Portion} (hp : p ∈ u.portions) (ho : (u.portions.map (·.item)).Pairwise (· < ·))
    (hm : p.resend = true) (hlow : ∀ q ∈ u.portions, q.resend = true → p.item ≤ q.item) :
    resendStock u =
      queueStock p.item (stockState p) p.remaining
        { u with portions := u.portions.map fun q => if q.item == p.item then { q with resend := false } else q } := by
  simp only [resendStock, find_lowest hp ho hm hlow]
  rfl

theorem exec_intervalTimerExpiry (hr : s.station.inReset = false) (hs : inService s = true) (hb : s.beacon.interval.isSome = true) :
    exec .intervalTimerExpiry s = .next (afterEvent s (genBeacon s)) := by
  refine (event_runs _ hr).trans ?_
  rw [intervalExpiry, if_pos ⟨hs, hb⟩]

theorem exec_holdOffExpiry (hr : s.station.inReset = false) (hs : inService s = true) (hb : s.beacon.holdOff.isSome = true) :
    exec .holdOffExpiry s =
      .next (afterEvent s
        (if s.beacon.due then genBeacon { s with beacon := { s.beacon with holdOff := none, due := false } }
          else { s with beacon := { s.beacon with holdOff := none, due := false } })) := by
  refine (event_runs _ hr).trans ?_
  rw [holdOffEnd, if_pos ⟨hs, hb⟩]

end

/-- Settles O43: the silence timer by its entry, the beacon timers by the due mark, and a beacon by what waits. -/
theorem peerTimersExpire : Obligations.PeerTimersExpire := by
  unfold Obligations.PeerTimersExpire
  refine ⟨fun k p s hr hd h hp ht => ?_, fun s => exec_intervalTimerExpiry, fun s hr hs hb => ⟨fun hdue => ?_, fun hdue => ?_⟩,
    fun s hno h24 h20 hmark => ?_, fun s u => ?_⟩
  · have hk : p.station = k := station_of_findPeer h
    subst hk
    intro lost freed placed told
    have hplaced : (freed.router.tickets.filter (·.placedAt p.station)).length = placed := rfl
    have htold : routerLost p.station freed = told := by rw [routerLost, hplaced]
    have hstock : told.stock = s.stock := by
      simp only [told, apply_ite State.stock, post_stock, ite_self]
      rfl
    rw [exec_silenceTimerExpiry hr hd h hp ht, ← hstock, ← htold]
    rfl
  · rw [exec_holdOffExpiry hr hs hb, if_pos hdue]
  · rw [exec_holdOffExpiry hr hs hb, if_neg (by rw [hdue]; decide)]
  · have hnone : ∀ x ∈ s.tx.slots, waitsUnsent (fun f => f.kind == Kind.beacon) x = false := fun x hx => by
      simp only [waitsUnsent, beq_eq_false_iff_ne.2 (hno x hx), Bool.false_and]
    intro load payload
    have hpayload : beaconPayload s = payload := by
      simp only [payload, load, beaconPayload, Kitchen.depth, List.length_append]
      rfl
    rw [genBeacon_queues hnone,
      sendFrame_taken (f := ⟨Kind.beacon, 127, 0, beaconPayload s⟩) (s := beaconTimed s) (not_crowded_of_room (s := s) ⟨h24, h20⟩)]
    refine (resendStock_none ?_).trans ?_
    · exact hmark
    · rw [hpayload]
      rfl
  · intro timed waits refreshed hu
    have hgen : genBeacon s = resendStock u := by
      rcases hu with ⟨h, rfl⟩ | ⟨h, rfl⟩
      · exact genBeacon_replaces h
      · exact genBeacon_queues h
    rw [hgen]
    exact ⟨resendStock_none, fun p hp ho hm hlow => resendStock_lowest hp ho hm hlow⟩

end Sys2Proof.Machine
end

section
/-! Retry, Refresh, Abandon and the kitchen's reports at the home (R84, R87 to R89, R92, R95). -/

namespace Sys2Proof.Machine

section
variable {s : State} {ticket kitchen : Nat} {t : Ticket} {ks : KState}

/-! ## Retry -/

theorem exec_retry (h : jobReady (.retry ticket) .till s = true) (ht : findTicket s ticket = some t) :
    (t.state = .unrouted →
      exec (.retry ticket) s =
        .next (afterCommand (.retry ticket) s (.bare .OK)
          (moveLines t.tab t.lines (· == .unrouted) .pending
            (modTicket ticket (fun r => { r with state := .pending, tried := [], attempts := 0 }) s)))) ∧
    (t.state ≠ .unrouted → exec (.retry ticket) s = .next (afterCommand (.retry ticket) s (.bare .STATE) s)) := by
  have hrun : exec (.retry ticket) s = _ := carryOut_job _ h
  refine ⟨fun hst => hrun.trans ?_, fun hst => hrun.trans ?_⟩
  · simp only [ht, if_pos hst]
  · simp only [ht, if_neg hst, refuse]

/-! ## A kitchen's view of a ticket -/

/-- The record moved as the view's ticket state says. -/
def viewMoved (t : Ticket) (kitchen place : Nat) (ks : KState) (s : State) : State :=
  if place = 1 then applyPlaced t kitchen ks (.state .fired) s
  else if place = 2 then applyPlaced t kitchen ks (.state .ready) s
  else s

theorem stateReport_other {place : Nat} (h1 : place ≠ 1) (h2 : place ≠ 2) : stateReport place = none := by
  unfold stateReport
  split
  · exact absurd rfl h1
  · exact absurd rfl h2
  · rfl

theorem foldl_missedVoid (t : Ticket) (voids : List Nat) (u : State) :
    voids.foldl (missedVoid t) u = (voids.filter fun n => t.lines.contains n).foldl (fun u n => tabKitchenVoid t.tab n u) u := by
  rw [List.foldl_filter]
  rfl

theorem applyView_elsewhere {place : Nat} {voids : List Nat} (h : ∀ t ks, findTicket s ticket = some t → t.state ≠ .placed kitchen ks) :
    applyView ticket kitchen place voids s = s := by
  unfold applyView
  split
  · rfl
  · rename_i t ht
    split
    · rename_i k ks hst
      rw [if_neg]
      rintro rfl
      exact h t ks ht hst
    · rfl

theorem applyView_placed {place : Nat} {voids : List Nat} (ht : findTicket s ticket = some t) (hst : t.state = .placed kitchen ks) :
    applyView ticket kitchen place voids s =
      pruneTicket ticket
        ((voids.filter fun n => t.lines.contains n).foldl (fun u n => tabKitchenVoid t.tab n u) (viewMoved t kitchen place ks s)) := by
  rw [← foldl_missedVoid]
  simp only [applyView, ht, hst, if_true]
  by_cases h1 : place = 1
  · subst h1
    rfl
  · by_cases h2 : place = 2
    · subst h2
      rfl
    · simp only [stateReport_other h1 h2, viewMoved, if_neg h1, if_neg h2]

/-! ## Refresh at this station's own kitchen -/

theorem exec_refresh_own (h : jobReady (.refresh ticket) .till s = true) (ht : findTicket s ticket = some t)
    (hst : t.state = .placed (own s) ks) :
    exec (.refresh ticket) s =
      .next (afterCommand (.refresh ticket) s (refreshOwn ticket s).1 (refreshOwn ticket s).2) := by
  refine (carryOut_job _ h).trans ?_
  simp only [ht, hst, if_true]

theorem refreshOwn_none (h : s.kitchen.byKey (own s) ticket = none) :
    refreshOwn ticket s = (.bare .UNKNOWN, applyUnknown ticket (own s) s) := by
  simp only [refreshOwn, kitchenQuery, h, Option.map_none]

theorem not_active (l : KLine) : (!l.active) = l.void.isSome := by
  unfold KLine.active
  cases l.void <;> rfl

theorem refreshOwn_some {p : Place} {k : KTicket} (h : s.kitchen.byKey (own s) ticket = some (p, k)) :
    refreshOwn ticket s =
      (⟨.OK, e1 p.code ++ e1 (s.kitchen.position k.ref) ++ e1 s.kitchen.depth ++
          eList (fun l : KLine => e1 l.line ++ eFlag l.void.isSome) k.lines⟩,
        applyView ticket (own s) p.code ((k.lines.filter fun l => l.void.isSome).map (·.line)) s) := by
  simp only [refreshOwn, kitchenQuery, h, Option.map_some, KitchenView.reply, eList, List.length_map, List.map_map, List.filter_map,
    not_active]
  rfl

/-! ## Abandon -/

theorem abandonable_iff :
    abandonable s t = true ↔ t.state = .unrouted ∨ ∃ k ks, t.state = .placed k ks ∧ k ≠ own s ∧ isPresent s k = false := by
  unfold abandonable
  cases t.state <;> simp

theorem exec_abandon (h : jobReady (.abandon ticket) .till s = true) (ht : findTicket s ticket = some t) :
    (abandonable s t = true →
      exec (.abandon ticket) s =
        .next (afterCommand (.abandon ticket) s ⟨.OK, e1 (t.lines.filter fun l => !lineEnded s t.tab l).length⟩ (endTicket t .lost s))) ∧
    (abandonable s t = false → exec (.abandon ticket) s = .next (afterCommand (.abandon ticket) s (.bare .STATE) s)) := by
  have hrun : exec (.abandon ticket) s = _ := carryOut_job _ h
  refine ⟨fun ha => hrun.trans ?_, fun ha => hrun.trans ?_⟩
  · simp only [ht, if_pos ha]
    rfl
  · simp only [ht, ha, Bool.false_eq_true, if_false, refuse]

theorem exec_refresh_state (h : jobReady (.refresh ticket) .till s = true) (ht : findTicket s ticket = some t)
    (hst : ∀ k ks, t.state ≠ .placed k ks) : exec (.refresh ticket) s = .next (afterCommand (.refresh ticket) s (.bare .STATE) s) := by
  refine (carryOut_job _ h).trans ?_
  simp only [ht]
  cases hs : t.state with
  | placed k ks => exact absurd hs (hst k ks)
  | _ => simp only [refuse]

theorem exec_routing_none {c : Instr} (hc : c = .retry ticket ∨ c = .refresh ticket ∨ c = .abandon ticket)
    (h : jobReady c .till s = true) (ht : findTicket s ticket = none) : exec c s = .next (afterCommand c s (.bare .NO_ENTRY) s) := by
  rcases hc with rfl | rfl | rfl
  · refine (carryOut_job _ h).trans ?_
    simp only [ht, refuse]
  · refine (carryOut_job _ h).trans ?_
    simp only [ht, refuse]
  · refine (carryOut_job _ h).trans ?_
    simp only [ht, refuse]

end

/-- Settles O45: Retry, Refresh and Abandon by the record's state. -/
theorem routingCommandsComplete : Obligations.RoutingCommandsComplete := by
  unfold Obligations.RoutingCommandsComplete
  refine ⟨fun ticket t s h ht hst => (exec_retry h ht).1 hst, fun ticket kitchen place voids s => ⟨applyView_elsewhere, fun t ks ht hst => ?_⟩,
    fun ticket t ks p k s h ht hst hk => ?_, fun ticket t ks s h ht hst hk => ?_, fun ticket t s h ht hst => ?_,
    fun ticket c s hc h => ⟨exec_routing_none hc h, fun t ht hst => ?_⟩⟩
  · exact applyView_placed ht hst
  · rw [exec_refresh_own h ht hst, refreshOwn_some hk]
  · rw [exec_refresh_own h ht hst, refreshOwn_none hk, applyUnknown_placed ht hst]
    rfl
  · exact (exec_abandon h ht).1 (abandonable_iff.2 hst)
  · rcases hst with ⟨rfl, hst⟩ | ⟨rfl, hst⟩ | ⟨rfl, hne, hst⟩
    · exact (exec_retry h ht).2 hst
    · exact exec_refresh_state h ht hst
    · refine (exec_abandon h ht).2 (Bool.eq_false_iff.2 fun ha => ?_)
      rcases abandonable_iff.1 ha with hu | ⟨k, ks, hp, hown, habs⟩
      · exact hne hu
      · rcases hst k ks hp with hk | hk
        · exact hown hk
        · exact Bool.false_ne_true (habs.symm.trans hk)

/-! ## The kitchen's reports at the home -/

section
variable {s : State} {hand : OwnVoid} {k n : Nat} {r : Report} {t : Ticket}

theorem applyReport_none (h : findTicket s n = none) : applyReport hand k n r s = s := by simp only [applyReport, h]

theorem applyReport_placed {ks : KState} (h : findTicket s n = some t) (hst : t.state = .placed k ks) :
    applyReport hand k n r s = applyPlaced t k ks r s := by
  simp only [applyReport, h, hst, if_true]

theorem applyReport_accepts (h : findTicket s n = some t) (hp : ∀ k' ks, t.state ≠ .placed k' ks)
    (ho : t.state = .offered k ∨ k ∈ t.tried) :
    (findTicket (placeTicket hand t k none true s) n = none → applyReport hand k n r s = placeTicket hand t k none true s) ∧
    ∀ t', findTicket (placeTicket hand t k none true s) n = some t' →
      applyReport hand k n r s = applyPlaced t' k .queued r (placeTicket hand t k none true s) := by
  have ho' : t.state = .offered k ∨ t.tried.contains k = true := ho.imp_right List.contains_iff_mem.2
  refine ⟨fun hn => ?_, fun t' hs => ?_⟩
  · cases hst : t.state with
    | placed k' ks => exact absurd hst (hp k' ks)
    | _ =>
      rw [hst] at ho'
      simp only [applyReport, h, hst, if_pos ho', hn]
  · cases hst : t.state with
    | placed k' ks => exact absurd hst (hp k' ks)
    | _ =>
      rw [hst] at ho'
      simp only [applyReport, h, hst, if_pos ho', hs]

theorem applyReport_stray (h : findTicket s n = some t)
    (hst : (∃ k' ks, t.state = .placed k' ks ∧ k' ≠ k) ∨
      ((∀ k' ks, t.state ≠ .placed k' ks) ∧ t.state ≠ .offered k ∧ k ∉ t.tried)) :
    applyReport hand k n r s = applyStray hand t k r s := by
  rcases hst with ⟨k', ks, hst, hne⟩ | ⟨hp, ho, ht⟩
  · simp only [applyReport, h, hst, if_neg hne]
  · have ho' : ¬(t.state = .offered k ∨ t.tried.contains k = true) := fun hor => hor.elim ho fun hc => ht (List.contains_iff_mem.1 hc)
    cases hst : t.state with
    | placed k' ks => exact absurd hst (hp k' ks)
    | _ =>
      rw [hst] at ho'
      simp only [applyReport, h, hst, if_neg ho']

theorem applyStray_voids (hr : r = .state .fired ∨ r = .state .ready) : applyStray hand t k r s = strayVoid hand t k s := by
  rcases hr with rfl | rfl <;> rfl

theorem applyStray_other (h1 : r ≠ .state .fired) (h2 : r ≠ .state .ready) : applyStray hand t k r s = s := by
  unfold applyStray
  split
  · exact absurd rfl h1
  · exact absurd rfl h2
  · rfl

/-! ## The TICKET-STATE frame -/

variable {f : Frame} {rest : List Frame} {x : TicketStateFields}

theorem report_state (hh : isStation x.home = true) (hform : x.form = 0)
    (hc : (x.code = 0 ∧ r = .state .fired) ∨ (x.code = 1 ∧ r = .state .ready) ∨ (x.code = 2 ∧ r = .state .collected) ∨
      (x.code = 3 ∧ r = .state .uncollected) ∨ (x.code = 4 ∧ r = .state .voided)) : x.report = some r := by
  have hhome : ¬(x.home = 0 ∨ x.home = allStations) := by
    simp only [isStation, Bool.and_eq_true, decide_eq_true_eq] at hh
    simp only [allStations]
    omega
  rw [TicketStateFields.report, if_neg hhome, if_pos hform]
  rcases hc with ⟨hc, rfl⟩ | ⟨hc, rfl⟩ | ⟨hc, rfl⟩ | ⟨hc, rfl⟩ | ⟨hc, rfl⟩ <;> simp only [hc]

theorem report_voids (hh : isStation x.home = true) (hform : x.form = 1) (hl : x.lines ≠ [])
    (hc : (x.code = 0 ∧ r = .voids true x.lines) ∨ (x.code = 1 ∧ r = .voids false x.lines)) : x.report = some r := by
  have hhome : ¬(x.home = 0 ∨ x.home = allStations) := by
    simp only [isStation, Bool.and_eq_true, decide_eq_true_eq] at hh
    simp only [allStations]
    omega
  have hempty : ¬x.lines.isEmpty = true := fun h => hl (List.isEmpty_iff.1 h)
  rw [TicketStateFields.report, if_neg hhome, if_neg (by rw [hform]; decide), if_neg hempty]
  rcases hc with ⟨hc, rfl⟩ | ⟨hc, rfl⟩ <;> simp only [hc]

theorem report_undefined
    (h : x.home = 0 ∨ x.home = 127 ∨ (x.form = 0 ∧ 4 < x.code) ∨ (x.form = 1 ∧ (x.lines = [] ∨ 1 < x.code))) : x.report = none := by
  unfold TicketStateFields.report
  by_cases hhome : x.home = 0 ∨ x.home = allStations
  · rw [if_pos hhome]
  · rw [if_neg hhome]
    obtain ⟨hform, hc⟩ | ⟨hform, hl⟩ := (h.resolve_left fun h => hhome (.inl h)).resolve_left fun h => hhome (.inr h)
    · obtain ⟨c, hcode⟩ : ∃ c, x.code = c + 5 := ⟨x.code - 5, by omega⟩
      rw [if_pos hform]
      simp only [hcode]
    · have hform' : ¬x.form = 0 := by rw [hform]; decide
      rw [if_neg hform']
      by_cases he : x.lines.isEmpty = true
      · rw [if_pos he]
      · have hc := hl.resolve_left fun h => he (List.isEmpty_iff.2 h)
        obtain ⟨c, hcode⟩ : ∃ c, x.code = c + 2 := ⟨x.code - 2, by omega⟩
        rw [if_neg he]
        simp only [hcode]

theorem exec_ticketStateFrame_undefined (h : frameReady Kind.ticketState f rest s = true) (hx : rTicketState.exact f.payload = some x)
    (hr : x.report = none) : exec .ticketStateFrame s = .next (afterFrame s (popped rest s)) := by
  refine (deliver_runs _ h).trans ?_
  simp only [hx, Option.bind_some, hr, Option.map_none]

theorem exec_ticketStateFrame_elsewhere (h : frameReady Kind.ticketState f rest s = true)
    (hx : rTicketState.exact f.payload = some x) (hne : x.home ≠ own s ∨ x.orphan ≠ 0) :
    exec .ticketStateFrame s = .next (afterFrame s (popped rest s)) := by
  cases hr : x.report with
  | none => exact exec_ticketStateFrame_undefined h hx hr
  | some r =>
    refine (deliver_runs _ h).trans ?_
    have hno : ¬(inService (popped rest s) && hasRole (popped rest s) .till && x.home == own (popped rest s) && x.orphan == 0) = true :=
      fun hyes => by
        simp only [Bool.and_eq_true, beq_iff_eq] at hyes
        obtain ⟨⟨-, hhome⟩, horphan⟩ := hyes
        exact hne.elim (fun h => h hhome) fun h => h horphan
    simp only [hx, Option.bind_some, hr, Option.map_some, if_neg hno]

theorem exec_ticketStateFrame (h : requestReady Kind.ticketState .till f rest s = true) (hx : rTicketState.exact f.payload = some x)
    (hr : x.report = some r) (hh : x.home = own s) (ho : x.orphan = 0) :
    exec .ticketStateFrame s = .next (afterFrame s (applyReport ownVoid f.source x.ticket r (popped rest s))) := by
  simp only [requestReady, Bool.and_eq_true] at h
  obtain ⟨⟨hf, hs⟩, hrole⟩ := h
  refine (deliver_runs _ hf).trans ?_
  have hyes : (inService (popped rest s) && hasRole (popped rest s) .till && x.home == own (popped rest s) && x.orphan == 0) = true := by
    simp only [Bool.and_eq_true, beq_iff_eq]
    exact ⟨⟨⟨hs, hrole⟩, hh⟩, ho⟩
  simp only [hx, Option.bind_some, hr, Option.map_some, if_pos hyes]

end

theorem frameReady_of_requestReady {kind : Nat} {role : Role} {f : Frame} {rest : List Frame} {s : State}
    (h : requestReady kind role f rest s = true) : frameReady kind f rest s = true := by
  simp only [requestReady, Bool.and_eq_true] at h
  exact h.1.1

theorem strayVoid_told {hand : OwnVoid} {t : Ticket} {k : Nat} {s : State} (h : k ∈ t.stray) : strayVoid hand t k s = s :=
  if_pos (List.contains_iff_mem.2 h)

theorem strayVoid_asks {hand : OwnVoid} {t : Ticket} {k : Nat} {s : State} (h : k ∉ t.stray) :
    strayVoid hand t k s =
      requestVoid hand ⟨k, t.number, t.tab, [], .stray⟩ (modTicket t.number (fun r => { r with stray := r.stray ++ [k] }) s) :=
  if_neg fun hc => h (List.contains_iff_mem.1 hc)

/-- Settles O46: the frame by its fields, the report by the record, and the record's moves by the kitchen state. -/
theorem placementReportsMoveTheTicket : Obligations.PlacementReportsMoveTheTicket := by
  unfold Obligations.PlacementReportsMoveTheTicket
  refine ⟨fun f rest x r s h hx => ⟨fun hne => exec_ticketStateFrame_elsewhere (frameReady_of_requestReady h) hx hne,
      fun hh hs ho hform => ?_⟩,
    fun f rest x s h hx hbad => exec_ticketStateFrame_undefined h hx (report_undefined hbad),
    fun hand k n r s => ⟨applyReport_none, fun t h => ⟨fun ks hst => applyReport_placed h hst, fun hp ho => applyReport_accepts h hp ho,
      fun hst => ⟨fun hr => (applyReport_stray h hst).trans (applyStray_voids hr),
        fun h1 h2 => (applyReport_stray h hst).trans (applyStray_other h1 h2)⟩⟩⟩,
    fun hand t k s => ⟨strayVoid_told, strayVoid_asks⟩,
    fun t k ks s => ⟨fun dst => rfl, fun hq => if_pos hq, fun hq => if_neg hq, fun hr => if_neg hr, fun hr => if_pos hr, rfl, rfl, rfl,
      fun lines => rfl, fun lines => rfl⟩⟩
  have hs' : isStation x.home = true := hh ▸ hs
  rcases hform with ⟨hform, hc⟩ | ⟨hform, hl, hc⟩
  · exact exec_ticketStateFrame h hx (report_state hs' hform hc) hh ho
  · exact exec_ticketStateFrame h hx (report_voids hs' hform hl hc) hh ho

end Sys2Proof.Machine
end

section
/-! The kitchen a record is offered to (R80, R81). -/

namespace Sys2Proof.Machine

section
variable {s : State} {t : Ticket} {k : Nat}

/-! ## Who can serve a record -/

/-- A kitchen not yet tried that serves the record's prep class. -/
def IsCandidate (s : State) (t : Ticket) (k : Nat) : Prop :=
  k ∉ t.tried ∧
    ((∃ p ∈ s.dir.entries, p.station = k ∧ p.presence = .present ∧ p.kitchen = true ∧ t.prep ∈ p.prep) ∨
      (k = own s ∧ s.cfg.kitchen = true ∧ t.prep ∈ s.cfg.prep))

theorem mem_candidates_iff : k ∈ candidates s t ↔ IsCandidate s t k := by
  have htried : (!t.tried.contains k) = true ↔ k ∉ t.tried := by simp
  have hown : (s.cfg.kitchen = true ∧ t.prep ∈ s.cfg.prep) ∧ k = own s ↔ k = own s ∧ s.cfg.kitchen = true ∧ t.prep ∈ s.cfg.prep :=
    and_comm
  have hpeer : (∃ p ∈ s.dir.entries, (p.presence = .present ∧ p.kitchen = true ∧ t.prep ∈ p.prep) ∧ p.station = k) ↔
      ∃ p ∈ s.dir.entries, p.station = k ∧ p.presence = .present ∧ p.kitchen = true ∧ t.prep ∈ p.prep :=
    exists_congr fun p => and_congr_right fun _ => and_comm
  rw [candidates, List.mem_filter, mem_servingKitchens, htried, IsCandidate, hown, hpeer, and_comm]

/-! ## The stock filter -/

/-- A line the record lists is of the item. -/
def Listed (s : State) (t : Ticket) (item : Nat) : Prop :=
  ∃ u, findTab s t.tab = some u ∧ ∃ l ∈ u.lines, l.number ∈ t.lines ∧ l.item = item

theorem mem_ticketItems_iff (item : Nat) : item ∈ ticketItems s t ↔ Listed s t item := by
  unfold ticketItems Listed
  cases findTab s t.tab with
  | none => simp
  | some u => simp [and_assoc]

/-- The kitchen is out of an item the record lists. -/
def IsOut (s : State) (t : Ticket) (k : Nat) : Prop :=
  ∃ item, Listed s t item ∧
    ((k = own s ∧ ∃ p, findPortion s item = some p ∧ p.remaining = 0) ∨
      (k ≠ own s ∧ ∃ e ∈ s.stock, e.item = item ∧ e.kitchen = k ∧ e.state = .out))

theorem judgedOut_iff (item : Nat) :
    judgedOut s k item = true ↔
      (k = own s ∧ ∃ p, findPortion s item = some p ∧ p.remaining = 0) ∨
        (k ≠ own s ∧ ∃ e ∈ s.stock, e.item = item ∧ e.kitchen = k ∧ e.state = .out) := by
  by_cases hk : k = own s
  · subst hk
    simp only [judgedOut_own, true_and, ne_eq, not_true_eq_false, false_and, or_false]
  · simp only [judgedOut_peer hk, hk, false_and, false_or, ne_eq, not_false_eq_true, true_and]

theorem anyOut_iff : (ticketItems s t).any (judgedOut s k) = true ↔ IsOut s t k := by
  simp only [List.any_eq_true, mem_ticketItems_iff, judgedOut_iff, IsOut]

/-! ## The hold filter -/

/-- The kitchen is on hold. -/
def IsHeld (s : State) (k : Nat) : Prop :=
  (k = own s ∧ s.kitchen.hold = true) ∨ (k ≠ own s ∧ ∃ p l, findPeer s k = some p ∧ p.load = some l ∧ l.hold = true)

theorem onHold_iff : onHold s k = true ↔ IsHeld s k := by
  unfold onHold IsHeld
  by_cases hk : k = own s
  · simp [hk]
  · cases hp : findPeer s k with
    | none => simp [hk]
    | some p => cases hl : p.load <;> simp [hk, hl]

/-! ## The least load -/

/-- The load the router compares. -/
def loadOf (s : State) (k : Nat) : Nat :=
  if k = own s then s.kitchen.queued.length + s.kitchen.fired.length
  else
    match findPeer s k with
    | none => 0
    | some p =>
      match p.load with
      | none => 0
      | some l => l.depth + l.placed

theorem projectedLoad_eq (s : State) (k : Nat) : projectedLoad s k = loadOf s k := by
  unfold projectedLoad loadOf
  split
  · rfl
  · cases findPeer s k with
    | none => rfl
    | some p => cases hl : p.load <;> simp [hl]

/-- Kitchen `k` is chosen no later than `x`: by load, then distance, then number. -/
def NoWorse (s : State) (k x : Nat) : Prop :=
  projectedLoad s k < projectedLoad s x ∨
    (projectedLoad s k = projectedLoad s x ∧
      (distance k (own s) < distance x (own s) ∨ (distance k (own s) = distance x (own s) ∧ k ≤ x)))

theorem noWorse_refl (s : State) (k : Nat) : NoWorse s k k := .inr ⟨rfl, .inr ⟨rfl, Nat.le_refl k⟩⟩

theorem noWorse_trans {a b c : Nat} (h1 : NoWorse s a b) (h2 : NoWorse s b c) : NoWorse s a c := by
  unfold NoWorse at *
  omega

theorem noWorse_of_choosesOver {a b : Nat} (h : choosesOver s a b = true) : NoWorse s a b := by
  simp only [choosesOver, Bool.or_eq_true, Bool.and_eq_true, decide_eq_true_eq, beq_iff_eq] at h
  unfold NoWorse
  omega

theorem noWorse_of_not_choosesOver {a b : Nat} (h : choosesOver s a b = false) : NoWorse s b a := by
  rw [← Bool.not_eq_true] at h
  simp only [choosesOver, Bool.or_eq_true, Bool.and_eq_true, decide_eq_true_eq, beq_iff_eq] at h
  unfold NoWorse
  omega

theorem bestOf_some {l : List Nat} : ∀ {k : Nat}, bestOf s l = some k → k ∈ l ∧ ∀ x ∈ l, NoWorse s k x := by
  induction l with
  | nil => exact fun h => nomatch h
  | cons a l ih =>
    intro k h
    unfold bestOf at h
    cases hb : bestOf s l with
    | none =>
      rw [hb] at h
      cases h
      rw [(bestOf_eq_none s l).1 hb]
      exact ⟨List.mem_cons_self, by simp [noWorse_refl]⟩
    | some b =>
      obtain ⟨hmem, hbest⟩ := ih hb
      simp only [hb] at h
      by_cases hc : choosesOver s b a = true
      · rw [if_pos hc] at h
        cases h
        exact ⟨List.mem_cons_of_mem _ hmem, List.forall_mem_cons.2 ⟨noWorse_of_choosesOver hc, hbest⟩⟩
      · rw [if_neg hc] at h
        cases h
        have hab := noWorse_of_not_choosesOver (Bool.eq_false_iff.2 hc)
        exact ⟨List.mem_cons_self, List.forall_mem_cons.2 ⟨noWorse_refl s _, fun x hx => noWorse_trans hab (hbest x hx)⟩⟩

/-! ## The choice -/

/-- A candidate that passes the stock filter, which is dropped where it leaves none. -/
def Stocked (s : State) (t : Ticket) (k : Nat) : Prop := IsCandidate s t k ∧ (¬IsOut s t k ∨ ∀ x, IsCandidate s t x → IsOut s t x)

theorem mem_stocked_iff :
    k ∈ filterUnlessEmpty (fun k => !(ticketItems s t).any (judgedOut s k)) (candidates s t) ↔ Stocked s t k := by
  simp only [mem_filterUnlessEmpty, mem_candidates_iff, Bool.not_eq_true', anyOut_iff, ← Bool.not_eq_true, Stocked,
    Classical.not_not]

/-- A stocked kitchen that passes the hold filter, which is dropped where it leaves none. -/
def OpenFor (s : State) (t : Ticket) (k : Nat) : Prop := Stocked s t k ∧ (¬IsHeld s k ∨ ∀ x, Stocked s t x → IsHeld s x)

theorem mem_open_iff :
    k ∈ filterUnlessEmpty (fun k => !onHold s k)
        (filterUnlessEmpty (fun k => !(ticketItems s t).any (judgedOut s k)) (candidates s t)) ↔ OpenFor s t k := by
  simp only [mem_filterUnlessEmpty (fun k => !onHold s k), mem_stocked_iff, Bool.not_eq_true', onHold_iff,
    ← Bool.not_eq_true, OpenFor, Classical.not_not]

theorem filterUnlessEmpty_eq_nil (p : Nat → Bool) (l : List Nat) : filterUnlessEmpty p l = [] ↔ l = [] := by
  refine ⟨fun h => ?_, fun h => by rw [h]; rfl⟩
  unfold filterUnlessEmpty at h
  split at h
  · exact h
  · rename_i hne
    exact absurd (List.isEmpty_iff.2 h) hne

theorem chooseKitchen_none_iff : chooseKitchen s t = none ↔ ∀ k, ¬IsCandidate s t k := by
  rw [chooseKitchen, bestOf_eq_none, filterUnlessEmpty_eq_nil, filterUnlessEmpty_eq_nil, List.eq_nil_iff_forall_not_mem]
  exact forall_congr' fun k => not_congr mem_candidates_iff

theorem chooseKitchen_some (h : chooseKitchen s t = some k) : OpenFor s t k ∧ ∀ x, OpenFor s t x → NoWorse s k x := by
  obtain ⟨hk, hbest⟩ := bestOf_some h
  exact ⟨mem_open_iff.1 hk, fun x hx => hbest x (mem_open_iff.2 hx)⟩

end

/-- Settles O47: the filters name the kitchens open to the record, and the choice is the best of them. -/
theorem routerChoosesTheBestKitchen : Obligations.RouterChoosesTheBestKitchen := by
  unfold Obligations.RouterChoosesTheBestKitchen
  intro s t
  refine ⟨chooseKitchen_none_iff, fun k => mem_candidates_iff, fun k h => ?_⟩
  obtain ⟨hopen, hbest⟩ := chooseKitchen_some h
  refine ⟨hopen, fun x hx => ?_⟩
  have hno := hbest x hx
  simp only [NoWorse, projectedLoad_eq] at hno
  exact hno

end Sys2Proof.Machine
end

section
/-! Fire, Ready and Collect, the ticket timers, and what the kitchen's counts and transfers come to (R103, R104, R106 to R108, R110). -/

namespace Sys2Proof.Machine

section
variable {s : State} {ref : Nat} {t : KTicket} {p : Place}

/-! ## Fire -/

theorem exec_fire (h : jobReady (.fire ref) .kitchen s = true) :
    (s.kitchen.byRef ref = none → exec (.fire ref) s = .next (afterCommand (.fire ref) s (.bare .NO_ENTRY) s)) ∧
    ∀ p t, s.kitchen.byRef ref = some (p, t) →
      (p ≠ .queued → exec (.fire ref) s = .next (afterCommand (.fire ref) s (.bare .STATE) s)) ∧
      (p = .queued → s.cfg.fireLimit ≤ s.kitchen.fired.length →
        exec (.fire ref) s = .next (afterCommand (.fire ref) s (.bare .FIRE_LIMIT) s)) ∧
      (p = .queued → s.kitchen.fired.length < s.cfg.fireLimit →
        exec (.fire ref) s =
          .next (afterCommand (.fire ref) s ⟨.OK, e1 (fireTicket ownReport t s).kitchen.fired.length⟩ (fireTicket ownReport t s))) := by
  have hrun : exec (.fire ref) s = _ := carryOut_job _ h
  refine ⟨fun hn => hrun.trans ?_, fun p t hp => ⟨fun hq => hrun.trans ?_, fun hq hl => hrun.trans ?_, fun hq hl => hrun.trans ?_⟩⟩
  · simp only [hn, refuse]
  · cases p with
    | queued => exact absurd rfl hq
    | fired => simp only [hp, refuse]
    | ready => simp only [hp, refuse]
  · subst hq
    simp only [hp, if_pos hl, refuse]
  · subst hq
    simp only [hp, if_neg (Nat.not_le.2 hl)]

/-! ## Ready -/

theorem exec_ready (h : jobReady (.ready ref) .kitchen s = true) :
    (s.kitchen.byRef ref = none → exec (.ready ref) s = .next (afterCommand (.ready ref) s (.bare .NO_ENTRY) s)) ∧
    (∀ t, s.kitchen.byRef ref = some (.ready, t) → exec (.ready ref) s = .next (afterCommand (.ready ref) s (.bare .STATE) s)) ∧
    ∀ p t, s.kitchen.byRef ref = some (p, t) → p ≠ .ready →
      exec (.ready ref) s =
        .next (afterCommand (.ready ref) s (.bare .OK)
          (if p = .fired then autoFire ownReport (holdTest (readyTicket p t s)) else holdTest (readyTicket p t s))) := by
  have hrun : exec (.ready ref) s = _ := carryOut_job _ h
  refine ⟨fun hn => hrun.trans ?_, fun t hp => hrun.trans ?_, fun p t hp hr => hrun.trans ?_⟩
  · simp only [hn, refuse]
  · simp only [hp, refuse]
  · cases p with
    | queued => simp only [hp]; rfl
    | fired => simp only [hp]; rfl
    | ready => exact absurd rfl hr

/-! ## Collect -/

theorem exec_collect (h : jobReady (.collect ref) .kitchen s = true) :
    (s.kitchen.byRef ref = none → exec (.collect ref) s = .next (afterCommand (.collect ref) s (.bare .NO_ENTRY) s)) ∧
    (∀ p t, s.kitchen.byRef ref = some (p, t) → p ≠ .ready →
      exec (.collect ref) s = .next (afterCommand (.collect ref) s (.bare .STATE) s)) ∧
    ∀ t, s.kitchen.byRef ref = some (.ready, t) →
      exec (.collect ref) s = .next (afterCommand (.collect ref) s (.bare .OK) (collectTicket t .collected s)) := by
  have hrun : exec (.collect ref) s = _ := carryOut_job _ h
  refine ⟨fun hn => hrun.trans ?_, fun p t hp hr => hrun.trans ?_, fun t hp => hrun.trans ?_⟩
  · simp only [hn, refuse]
  · cases p with
    | queued => simp only [hp, refuse]
    | fired => simp only [hp, refuse]
    | ready => exact absurd rfl hr
  · simp only [hp]

/-! ## Reports -/

variable {rep : HandOver} {r : Report}

theorem makeReport_sends (hh : t.home ≠ own s) :
    makeReport rep t r s = (sendFrame ⟨Kind.ticketState, 127, 0, eReportPayload t.home t.number t.orphan r⟩ s).2 := if_neg hh

theorem makeReport_orphan (hh : t.home = own s) (ho : t.orphan = true) : makeReport rep t r s = s := by
  rw [makeReport, if_pos hh, if_pos ho]

theorem makeReport_hands (hh : t.home = own s) (ho : t.orphan = false) : makeReport rep t r s = rep t.number r s := by
  rw [makeReport, if_pos hh, if_neg (by rw [ho]; decide)]

theorem ownReport_eq (n : Nat) (r : Report) (s : State) :
    ownReport n r s = applyReport (fun n lines u => kitchenTicketVoid (handReport 119) (own u) n lines u) (own s) n r s := rfl

/-! ## The ticket timers -/

theorem exec_timer {i : Instr} {f : Place → KTicket → State → State} (hi : exec i s = event (onTicket ref f) s)
    (hr : s.station.inReset = false) (hd : s.station.state ≠ .duplicate) (hp : s.kitchen.byRef ref = some (p, t)) :
    exec i s = .next (afterEvent s (f p t s)) := by
  rw [hi, event_runs _ hr, onTicket, if_neg hd]
  simp only [hp]

theorem exec_warnTimerExpiry (hr : s.station.inReset = false) (hd : s.station.state ≠ .duplicate)
    (hp : s.kitchen.byRef ref = some (p, t)) (ht : t.warnTimer.isSome = true) :
    exec (.warnTimerExpiry ref) s =
      .next (afterEvent s (post (.ticketWarn ref t.home t.number s.cfg.warnTime)
        (modKTicket ref (fun u => { u with warn := true, warnTimer := none }) s))) := by
  have ht' : isPending t.warnTimer = true := ht
  refine (exec_timer rfl hr hd hp).trans ?_
  rw [if_pos ht']

theorem exec_lateTimerExpiry (hr : s.station.inReset = false) (hd : s.station.state ≠ .duplicate)
    (hp : s.kitchen.byRef ref = some (p, t)) (ht : t.lateTimer.isSome = true) :
    exec (.lateTimerExpiry ref) s =
      .next (afterEvent s (countLate (post (.ticketLate ref t.home t.number)
        (modKTicket ref (fun u => { u with late := true, lateTimer := none }) s)))) := by
  have ht' : isPending t.lateTimer = true := ht
  refine (exec_timer rfl hr hd hp).trans ?_
  rw [if_pos ht']

theorem exec_collectTimerExpiry (hr : s.station.inReset = false) (hd : s.station.state ≠ .duplicate)
    (hp : s.kitchen.byRef ref = some (.ready, t)) (ht : t.collectTimer.isSome = true) :
    exec (.collectTimerExpiry ref) s =
      .next (afterEvent s (post (.ticketUncollected ref t.home t.number) (collectTicket t .uncollected s))) := by
  refine (exec_timer rfl hr hd hp).trans ?_
  rw [if_pos ⟨rfl, ht⟩]

end

/-- Settles O48: Fire, Ready and Collect by the list that holds the ticket, the reports by its home, the timers, counts and transfers. -/
theorem kitchenMovesTickets : Obligations.KitchenMovesTickets := by
  unfold Obligations.KitchenMovesTickets
  refine ⟨⟨fun ref t s h hp hl => ((exec_fire h).2 _ _ hp).2.2 rfl hl, fun ref t p s h hp hr => (exec_ready h).2.2 p t hp hr,
      fun ref t s h hp => (exec_collect h).2.2 t hp, fun t r s => ⟨makeReport_sends, makeReport_orphan, fun hh ho => ?_⟩⟩,
    fun ref t p s hr hd hp => ⟨exec_warnTimerExpiry hr hd hp, exec_lateTimerExpiry hr hd hp, fun hready ht => ?_⟩,
    fun ref r s h hr => ?_, fun ref r s h hr => ?_, fun ref r s h hr => ?_, fun n s => ⟨rfl, rfl, rfl, rfl, rfl⟩,
    fun q p => ⟨rfl, rfl, giveBack_eq q p, rfl⟩, fun f hf lines s => ?_⟩
  · have hhand : makeReport ownReport t r s = ownReport t.number r s := makeReport_hands hh ho
    rw [hhand, ownReport_eq]
    exact ⟨rfl, applyReport_none, fun x ks hx hst => applyReport_placed hx hst⟩
  · subst hready
    exact exec_collectTimerExpiry hr hd hp ht
  · obtain ⟨hnone, hsome⟩ := exec_fire h
    rcases hr with ⟨hn, rfl⟩ | ⟨p, t, hp, ⟨hq, rfl⟩ | ⟨hq, hl, rfl⟩⟩
    · exact hnone hn
    · exact (hsome p t hp).1 hq
    · exact (hsome p t hp).2.1 hq hl
  · obtain ⟨hnone, hstate, -⟩ := exec_ready h
    rcases hr with ⟨hn, rfl⟩ | ⟨t, hp, rfl⟩
    · exact hnone hn
    · exact hstate t hp
  · obtain ⟨hnone, hstate, -⟩ := exec_collect h
    rcases hr with ⟨hn, rfl⟩ | ⟨p, t, hp, hr, rfl⟩
    · exact hnone hn
    · exact hstate p t hp hr
  · have hitem : ∀ q p, (f q p).item = p.item := by
      simp only [List.mem_cons, List.not_mem_nil, or_false] at hf
      rcases hf with rfl | rfl | rfl | rfl
      · exact fun _ _ => rfl
      · exact fun _ _ => rfl
      · exact fun q p => by rw [giveBack_eq]
      · exact fun _ _ => rfl
    exact transferAll_eq hitem lines s

end Sys2Proof.Machine
end

section
/-! Voids at the kitchen, by command, by frame and handed over (R110 to R113). -/

namespace Sys2Proof.Machine

section
variable {s : State} {ref : Nat} {lines names : List Nat} {t : KTicket} {p : Place}

/-! ## The lines a command names -/

/-- The line is one of the ticket's and not yet VOID. -/
def KTicket.isActive (t : KTicket) (n : Nat) : Prop := ∃ l ∈ t.lines, l.line = n ∧ l.void = none

theorem any_active_iff (n : Nat) : t.active.any (·.line == n) = true ↔ t.isActive n := by
  simp only [List.any_eq_true, KTicket.active, KLine.active, List.mem_filter, Option.isNone_iff_eq_none, beq_iff_eq, KTicket.isActive]
  exact exists_congr fun l => ⟨fun ⟨⟨hl, hv⟩, hn⟩ => ⟨hl, hn, hv⟩, fun ⟨hl, hn, hv⟩ => ⟨⟨hl, hv⟩, hn⟩⟩

theorem badLine_none (h : ∀ n ∈ lines, t.isActive n) : badLine t lines = none :=
  List.find?_eq_none.2 fun n hn => by simp [(any_active_iff n).2 (h n hn)]

theorem badLine_first {before after : List Nat} {n : Nat} (hl : lines = before ++ n :: after) (hb : ∀ m ∈ before, t.isActive m)
    (hn : ¬t.isActive n) : badLine t lines = some n := by
  refine find_first hl ?_ fun m hm => ?_
  · simp only [Bool.not_eq_true', ← Bool.not_eq_true, any_active_iff]
    exact hn
  · simp only [(any_active_iff m).2 (hb m hm), Bool.not_true]

theorem exec_kitchenVoid (h : jobReady (.kitchenVoid ref lines) .kitchen s = true) :
    (s.kitchen.byRef ref = none →
      exec (.kitchenVoid ref lines) s = .next (afterCommand (.kitchenVoid ref lines) s (.bare .NO_ENTRY) s)) ∧
    ∀ p t, s.kitchen.byRef ref = some (p, t) →
      (p = .ready → exec (.kitchenVoid ref lines) s = .next (afterCommand (.kitchenVoid ref lines) s (.bare .STATE) s)) ∧
      (p ≠ .ready → 8 < lines.length →
        exec (.kitchenVoid ref lines) s = .next (afterCommand (.kitchenVoid ref lines) s (.bare .BAD_PARAM) s)) ∧
      (∀ n, p ≠ .ready → lines.length ≤ 8 → badLine t lines = some n →
        exec (.kitchenVoid ref lines) s = .next (afterCommand (.kitchenVoid ref lines) s ⟨.BAD_LINE, e1 n⟩ s)) ∧
      (p ≠ .ready → lines.length ≤ 8 → badLine t lines = none → lines.Nodup →
        exec (.kitchenVoid ref lines) s =
          .next (afterCommand (.kitchenVoid ref lines) s
            ⟨.OK, e1 (if lines.isEmpty then t.active.map (·.line) else lines).length⟩
            (voidKLines ownReport p t (if lines.isEmpty then t.active.map (·.line) else lines) true s))) := by
  have hrun : exec (.kitchenVoid ref lines) s = _ := carryOut_job _ h
  refine ⟨fun hn => hrun.trans ?_, fun p t hp => ⟨fun hr => hrun.trans ?_, fun hr h8 => hrun.trans ?_,
    fun n hr h8 hb => hrun.trans ?_, fun hr h8 hb hd => hrun.trans ?_⟩⟩
  · simp only [hn, refuse]
  · subst hr
    simp only [hp, refuse]
  · cases p with
    | ready => exact absurd rfl hr
    | _ => simp only [hp, if_pos h8, refuse]
  · cases p with
    | ready => exact absurd rfl hr
    | _ => simp only [hp, if_neg (Nat.not_lt.2 h8), hb]
  · have hnames : lines.foldl (fun l n => addNew n l) [] = lines := by simp [foldl_addNew hd]
    cases p with
    | ready => exact absurd rfl hr
    | _ => simp only [hp, if_neg (Nat.not_lt.2 h8), hb, hnames]

/-! ## TICKET-VOID -/

theorem kitchenTicketVoid_none {rep : HandOver} {home number : Nat} (h : s.kitchen.byKey home number = none) :
    kitchenTicketVoid rep home number lines s = (.unknown, s) := by
  simp only [kitchenTicketVoid, h]

theorem kitchenTicketVoid_some {rep : HandOver} {home number : Nat} (h : s.kitchen.byKey home number = some (p, t)) :
    kitchenTicketVoid rep home number lines s =
      (.lines ((if lines.isEmpty then t.lines.map (·.line) else lines).map fun n => (n, (lineVoidResult p t n).code)),
        voidKLines rep p t (if lines.isEmpty then t.lines.map (·.line) else lines) false s) := by
  simp only [kitchenTicketVoid, h]

theorem eList_map {α β : Type} (e : β → Bytes) (g : α → β) (l : List α) : eList e (l.map g) = eList (fun a => e (g a)) l := by
  simp only [eList, List.length_map, List.map_map]
  rfl

variable {f : Frame} {rest : List Frame} {number : Nat}

theorem exec_ticketVoidFrame_long (h : requestReady Kind.ticketVoid .kitchen f rest s = true)
    (hp : rTicketVoid.exact f.payload = some (number, lines)) (h8 : 8 < lines.length) :
    exec .ticketVoidFrame s = .next (afterRequest s f number 0 (.bare .BAD_PARAM) (popped rest s)) := by
  refine (request_runs rTicketVoid (·.1) (fun _ => 0) _ h hp).trans ?_
  rw [if_pos h8]
  rfl

theorem exec_ticketVoidFrame_unknown (h : requestReady Kind.ticketVoid .kitchen f rest s = true)
    (hp : rTicketVoid.exact f.payload = some (number, lines)) (h8 : lines.length ≤ 8)
    (hk : s.kitchen.byKey f.source number = none) :
    exec .ticketVoidFrame s = .next (afterRequest s f number 0 (.bare .UNKNOWN) (popped rest s)) := by
  refine (request_runs rTicketVoid (·.1) (fun _ => 0) _ h hp).trans ?_
  rw [if_neg (Nat.not_lt.2 h8)]
  have hk' : ∀ r, (sendAnswer f.source f.kind f.tag number 0 r (popped rest s)).kitchen.byKey f.source number = none := fun r => by
    rw [sendAnswer_kitchen]
    exact hk
  have hrun := fun r => kitchenTicketVoid_none (rep := ownReport) (lines := lines) (hk' r)
  simp only [kitchenTicketVoid_none (s := popped rest s) hk, hrun]
  rfl

theorem exec_ticketVoidFrame (h : requestReady Kind.ticketVoid .kitchen f rest s = true)
    (hp : rTicketVoid.exact f.payload = some (number, lines)) (h8 : lines.length ≤ 8)
    (hk : s.kitchen.byKey f.source number = some (p, t)) :
    exec .ticketVoidFrame s =
      .next (afterFrame s (voidKLines ownReport p t (if lines.isEmpty then t.lines.map (·.line) else lines) false
        (sendAnswer f.source Kind.ticketVoid f.tag number 0
          ⟨.OK, eList (fun n => e1 n ++ e1 (lineVoidResult p t n).code) (if lines.isEmpty then t.lines.map (·.line) else lines)⟩
          (popped rest s)))) := by
  refine (request_runs rTicketVoid (·.1) (fun _ => 0) _ h hp).trans ?_
  rw [if_neg (Nat.not_lt.2 h8)]
  rw [kind_of_requestReady h]
  have hk' : ∀ r, (sendAnswer f.source Kind.ticketVoid f.tag number 0 r (popped rest s)).kitchen.byKey f.source number = some (p, t) :=
    fun r => by
      rw [sendAnswer_kitchen]
      exact hk
  simp only [kitchenTicketVoid_some (s := popped rest s) hk, VoidAnswer.reply, eList_map, kitchenTicketVoid_some (hk' _)]

/-! ## What a void leaves -/

theorem transferAll_router {g : Nat → Portion → Portion} (hg : ∀ q p, (g q p).item = p.item) (ls : List KLine) (s : State) :
    (transferAll g ls s).router = s.router ∧ own (transferAll g ls s) = own s := by
  obtain ⟨l, h, -⟩ := transferAll_spec s g hg ls
  rw [h]
  exact ⟨rfl, rfl⟩

theorem voidPaid_router (p : Place) (t : KTicket) (names : List Nat) (s : State) :
    (voidPaid p t names s).router = s.router ∧ own (voidPaid p t names s) = own s := by
  cases p with
  | queued => exact transferAll_router (fun q p => by rw [giveBack_eq]) _ _
  | _ => exact transferAll_router (g := Portion.addWaste) (fun _ _ => rfl) _ _

theorem active_isEmpty_iff : t.active.isEmpty = true ↔ ∀ l ∈ t.lines, l.void ≠ none := by
  simp only [List.isEmpty_iff, KTicket.active, List.filter_eq_nil_iff, KLine.active, Option.isNone_iff_eq_none, ne_eq]

end

/-- Settles O49: the command and the frame by the record and the lines named, and the effects by what is left ACTIVE. -/
theorem kitchenVoidsLines : Obligations.KitchenVoidsLines := by
  unfold Obligations.KitchenVoidsLines
  intro outcome
  have hout : ∀ p t n, lineVoidResult p t n = outcome p t n := fun p t n => by
    simp only [outcome, lineVoidResult]
    cases t.lines.find? (·.line == n) with
    | none => rfl
    | some l =>
      cases hv : l.void with
      | none => cases p <;> simp only [hv] <;> rfl
      | some o => cases o <;> simp only [hv] <;> rfl
  refine ⟨fun ref lines t p s h hp hr h8 hd ha => ((exec_kitchenVoid h).2 p t hp).2.2.2 hr h8 (badLine_none ha) hd,
    fun f rest number lines t p s h hp h8 hk => ?_, fun ref lines r s h hr => ?_,
    fun f rest number lines s h hp => ⟨exec_ticketVoidFrame_long h hp, exec_ticketVoidFrame_unknown h hp⟩,
    fun rep home number lines s => ⟨kitchenTicketVoid_none, fun p t hk => ?_⟩, fun t p names byKitchen s hd => ?_⟩
  · simp only [← hout]
    exact exec_ticketVoidFrame h hp h8 hk
  · obtain ⟨hnone, hsome⟩ := exec_kitchenVoid h
    rcases hr with ⟨hn, rfl⟩ | ⟨p, t, hp, ⟨hr, rfl⟩ | ⟨hr, h8, rfl⟩ | ⟨hr, h8, before, n, after, hl, hb, hna, rfl⟩⟩
    · exact hnone hn
    · exact (hsome p t hp).1 hr
    · exact (hsome p t hp).2.1 hr h8
    · exact (hsome p t hp).2.2.1 n hr h8 (badLine_first hl hb hna)
  · simp only [← hout]
    exact kitchenTicketVoid_some hk
  · intro hit t' moved paid named told dropped gone
    have hhit : (t.active.filter fun l => names.contains l.line) = hit := by
      simp only [KTicket.active, List.filter_filter, hit]
      exact List.filter_congr fun l _ => Bool.and_comm _ _
    have houtcome : p.outcome = if p = .queued then .returned else .wasted := by cases p <;> rfl
    have hvoided : t.voided names p.outcome = t' := by
      rw [houtcome]
      rfl
    have hpaid : voidPaid p t names s = paid := by
      simp only [voidPaid, hhit, hvoided]
      cases p <;> rfl
    have hnamed : ((names.foldl (fun l n => addNew n l) []).filter fun n => hit.any (·.line == n)) = named := by
      simp [foldl_addNew hd, named]
    have hrun : voidKLines ownReport p t names byKitchen s =
        if hit.isEmpty then s else if t'.active.isEmpty then removeVoided ownReport p t' told else told := by
      rw [voidKLines_eq, hhit, hvoided, hpaid]
      simp only [hnamed]
      rfl
    have hkept : paid.router = s.router ∧ own paid = own s := hpaid ▸ voidPaid_router p t names s
    obtain ⟨hrouter, howner⟩ := hkept
    have htold : ∀ x ks, t.home = own s → t.orphan = false → findTicket s t.number = some x → x.state = .placed (own s) ks →
        told = applyPlaced x (own s) ks (.voids byKitchen named) paid := fun x ks hh ho hx hst => by
      have hx' : findTicket paid t'.number = some x := by
        rw [findTicket, hrouter]
        exact hx
      rw [show told = _ from makeReport_hands (hh.trans howner.symm) ho, ownReport_eq, howner]
      exact applyReport_placed hx' hst
    rw [hrun]
    refine ⟨fun h => ?_, fun h ha => ?_, fun h ha => ?_, fun hh => ?_, fun hh ho => ?_, fun hh ho x ks hx hst => ⟨fun hb => ?_, fun hb => ?_⟩⟩
    · rw [if_pos (List.isEmpty_iff.2 h)]
    · obtain ⟨l, hl, hv⟩ := ha
      rw [if_neg fun he => h (List.isEmpty_iff.1 he), if_neg fun he => active_isEmpty_iff.1 he l hl hv]
    · rw [if_neg fun he => h (List.isEmpty_iff.1 he), if_pos (active_isEmpty_iff.2 ha)]
      cases p <;> rfl
    · have hh' : t'.home ≠ own paid := fun he => hh (he.trans howner)
      have htold : told = _ := makeReport_sends hh'
      have hown : own dropped = own paid := by
        show own told = _
        rw [htold]
        simp only [own, sendFrame_station]
      exact ⟨htold, congrArg countVoided (makeReport_sends fun he => hh' (he.trans hown))⟩
    · have htold : told = paid := makeReport_orphan (hh.trans howner.symm) ho
      have hown : own dropped = own paid := by
        show own told = _
        rw [htold]
      exact ⟨htold, congrArg countVoided (makeReport_orphan (hh.trans (howner.symm.trans hown.symm)) ho)⟩
    · subst hb
      rw [htold x ks hh ho hx hst]
      rfl
    · subst hb
      rw [htold x ks hh ho hx hst]
      rfl

end Sys2Proof.Machine
end

section
/-! Load, Remove and Read portions of one item, and the STOCK frame (R118, R123, R124, R128 to R130, R179). -/

namespace Sys2Proof.Machine

section
variable {s : State} {item n low : Nat} {p : Portion}

/-! ## Load -/

theorem exec_load_refused (h : jobReady (.load item n low) .kitchen s = true) (hr : 4095 < item ∨ 9999 < n ∨ 999 < low) :
    exec (.load item n low) s = .next (afterCommand (.load item n low) s (.bare .BAD_PARAM) s) := by
  have hrun : exec (.load item n low) s = _ := carryOut_job _ h
  have hout : 4095 < item ∨ Config.portionLimit < n ∨ 999 < low := hr
  exact hrun.trans (by simp only [if_pos hout, refuse])

theorem exec_load_new (h : jobReady (.load item n low) .kitchen s = true) (hi : item ≤ 4095) (hn : n ≤ 9999) (hl : low ≤ 999)
    (hp : findPortion s item = none) :
    (64 ≤ s.portions.length → exec (.load item n low) s = .next (afterCommand (.load item n low) s (.bare .FULL) s)) ∧
    (s.portions.length < 64 →
      exec (.load item n low) s =
        .next (afterCommand (.load item n low) s ⟨.OK, loadData (Portion.fresh item n low)⟩
          { s with portions := insertBy (·.item) (Portion.fresh item n low) s.portions })) := by
  have hrun : exec (.load item n low) s = _ := carryOut_job _ h
  have hin : ¬(4095 < item ∨ Config.portionLimit < n ∨ 999 < low) := by
    show ¬(4095 < item ∨ 9999 < n ∨ 999 < low)
    omega
  refine ⟨fun h64 => hrun.trans ?_, fun h64 => hrun.trans ?_⟩
  · have hfull : Config.portionCapacity ≤ s.portions.length := h64
    simp only [if_neg hin, hp, if_pos hfull, refuse]
  · have hroom : ¬Config.portionCapacity ≤ s.portions.length := Nat.not_le.2 h64
    simp only [if_neg hin, hp, if_neg hroom]

theorem exec_load_old (h : jobReady (.load item n low) .kitchen s = true) (hi : item ≤ 4095) (hn : n ≤ 9999) (hl : low ≤ 999)
    (hp : findPortion s item = some p) :
    exec (.load item n low) s =
      .next (afterCommand (.load item n low) s ⟨.OK, loadData { p with preset := n, low := low }⟩
        (modPortion item (fun _ => { p with preset := n, low := low }) s)) := by
  have hrun : exec (.load item n low) s = _ := carryOut_job _ h
  have hin : ¬(4095 < item ∨ Config.portionLimit < n ∨ 999 < low) := by
    show ¬(4095 < item ∨ 9999 < n ∨ 999 < low)
    omega
  exact hrun.trans (by simp only [if_neg hin, hp])

/-! ## Remove and Read portions of one item -/

theorem withPortion_found (rule : Portion → Body) (hi : item ≤ 4095) (hp : findPortion s item = some p) :
    withPortion item true rule s = rule p s := by
  rw [withPortion_in_range _ _ ⟨hi, rfl⟩, hp]
  rfl

theorem withPortion_missing (rule : Portion → Body) (hi : item ≤ 4095) (hp : findPortion s item = none) :
    withPortion item true rule s = refuse .NO_ENTRY s := by
  rw [withPortion_in_range _ _ ⟨hi, rfl⟩, hp]
  rfl

theorem withPortion_high (rule : Portion → Body) (hi : 4095 < item) : withPortion item true rule s = refuse .BAD_PARAM s :=
  withPortion_out_of_range _ _ fun h => Nat.not_le.2 hi h.1

/-- What Remove makes of an entry (R128). -/
def removal (p : Portion) : Body := fun s =>
  if 0 < p.held then refuse .HELD s
  else
    (⟨.OK, e2 p.remaining ++ e4 p.used ++ e4 p.loaded ++ e4 p.waste ++ es4 p.adjust⟩,
      { s with portions := s.portions.filter (·.item != p.item), kitchen := s.kitchen.mapAll (clearTaken p.item) })

theorem exec_remove (h : jobReady (.remove item) .kitchen s = true) :
    (4095 < item → exec (.remove item) s = .next (afterCommand (.remove item) s (.bare .BAD_PARAM) s)) ∧
    (item ≤ 4095 → findPortion s item = none → exec (.remove item) s = .next (afterCommand (.remove item) s (.bare .NO_ENTRY) s)) ∧
    ∀ p, item ≤ 4095 → findPortion s item = some p →
      exec (.remove item) s = .next (afterCommand (.remove item) s (removal p s).1 (removal p s).2) := by
  have hrun : exec (.remove item) s = _ := carryOut_job _ h
  refine ⟨fun hi => hrun.trans ?_, fun hi hp => hrun.trans ?_, fun p hi hp => hrun.trans ?_⟩
  · simp only [withPortion_high _ hi, refuse]
  · simp only [withPortion_missing _ hi hp, refuse]
  · simp only [withPortion_found _ hi hp, removal, item_of_findPortion hp]

theorem exec_readPortions_one (h : readReady (.readPortions (some item)) (some .kitchen) s = true) :
    exec (.readPortions (some item)) s =
      .next (afterCommand (.readPortions (some item)) s (withPortion item true (fun p s => (⟨.OK, portionFields p⟩, s)) s).1
        (withPortion item true (fun p s => (⟨.OK, portionFields p⟩, s)) s).2) :=
  carryOut_read _ h

/-! ## The STOCK frame -/

variable {f : Frame} {rest : List Frame} {b : StockFields} {st : StockState}

theorem exec_stockFrame (h : frameReady Kind.stock f rest s = true) (hb : rStock.exact f.payload = some b) (hst : stockCode b.state = some st)
    (hl : listening s = true) (hr : hasRole s .till = true) (hi : b.item ≤ 4095) (hn : b.remaining ≤ 9999) :
    exec .stockFrame s = .next (afterFrame s (takeReport f.source b st (popped rest s))) := by
  refine (deliver_runs _ h).trans ?_
  have hall : (listening (popped rest s) && hasRole (popped rest s) .till && decide (b.item ≤ 4095) &&
      decide (b.remaining ≤ Config.portionLimit)) = true := by
    simp only [Bool.and_eq_true, decide_eq_true_eq]
    exact ⟨⟨⟨hl, hr⟩, hi⟩, hn⟩
  simp only [hb, hst, if_pos hall]

theorem stockCode_none {c : Nat} (h : 2 < c) : stockCode c = none := by
  obtain ⟨k, rfl⟩ : ∃ k, c = k + 3 := ⟨c - 3, by omega⟩
  rfl

theorem exec_stockFrame_discarded (h : frameReady Kind.stock f rest s = true) (hb : rStock.exact f.payload = some b)
    (hr : 2 < b.state ∨ 4095 < b.item ∨ 9999 < b.remaining ∨ listening s = false) :
    exec .stockFrame s = .next (afterFrame s (popped rest s)) := by
  refine (deliver_runs _ h).trans ?_
  simp only [hb]
  cases hst : stockCode b.state with
  | none => rfl
  | some st =>
    have hlow : ¬2 < b.state := fun h2 => by simp [stockCode_none h2] at hst
    have hnot : ¬(listening (popped rest s) && hasRole (popped rest s) .till && decide (b.item ≤ 4095) &&
        decide (b.remaining ≤ Config.portionLimit)) = true := by
      simp only [Bool.and_eq_true, decide_eq_true_eq]
      rintro ⟨⟨⟨hl, -⟩, hi⟩, hn⟩
      rcases hr with h2 | hi' | hn' | hl'
      · exact hlow h2
      · exact Nat.not_le.2 hi' hi
      · exact Nat.not_le.2 hn' hn
      · exact absurd (hl.symm.trans hl') (by decide)
    simp only [if_neg hnot]

/-- A LOW or OUT report joins the end of the view (R130). -/
theorem takeReport_notes {k : Nat} (hst : (b.state = 1 ∧ st = .low) ∨ (b.state = 2 ∧ st = .out)) :
    stockCode b.state = some st ∧
      takeReport k b st s = { s with stock := noteStock ⟨b.item, k, st, b.remaining, stationTime s⟩ s.stock } := by
  rcases hst with ⟨hc, rfl⟩ | ⟨hc, rfl⟩
  · exact ⟨by rw [hc]; rfl, rfl⟩
  · exact ⟨by rw [hc]; rfl, rfl⟩

end

/-- Settles O53: Load, Remove and Read portions by the entry there is, the STOCK frame by its state code. -/
theorem portionAndStockRecords : Obligations.PortionAndStockRecords := by
  unfold Obligations.PortionAndStockRecords
  refine ⟨fun item n low s h hi hn hl => ⟨fun hp => (exec_load_new h hi hn hl hp).2, fun p hp => ?_⟩,
    fun item n low s h => ⟨exec_load_refused h, fun hi hn hl hp => (exec_load_new h hi hn hl hp).1⟩, fun item c s hc => ?_,
    fun item p s h hi hp hheld => ?_, fun item p s h hi hp => ?_, fun f rest b s h hb hl hr hi hn => ?_,
    fun f rest b s => exec_stockFrame_discarded⟩
  · have hitem : p.item = item := item_of_findPortion hp
    exact ⟨_, exec_load_old h hi hn hl hp, entryBecomes_modPortion (f := fun _ => { p with preset := n, low := low }) hp fun _ _ => hitem⟩
  · rcases hc with ⟨rfl, h⟩ | ⟨rfl, h⟩
    · obtain ⟨hhigh, hnone, hsome⟩ := exec_remove h
      exact ⟨hhigh, hnone, fun p hi hp _ hheld => (hsome p hi hp).trans (by simp only [removal, if_pos hheld, refuse])⟩
    · rw [exec_readPortions_one h]
      refine ⟨fun hi => ?_, fun hi hp => ?_, fun p hi hp hc _ => Instr.noConfusion hc⟩
      · rw [withPortion_high _ hi]
        rfl
      · rw [withPortion_missing _ hi hp]
        rfl
  · intro cleared
    refine ((exec_remove h).2.2 p hi hp).trans ?_
    have hitem : p.item = item := item_of_findPortion hp
    simp only [removal, hheld, Nat.lt_irrefl, if_false, hitem]
    rfl
  · rw [exec_readPortions_one h, withPortion_found _ hi hp]
    rfl
  · intro others heard view
    have havail : b.state = 0 → stockCode b.state = some .available := fun hc => by
      rw [hc]
      rfl
    refine ⟨fun hc => exec_stockFrame h hb (havail hc) hl hr hi hn, fun st hst => ?_⟩
    obtain ⟨hcode, hreport⟩ := takeReport_notes (s := popped rest s) (k := f.source) hst
    have hrun : exec .stockFrame s = .next (afterFrame s (view (noteStock (heard st) s.stock))) :=
      (exec_stockFrame h hb hcode hl hr hi hn).trans (by rw [hreport]; rfl)
    have hnote : noteStock (heard st) s.stock = (if 32 ≤ others.length then others.tail else others) ++ [heard st] := rfl
    rw [hrun, hnote]
    refine ⟨fun h32 => ?_, fun oldest newer ho h32 => ?_⟩
    · rw [if_neg (Nat.not_le.2 h32)]
    · rw [if_pos h32, ho, List.tail_cons]

end Sys2Proof.Machine
end

section
/-! Taking a ticket, the hold test, auto-fire and the query (R98 to R102, R105, R109, R114). -/

namespace Sys2Proof.Machine

/-! ## What never lengthens the queued list -/

/-- The queued list is no longer than it was. -/
def NoLonger (s t : State) : Prop := t.kitchen.queued.length ≤ s.kitchen.queued.length

def HandOver.NoLonger (rep : HandOver) : Prop := ∀ n r s, Machine.NoLonger s (rep n r s)

def OwnVoid.NoLonger (hand : OwnVoid) : Prop := ∀ n l s, Machine.NoLonger s (hand n l s).2

section
variable {s t u : State} {rep : HandOver} {hand : OwnVoid}

theorem NoLonger.refl (s : State) : NoLonger s s := Nat.le_refl _

theorem NoLonger.trans (h : NoLonger s t) (k : NoLonger t u) : NoLonger s u := Nat.le_trans k h

theorem noLonger_of_kitchen (h : t.kitchen = s.kitchen) : NoLonger s t := Nat.le_of_eq (by rw [h])

theorem noLonger_drop (ref : Nat) (k : Kitchen) : (k.drop ref).queued.length ≤ k.queued.length := List.length_filter_le _ _

theorem holdTest_noLonger (s : State) : NoLonger s (holdTest s) := by
  unfold holdTest
  dsimp only
  split
  · exact NoLonger.refl s
  · exact Nat.le_of_eq (by simp)

theorem makeReport_noLonger (h : rep.NoLonger) (t : KTicket) (r : Report) (s : State) : NoLonger s (makeReport rep t r s) := by
  unfold makeReport
  split
  · split
    · exact NoLonger.refl s
    · exact h _ _ _
  · exact noLonger_of_kitchen (sendFrame_kitchen _ _)

/-- Firing the head takes at least it off the queued list. -/
theorem fireTicket_shorter (h : rep.NoLonger) {t : KTicket} {rest : List KTicket} (hq : s.kitchen.queued = t :: rest) :
    (fireTicket rep t s).kitchen.queued.length ≤ rest.length := by
  refine Nat.le_trans (makeReport_noLonger h _ _ _) ?_
  rw [transferAll_kitchen]
  show (s.kitchen.queued.filter _).length ≤ _
  rw [hq, List.filter_cons_of_neg (by simp)]
  exact List.length_filter_le _ _

theorem fireTicket_noLonger (h : rep.NoLonger) {t : KTicket} {rest : List KTicket} (hq : s.kitchen.queued = t :: rest) :
    NoLonger s (fireTicket rep t s) := by
  refine Nat.le_trans (fireTicket_shorter h hq) ?_
  rw [hq]
  exact Nat.le_succ _

theorem autoFireLoop_noLonger (h : rep.NoLonger) (n : Nat) (s : State) : NoLonger s (autoFireLoop rep n s) := by
  induction n generalizing s with
  | zero => exact NoLonger.refl s
  | succ n ih =>
    cases hq : s.kitchen.queued with
    | nil =>
      simp only [autoFireLoop, hq]
      exact NoLonger.refl s
    | cons t rest =>
      simp only [autoFireLoop, hq]
      split
      · exact (fireTicket_noLonger h hq).trans (ih _)
      · exact NoLonger.refl s

theorem autoFire_noLonger (h : rep.NoLonger) (s : State) : NoLonger s (autoFire rep s) := by
  unfold autoFire
  split
  · exact autoFireLoop_noLonger h _ _
  · exact NoLonger.refl s

theorem removeVoided_noLonger (h : rep.NoLonger) (p : Place) (t : KTicket) (s : State) : NoLonger s (removeVoided rep p t s) := by
  have hleft : NoLonger s (countVoided (makeReport rep t (.state .voided) { s with kitchen := s.kitchen.drop t.ref })) :=
    Nat.le_trans (makeReport_noLonger h t (.state .voided) { s with kitchen := s.kitchen.drop t.ref }) (noLonger_drop _ _)
  cases p with
  | queued => exact hleft.trans (holdTest_noLonger _)
  | fired => exact hleft.trans ((holdTest_noLonger _).trans (autoFire_noLonger h _))
  | ready => exact hleft

theorem voidKLines_noLonger (h : rep.NoLonger) (p : Place) (t : KTicket) (names : List Nat) (byKitchen : Bool) (s : State) :
    NoLonger s (voidKLines rep p t names byKitchen s) := by
  have hpaid : NoLonger s (voidPaid p t names s) := by
    refine Nat.le_of_eq ?_
    rw [voidPaid_kitchen]
    exact List.length_map _
  rw [voidKLines_eq]
  dsimp only
  split
  · exact NoLonger.refl s
  · have htold := fun named => hpaid.trans (makeReport_noLonger h (t.voided names p.outcome) (.voids byKitchen named) _)
    split
    · exact (htold _).trans (removeVoided_noLonger h _ _ _)
    · exact htold _

theorem kitchenTicketVoid_noLonger (h : rep.NoLonger) (home number : Nat) (lines : List Nat) (s : State) :
    NoLonger s (kitchenTicketVoid rep home number lines s).2 := by
  unfold kitchenTicketVoid
  split
  · exact NoLonger.refl s
  · exact voidKLines_noLonger h _ _ _ _ _

/-! The router's part of a report leaves the kitchen alone but for the voids it hands back. -/

@[simp] theorem voidEnd_kitchen (e : VoidEntry) (a : VoidAnswer) (s : State) : (voidEnd e a s).kitchen = s.kitchen := by
  unfold voidEnd
  split
  · exact post_kitchen _ _
  · simp only [apply_ite State.kitchen, post_kitchen, ite_self]

@[simp] theorem pruneTicket_kitchen (n : Nat) (s : State) : (pruneTicket n s).kitchen = s.kitchen := by
  rcases pruneTicket_cases (s := s) n with h | h <;> rw [h]
  exact dropTicket_kitchen _ _

theorem requestVoid_noLonger (h : hand.NoLonger) (e : VoidEntry) (s : State) : NoLonger s (requestVoid hand e s) := by
  unfold requestVoid
  split
  · exact (h _ _ _).trans (noLonger_of_kitchen (voidEnd_kitchen _ _ _))
  · dsimp only
    split
    · exact NoLonger.refl s
    · split
      · exact noLonger_of_kitchen (voidEnd_kitchen _ _ _)
      · exact NoLonger.refl s

theorem strayVoid_noLonger (h : hand.NoLonger) (t : Ticket) (k : Nat) (s : State) : NoLonger s (strayVoid hand t k s) := by
  unfold strayVoid
  split
  · exact NoLonger.refl s
  · exact (noLonger_of_kitchen (modTicket_kitchen _ _ _)).trans (requestVoid_noLonger h _ _)

@[simp] theorem placedAtKitchen_kitchen (t : Ticket) (k : Nat) (depth : Option Nat) (s : State) :
    (placedAtKitchen t k depth s).kitchen = s.kitchen := by
  cases depth <;> simp [placedAtKitchen]

theorem placeTicket_noLonger (h : hand.NoLonger) (t : Ticket) (k : Nat) (depth : Option Nat) (late : Bool) (s : State) :
    NoLonger s (placeTicket hand t k depth late s) := by
  have hplaced : NoLonger s (placedAtKitchen t k depth s) := noLonger_of_kitchen (placedAtKitchen_kitchen _ _ _ _)
  rw [placeTicket_eq]
  refine NoLonger.trans ?_ (noLonger_of_kitchen (pruneTicket_kitchen _ _))
  split
  · exact hplaced
  · exact hplaced.trans (requestVoid_noLonger h _ _)

@[simp] theorem automaticWithdraw_kitchen (tab : Nat) (sp : SplitRec) (line : Nat) (s : State) :
    (automaticWithdraw tab sp line s).kitchen = s.kitchen := by
  have told : ∀ (l : List Share) (u : State),
      (l.foldl (fun u sh => tellClaimEnd tab sh.number sh.claimant .cancelled u) u).kitchen = u.kitchen := fun l => by
    induction l with
    | nil => exact fun _ => rfl
    | cons x l ih => exact fun u => (ih _).trans (by simp)
  simp [automaticWithdraw, told]

@[simp] theorem tabKitchenVoid_kitchen (tab line : Nat) (s : State) : (tabKitchenVoid tab line s).kitchen = s.kitchen := by
  unfold tabKitchenVoid
  split
  · rfl
  · split
    · rfl
    · split
      · rfl
      · split
        · simp
        · simp
        · split
          · simp [refundLine]
          · simp
        · simp [refundLine]
        · rfl

theorem reportVoids_noLonger (t : Ticket) (lines : List Nat) (s : State) : NoLonger s (reportVoids t lines s) := by
  have told : ∀ (l : List Nat) (u : State), (l.foldl (fun u n => tabKitchenVoid t.tab n u) u).kitchen = u.kitchen := fun l => by
    induction l with
    | nil => exact fun _ => rfl
    | cons x l ih => exact fun u => (ih _).trans (by simp)
  exact noLonger_of_kitchen (by simp [reportVoids, told])

theorem applyPlaced_noLonger (t : Ticket) (k : Nat) (ks : KState) (r : Report) (s : State) : NoLonger s (applyPlaced t k ks r s) := by
  cases r with
  | state st =>
    refine noLonger_of_kitchen ?_
    cases st with
    | fired =>
      simp only [applyPlaced]
      split <;> simp
    | ready =>
      simp only [applyPlaced]
      split <;> simp
    | collected => simp [applyPlaced, endTicket]
    | uncollected => simp [applyPlaced, endTicket]
    | voided => simp [applyPlaced, endTicket]
  | voids byKitchen lines =>
    cases byKitchen with
    | false => exact NoLonger.refl s
    | true => exact reportVoids_noLonger t lines s

theorem applyStray_noLonger (h : hand.NoLonger) (t : Ticket) (k : Nat) (r : Report) (s : State) :
    NoLonger s (applyStray hand t k r s) := by
  unfold applyStray
  split
  · exact strayVoid_noLonger h _ _ _
  · exact strayVoid_noLonger h _ _ _
  · exact NoLonger.refl s

theorem applyReport_noLonger (h : hand.NoLonger) (k n : Nat) (r : Report) (s : State) : NoLonger s (applyReport hand k n r s) := by
  unfold applyReport
  split
  · exact NoLonger.refl s
  · split
    · split
      · exact applyPlaced_noLonger _ _ _ _ _
      · exact applyStray_noLonger h _ _ _ _
    · split
      · dsimp only
        split
        · exact (placeTicket_noLonger h _ _ _ _ _).trans (applyPlaced_noLonger _ _ _ _ _)
        · exact placeTicket_noLonger h _ _ _ _ _
      · exact applyStray_noLonger h _ _ _ _

theorem handReport_noLonger (d : Nat) : HandOver.NoLonger (handReport d) := by
  induction d with
  | zero => exact fun _ _ s => NoLonger.refl s
  | succ d ih => exact fun n r s => applyReport_noLonger (fun _ _ _ => kitchenTicketVoid_noLonger ih _ _ _ _) _ _ _ _

theorem ownReport_noLonger : HandOver.NoLonger ownReport := handReport_noLonger _

/-! ## Auto-fire (R105) -/

/-- The loop's bound plays no part once it reaches the length of the queued list. -/
theorem autoFireLoop_bound (h : rep.NoLonger) : ∀ (n m : Nat) (s : State), s.kitchen.queued.length ≤ n → s.kitchen.queued.length ≤ m →
    autoFireLoop rep n s = autoFireLoop rep m s := by
  intro n
  induction n with
  | zero =>
    intro m s hn _
    have hq : s.kitchen.queued = [] := List.length_eq_zero_iff.1 (Nat.le_zero.1 hn)
    cases m with
    | zero => rfl
    | succ m => simp only [autoFireLoop, hq]
  | succ n ih =>
    intro m s hn hm
    cases hq : s.kitchen.queued with
    | nil =>
      cases m with
      | zero => simp only [autoFireLoop, hq]
      | succ m => simp only [autoFireLoop, hq]
    | cons t rest =>
      rw [hq, List.length_cons] at hn hm
      obtain ⟨m, rfl⟩ : ∃ k, m = k + 1 := ⟨m - 1, by omega⟩
      have hshort := fireTicket_shorter h hq
      simp only [autoFireLoop, hq]
      rw [ih m _ (by omega) (by omega)]

theorem autoFire_stops (h : s.cfg.autoFire = false ∨ s.kitchen.queued = [] ∨ s.cfg.fireLimit ≤ s.kitchen.fired.length) :
    autoFire rep s = s := by
  unfold autoFire
  split
  · rename_i hon
    cases hq : s.kitchen.queued with
    | nil => rfl
    | cons t rest =>
      have hfull : s.cfg.fireLimit ≤ s.kitchen.fired.length := by simpa [hon, hq] using h
      simp only [List.length_cons, autoFireLoop, hq, if_neg (Nat.not_lt.2 hfull)]
  · rfl

theorem autoFire_fires {t : KTicket} {rest : List KTicket} (hkeeps : rep.keeps) (h : rep.NoLonger) (hon : s.cfg.autoFire = true)
    (hq : s.kitchen.queued = t :: rest) (hroom : s.kitchen.fired.length < s.cfg.fireLimit) :
    autoFire rep s = autoFire rep (fireTicket rep t s) := by
  have hcfg : (fireTicket rep t s).cfg = s.cfg := (fireTicket_keeps hkeeps t s).cfg
  have hshort := fireTicket_shorter h hq
  calc autoFire rep s = autoFireLoop rep rest.length (fireTicket rep t s) := by
        simp only [autoFire, hon, if_true, hq, List.length_cons, autoFireLoop, if_pos hroom]
    _ = autoFireLoop rep (fireTicket rep t s).kitchen.queued.length (fireTicket rep t s) :=
        autoFireLoop_bound h _ _ _ hshort (Nat.le_refl _)
    _ = autoFire rep (fireTicket rep t s) := by simp only [autoFire, hcfg, hon, if_true]

end

end Sys2Proof.Machine
end

section
/-! A ticket's offer, the place it takes, the query and the hold test (R98 to R102, R109, R114). -/

namespace Sys2Proof.Machine

section
variable {table : List Portion} {l : OfferLine} {before after seen : List OfferLine}

/-! ## The first line that is short (R101) -/

/-- The line's item has less remaining than the lines up to it ask for together. -/
def ShortAt (table : List Portion) (seen : List OfferLine) (l : OfferLine) : Prop :=
  ∃ p, table.find? (·.item == l.item) = some p ∧ p.remaining < offeredQty l.item (seen ++ [l])

theorem shortItem_stops (rest : List OfferLine) (h : ShortAt table seen l) : shortItem table seen (l :: rest) = some l.item := by
  obtain ⟨p, hp, hlt⟩ := h
  have hlt' : (((seen ++ [l]).filter (·.item == l.item)).map (·.qty)).sum > p.remaining := hlt
  simp only [shortItem, hp, if_pos hlt']

theorem shortItem_passes (rest : List OfferLine) (h : ¬ShortAt table seen l) :
    shortItem table seen (l :: rest) = shortItem table (seen ++ [l]) rest := by
  cases hp : table.find? (·.item == l.item) with
  | none => simp only [shortItem, hp]
  | some p =>
    have hle : ¬(((seen ++ [l]).filter (·.item == l.item)).map (·.qty)).sum > p.remaining := fun hlt => h ⟨p, hp, hlt⟩
    simp only [shortItem, hp, if_neg hle]

theorem shortItem_first (seen : List OfferLine) (hs : ShortAt table (seen ++ before) l)
    (hb : ∀ a x b, before = a ++ x :: b → ¬ShortAt table (seen ++ a) x) :
    shortItem table seen (before ++ l :: after) = some l.item := by
  induction before generalizing seen with
  | nil => exact shortItem_stops after (by rwa [List.append_nil] at hs)
  | cons y before ih =>
    rw [List.cons_append, shortItem_passes _ (by simpa using hb [] y before rfl)]
    refine ih (seen ++ [y]) (by simpa using hs) fun a x b he => ?_
    simpa using hb (y :: a) x b (by rw [he]; rfl)

theorem offeredQty_prefix_le (item : Nat) (a b : List OfferLine) : offeredQty item a ≤ offeredQty item (a ++ b) := by
  rw [offeredQty_append]
  exact Nat.le_add_right _ _

theorem shortItem_passes_all {rest : List OfferLine} (seen : List OfferLine)
    (h : ∀ p ∈ table, offeredQty p.item (seen ++ rest) ≤ p.remaining) : shortItem table seen rest = none := by
  induction rest generalizing seen with
  | nil => rfl
  | cons l rest ih =>
    have hnot : ¬ShortAt table seen l := fun ⟨p, hp, hlt⟩ => by
      have hitem : p.item = l.item := by simpa using List.find?_some hp
      have hall := h p (List.mem_of_find?_eq_some hp)
      rw [hitem, show seen ++ l :: rest = (seen ++ [l]) ++ rest by simp] at hall
      exact Nat.not_le.2 hlt (Nat.le_trans (offeredQty_prefix_le _ _ _) hall)
    rw [shortItem_passes _ hnot]
    exact ih _ (by simpa using h)

/-- What R98 asks of an offer's fields, written out. -/
theorem inRange_iff (o : Offer) : o.inRange = true ↔
    1 ≤ o.lines.length ∧ o.lines.length ≤ 8 ∧ (o.lines.map (·.line)).Nodup ∧ 1 ≤ o.ticket ∧ o.ticket ≤ 65535 ∧
      1 ≤ o.tab ∧ o.tab ≤ 999 ∧ o.rush ≤ 1 ∧
      ∀ l ∈ o.lines, 1 ≤ l.line ∧ l.line ≤ 48 ∧ l.item ≤ 4095 ∧ 1 ≤ l.qty ∧ l.qty ≤ 20 ∧ l.mods.length ≤ 3 ∧
        ∀ m ∈ l.mods, m ≤ 4095 := by
  simp only [Offer.inRange, OfferLine.inRange, Bool.and_eq_true, decide_eq_true_eq, List.all_eq_true, and_assoc]
  constructor
  · rintro ⟨h1, h2, h3, h4, h5⟩
    exact ⟨h1, h2, h3, h5.1, h5.2.1, h5.2.2.1, h5.2.2.2.1, h5.2.2.2.2, h4⟩
  · rintro ⟨h1, h2, h3, h5, h6, h7, h8, h9, h4⟩
    exact ⟨h1, h2, h3, h4, h5, h6, h7, h8, h9⟩

end

section
variable {s : State} {rep : HandOver} {ans : Answering} {home : Nat} {o : Offer}

/-! ## The tests of R100 in their order -/

theorem takeOffer_held {p : Place} {t : KTicket} (h : s.kitchen.byKey home o.ticket = some (p, t)) :
    takeOffer rep ans home o s =
      (acceptReply (s.kitchen.position t.ref) s.kitchen.depth, ans (acceptReply (s.kitchen.position t.ref) s.kitchen.depth) s) := by
  simp only [takeOffer, h, answered]

theorem takeOffer_unserved (h : s.kitchen.byKey home o.ticket = none) (hp : o.prep ∉ s.cfg.prep) :
    takeOffer rep ans home o s = (.bare .NOT_SERVED, ans (.bare .NOT_SERVED) s) := by
  simp [takeOffer, h, answered, hp]

theorem takeOffer_outOfRange (h : s.kitchen.byKey home o.ticket = none) (hp : o.prep ∈ s.cfg.prep) (hr : ¬o.inRange = true) :
    takeOffer rep ans home o s = (.bare .BAD_PARAM, ans (.bare .BAD_PARAM) s) := by
  simp [takeOffer, h, answered, hp, hr]

theorem takeOffer_full (h : s.kitchen.byKey home o.ticket = none) (hp : o.prep ∈ s.cfg.prep) (hr : o.inRange = true)
    (hf : 48 ≤ s.kitchen.all.length) : takeOffer rep ans home o s = (.bare .FULL, ans (.bare .FULL) s) := by
  have hf' : Config.kitchenCapacity ≤ s.kitchen.all.length := hf
  simp [takeOffer, h, answered, hp, hr, hf']

theorem takeOffer_short {item : Nat} (h : s.kitchen.byKey home o.ticket = none) (hp : o.prep ∈ s.cfg.prep) (hr : o.inRange = true)
    (hf : s.kitchen.all.length < 48) (hs : shortItem s.portions [] o.lines = some item) :
    takeOffer rep ans home o s = (⟨.SOLD_OUT, e2 item⟩, ans ⟨.SOLD_OUT, e2 item⟩ s) := by
  have hf' : ¬Config.kitchenCapacity ≤ s.kitchen.all.length := Nat.not_le.2 hf
  simp [takeOffer, h, answered, hp, hr, hf', hs]

theorem takeOffer_accepts {ref : Nat} (h : s.kitchen.byKey home o.ticket = none) (hp : o.prep ∈ s.cfg.prep) (ht : Taken s ref o) :
    takeOffer rep ans home o s = acceptTicket rep ans home ref o s := by
  obtain ⟨hr, hf, hs, href⟩ := ht
  have hf' : ¬Config.kitchenCapacity ≤ s.kitchen.all.length := Nat.not_le.2 hf
  simp [takeOffer, h, hp, hr, hf', hs, href]

/-! ## Positions (R99) -/

theorem position_none {k : Kitchen} {ref : Nat} (h : ∀ t ∈ k.queued, t.ref ≠ ref) : k.position ref = 0 := by
  simp only [Kitchen.position, List.any_eq_true, beq_iff_eq]
  rw [if_neg fun ⟨t, ht, he⟩ => h t ht he]

theorem position_of_split {k : Kitchen} {before after : List KTicket} {t : KTicket} (hq : k.queued = before ++ t :: after)
    (hb : ∀ x ∈ before, x.ref ≠ t.ref) : k.position t.ref = before.length + 1 := by
  have hin : k.queued.any (·.ref == t.ref) = true := by simp [hq]
  have hbefore : (before ++ t :: after).takeWhile (·.ref != t.ref) = before := by
    rw [List.takeWhile_append_of_pos fun x hx => bne_iff_ne.2 (hb x hx), List.takeWhile_cons_of_neg (by simp), List.append_nil]
  rw [Kitchen.position, if_pos hin, hq, hbefore]

theorem enter_position {k : Kitchen} {t : KTicket} (h : ∀ x ∈ k.all, x.ref ≠ t.ref) :
    (k.enter t).position t.ref = if t.rush then (k.queued.takeWhile (·.rush)).length + 1 else k.queued.length + 1 := by
  have hqueued : ∀ x ∈ k.queued, x.ref ≠ t.ref := fun x hx => h x (Kitchen.mem_all.2 (.inl hx))
  split
  · rename_i hr
    refine position_of_split (after := k.queued.dropWhile (·.rush)) ?_ fun x hx => hqueued x (List.takeWhile_subset _ hx)
    simp [Kitchen.enter, enterQueued, hr]
  · rename_i hr
    refine position_of_split (after := []) ?_ hqueued
    simp [Kitchen.enter, enterQueued, hr]

theorem enter_depth (k : Kitchen) (t : KTicket) : (k.enter t).depth = k.queued.length + k.fired.length + 1 := by
  have hlen : (enterQueued t k.queued).length = k.queued.length + 1 := (enterQueued_perm t k.queued).length_eq
  show (enterQueued t k.queued).length + k.fired.length = _
  omega

theorem entered_kitchen (t : KTicket) (s : State) : entered t s =
    { transferAll Portion.take t.lines s with kitchen := s.kitchen.enter t } := by
  show { transferAll Portion.take t.lines s with kitchen := (transferAll Portion.take t.lines s).kitchen.enter t } = _
  rw [transferAll_kitchen]

/-! ## Queries and the hold test -/

variable {f : Frame} {rest : List Frame} {number : Nat}

theorem exec_ticketQueryFrame (h : requestReady Kind.ticketQuery .kitchen f rest s = true)
    (hp : Reader.n2.exact f.payload = some number) :
    (s.kitchen.byKey f.source number = none →
      exec .ticketQueryFrame s = .next (afterRequest s f number 0 (.bare .UNKNOWN) (popped rest s))) ∧
    ∀ p t, s.kitchen.byKey f.source number = some (p, t) →
      exec .ticketQueryFrame s =
        .next (afterRequest s f number 0
          ⟨.OK, e1 p.code ++ e1 (s.kitchen.position t.ref) ++ e1 s.kitchen.depth ++
            eList (fun l : KLine => e1 l.line ++ eFlag l.void.isSome) t.lines⟩ (popped rest s)) := by
  have hrun : exec .ticketQueryFrame s = _ := request_runs Reader.n2 id (fun _ => 0) _ h hp
  refine ⟨fun hk => hrun.trans ?_, fun p t hk => hrun.trans ?_⟩
  · have hnone : kitchenQuery (popped rest s) f.source number = none := by
      show (s.kitchen.byKey f.source number).map _ = none
      rw [hk]
      rfl
    simp only [hnone]
    rfl
  · have hsome : kitchenQuery (popped rest s) f.source number =
        some ⟨p, s.kitchen.position t.ref, s.kitchen.depth, t.lines.map fun l => (l.line, !l.active)⟩ := by
      show (s.kitchen.byKey f.source number).map _ = _
      rw [hk]
      rfl
    have hflag : ∀ l : KLine, (!l.active) = l.void.isSome := fun l => by cases hv : l.void <;> simp [KLine.active, hv]
    simp only [hsome, KitchenView.reply, eList_map, hflag]
    rfl

theorem holdTest_cases (s : State) :
    (holdAfter s.cfg s.kitchen.hold s.kitchen.depth = s.kitchen.hold → holdTest s = s) ∧
    ∀ flag, holdAfter s.cfg s.kitchen.hold s.kitchen.depth = flag → flag ≠ s.kitchen.hold →
      holdTest s = post (.kitchenHold flag s.kitchen.depth) (holdBeacon { s with kitchen := { s.kitchen with hold := flag } }) := by
  refine ⟨fun h => ?_, fun flag h hne => ?_⟩
  · simp only [holdTest, if_pos h]
  · subst h
    simp only [holdTest, if_neg hne]

end

/-- Settles O50: the offer by the tests it passes, the query by the key, the hold test by the flag and the depth, and auto-fire by its
bound, which plays no part. -/
theorem kitchenTakesTickets : Obligations.KitchenTakesTickets := by
  unfold Obligations.KitchenTakesTickets
  refine ⟨fun home o ref s hk hp hr hf hs h1 h48 hfree hleast => ?_, fun f rest number t p s h hn hk => (exec_ticketQueryFrame h hn).2 p t hk,
    fun f rest number s h hn => (exec_ticketQueryFrame h hn).1, fun o => ?_,
    fun k ref => ⟨position_none, fun before t after hq ht hb => ?_⟩, fun s => ?_, fun s => ?_⟩
  · intro t taken queued entered' position depth reply worked
    have htaken : Taken s ref o :=
      { inRange := hr, room := hf, stock := shortItem_passes_all [] hs
        free := leastFree_some h1 h48 (by simpa using hfree) fun m hm hlt => by simpa using hleast m hm hlt }
    have htable : ∀ item, (findPortion s item).isSome = s.portions.any (·.item == item) := fun item => by
      rw [Bool.eq_iff_iff, findPortion, List.find?_isSome, List.any_eq_true]
    have ht : newKTicket s home ref o = t := by
      simp only [newKTicket, htable, t]
    have hentered : entered t s = entered' := entered_kitchen t s
    have hposition : (s.kitchen.enter t).position ref = position := enter_position (t := t) hfree
    have hdepth : (s.kitchen.enter t).depth = depth := enter_depth _ _
    have haccept : ∀ ans, takeOffer ownReport ans home o s = (reply, worked (ans reply entered')) := fun ans => by
      rw [takeOffer_accepts hk hp htaken, acceptTicket_eq, ht]
      simp only [hentered]
      rw [show entered'.kitchen = s.kitchen.enter t from rfl, hposition, hdepth]
      rfl
    refine ⟨haccept noAnswer, fun f rest u h ho hsource hu => ?_⟩
    subst hu hsource
    refine (request_runs rOffer (·.ticket) (fun _ => 0) _ h ho).trans ?_
    rw [haccept, kind_of_requestReady h]
  · intro ranged short answer
    have hranged : o.inRange = true ↔ ranged := inRange_iff o
    have htake : ∀ ans home s r, answer home s r → takeOffer ownReport ans home o s = (r, ans r s) := fun ans home s r ha => by
      rcases ha with ⟨p, t, hk, rfl⟩ | ⟨hk, ⟨hp, rfl⟩ | ⟨hp, hr, rfl⟩ | ⟨hp, hr, hf, rfl⟩ | ⟨hp, hr, hf, before, l, after, hl, hs, hb, rfl⟩⟩
      · exact takeOffer_held hk
      · exact takeOffer_unserved hk hp
      · exact takeOffer_outOfRange hk hp (mt hranged.1 hr)
      · exact takeOffer_full hk hp (hranged.2 hr) hf
      · exact takeOffer_short hk hp (hranged.2 hr) hf (hl ▸ shortItem_first [] hs hb)
    refine ⟨fun f rest r s h ho ha => ?_, fun r s ha => htake noAnswer _ s r ha⟩
    refine (request_runs rOffer (·.ticket) (fun _ => 0) _ h ho).trans ?_
    rw [htake _ _ _ r ha]
    rfl
  · subst ht
    exact position_of_split hq hb
  · intro k depth turned
    obtain ⟨hsame, hturn⟩ := holdTest_cases s
    refine ⟨fun hh hd => hsame ?_, fun hh hd => hturn true ?_ ?_, fun hh hd => hsame ?_, fun hh hd => hturn false ?_ ?_⟩
    · exact (congrArg (fun b => holdAfter s.cfg b s.kitchen.depth) hh).trans ((decide_eq_false (Nat.not_le.2 hd)).trans hh.symm)
    · exact (congrArg (fun b => holdAfter s.cfg b s.kitchen.depth) hh).trans (decide_eq_true hd)
    · exact fun he => Bool.noConfusion (he.trans hh)
    · have hd' : ¬depth ≤ s.cfg.releaseMark := Nat.not_le.2 hd
      exact (congrArg (fun b => holdAfter s.cfg b s.kitchen.depth) hh).trans
        ((congrArg (!·) (decide_eq_false hd')).trans hh.symm)
    · exact (congrArg (fun b => holdAfter s.cfg b s.kitchen.depth) hh).trans (congrArg (!·) (decide_eq_true hd))
    · exact fun he => Bool.noConfusion (he.trans hh)
  · exact ⟨autoFire_stops, fun t rest hon hq hroom => autoFire_fires ownReport_keeps ownReport_noLonger hon hq hroom⟩

end Sys2Proof.Machine
end

section
/-! The lane front end's rows: activity, frame start, silence, a stuck lane, the twin window, Lane restart and a receiver's move
(R140, R144, R146 to R150). -/

namespace Sys2Proof.Machine

section
variable {s : State} {lane : Lane}

/-! ## When peers are heard -/

theorem driving_eq_false : driving s = false ↔ ∀ x ∈ s.tx.slots, x.onWire = false := by
  simp only [driving, List.any_eq_false, Bool.not_eq_true]

theorem onCable_iff : onCable s = true ↔ s.station.state ≠ .loopback := by simp only [onCable, bne_iff_ne, ne_eq]

theorem hearsPeers_iff : hearsPeers s = true ↔ s.station.state ≠ .loopback ∧ ∀ x ∈ s.tx.slots, x.onWire = false := by
  rw [hearsPeers, Bool.and_eq_true, onCable_iff, Bool.not_eq_true', driving_eq_false]

theorem onCable_loopback (h : s.station.state = .loopback) : onCable s = false := by simp [onCable, h]

theorem modRx_eq_of {f g : Receiver → Receiver} (h : f (s.link.rx lane) = g (s.link.rx lane)) : modRx lane f s = modRx lane g s := by
  simp only [modRx, h]

/-! ## Activity and a frame's start (R147, R155) -/

theorem exec_laneActivity (h : s.station.inReset = false) :
    (hearsPeers s = true ∧ (s.link.rx lane).state = .down →
      exec (.laneActivity lane) s = .next (afterEvent s (moveLane lane .hunt s))) ∧
    (¬(hearsPeers s = true ∧ (s.link.rx lane).state = .down) → exec (.laneActivity lane) s = .next (afterEvent s s)) := by
  have hrun : exec (.laneActivity lane) s = _ := event_runs (laneActive lane) h
  exact ⟨fun hc => hrun.trans (by simp only [laneActive, if_pos hc]), fun hc => hrun.trans (by simp only [laneActive, if_neg hc])⟩

theorem exec_laneFrameStart_unheard (h : s.station.inReset = false) (hp : hearsPeers s = false) :
    exec (.laneFrameStart lane) s = .next (afterEvent s s) := by
  refine (event_runs (frameStarts lane) h).trans ?_
  simp [frameStarts, hp]

theorem exec_laneFrameStart (h : s.station.inReset = false) (hp : hearsPeers s = true) :
    ((s.link.rx lane).state = .down →
      exec (.laneFrameStart lane) s = .next (afterEvent s (modRx lane (fun r => { r with carrying := true }) s))) ∧
    ((s.link.rx lane).state = .stuck → exec (.laneFrameStart lane) s = .next (afterEvent s s)) ∧
    ((s.link.rx lane).state = .hunt ∨ (s.link.rx lane).state = .locked →
      exec (.laneFrameStart lane) s =
        .next (afterEvent s (modRx lane (fun r => { r with carrying := true, silence := some 5000 }) s))) := by
  have hrun : exec (.laneFrameStart lane) s = _ := event_runs (frameStarts lane) h
  simp only [frameStarts, if_pos hp] at hrun
  refine ⟨fun hst => hrun.trans ?_, fun hst => hrun.trans ?_, fun hst => hrun.trans ?_⟩
  · rw [modRx_eq_of (g := fun r => { r with carrying := true }) (by simp only [hst])]
  · rw [modRx_fixed (by simp only [hst])]
  · rw [modRx_eq_of (g := fun r => { r with carrying := true, silence := some 5000 })]
    rcases hst with hst | hst <;> simp only [hst] <;> rfl

/-! ## Silence, a stuck lane and its release (R147) -/

theorem exec_laneSilenceExpiry (h : s.station.inReset = false) :
    (s.station.state ≠ .loopback → (s.link.rx lane).state = .hunt ∨ (s.link.rx lane).state = .locked →
      (s.link.rx lane).silence.isSome = true → exec (.laneSilenceExpiry lane) s = .next (afterEvent s (moveLane lane .down s))) ∧
    ((s.link.rx lane).state = .down ∨ (s.link.rx lane).state = .stuck ∨ s.station.state = .loopback →
      exec (.laneSilenceExpiry lane) s = .next (afterEvent s s)) := by
  have hrun : exec (.laneSilenceExpiry lane) s = _ := event_runs (laneSilent lane) h
  refine ⟨fun hc hst ht => hrun.trans ?_, fun hst => hrun.trans ?_⟩
  · have hall : onCable s = true ∧ ((s.link.rx lane).state = .hunt ∨ (s.link.rx lane).state = .locked) ∧
        isPending (s.link.rx lane).silence = true := ⟨onCable_iff.2 hc, hst, ht⟩
    simp only [laneSilent, if_pos hall]
  · have hnot : ¬(onCable s = true ∧ ((s.link.rx lane).state = .hunt ∨ (s.link.rx lane).state = .locked) ∧
        isPending (s.link.rx lane).silence = true) := by
      rintro ⟨hc, hmoved, -⟩
      rcases hst with hst | hst | hst
      · simp [hst] at hmoved
      · simp [hst] at hmoved
      · exact onCable_iff.1 hc hst
    simp only [laneSilent, if_neg hnot]

theorem exec_laneStuck (h : s.station.inReset = false) :
    (s.station.state ≠ .loopback → exec (.laneStuck lane) s =
      .next (afterEvent s (moveLane lane .stuck (modRx lane (fun r => { r with carrying := false }) s)))) ∧
    (s.station.state = .loopback → exec (.laneStuck lane) s = .next (afterEvent s s)) := by
  have hrun : exec (.laneStuck lane) s = _ := event_runs (laneHeld lane) h
  refine ⟨fun hc => hrun.trans ?_, fun hc => hrun.trans ?_⟩
  · simp only [laneHeld, if_pos (onCable_iff.2 hc)]
  · simp [laneHeld, onCable_loopback hc]

theorem exec_laneRecessive (h : s.station.inReset = false) :
    (s.station.state ≠ .loopback → (s.link.rx lane).state = .stuck →
      exec (.laneRecessive lane) s = .next (afterEvent s (moveLane lane .hunt s))) ∧
    ((s.link.rx lane).state ≠ .stuck ∨ s.station.state = .loopback →
      exec (.laneRecessive lane) s = .next (afterEvent s s)) := by
  have hrun : exec (.laneRecessive lane) s = _ := event_runs (laneFreed lane) h
  refine ⟨fun hc hst => hrun.trans ?_, fun hst => hrun.trans ?_⟩
  · have hall : onCable s = true ∧ (s.link.rx lane).state = .stuck := ⟨onCable_iff.2 hc, hst⟩
    simp only [laneFreed, if_pos hall]
  · have hnot : ¬(onCable s = true ∧ (s.link.rx lane).state = .stuck) := fun ⟨hc, hs⟩ =>
      hst.elim (fun h => h hs) (onCable_iff.1 hc)
    simp only [laneFreed, if_neg hnot]

/-! ## Lane restart (R144) -/

theorem tagStatus_unseen {l : Link} (h : (l.rx lane).tagSeen = none) : l.tagStatus = .clear := by
  cases lane with
  | A =>
    have ha : l.a.tagSeen = none := h
    simp only [Link.tagStatus, ha]
    rfl
  | B =>
    have hb : l.b.tagSeen = none := h
    simp only [Link.tagStatus, hb]
    cases l.a.tagSeen with
    | none => rfl
    | some x => cases x <;> rfl

theorem seeTag_modRx (tag : Option Lane) (s : State) :
    (seeTag lane tag s).link = (modRx lane (fun r => { r with tagSeen := tag }) s).link := seeTag_link s lane tag

theorem modRx_counts (f : Receiver → Receiver) (s : State) :
    (modRx lane f s).link.disagree = s.link.disagree ∧ (modRx lane f s).link.overrun = s.link.overrun := by
  cases lane <;> exact ⟨rfl, rfl⟩

/-- What Lane restart leaves of a receiver that has gone to HUNT. -/
def Receiver.restarted (r : Receiver) : Receiver :=
  { r with errors := 0, goodRun := 0, badRun := 0, changed := true, tagSeen := none }

theorem restartLane_link (lane : Lane) (s : State) :
    (restartLane lane s).link.rx lane = ((moveLane lane .hunt s).link.rx lane).restarted ∧
      (restartLane lane s).link.rx lane.other = s.link.rx lane.other ∧ (restartLane lane s).link.tagStatus = .clear ∧
      (restartLane lane s).link.disagree = s.link.disagree ∧ (restartLane lane s).link.overrun = s.link.overrun := by
  have hsame : (restartLane lane s).link.rx lane = ((moveLane lane .hunt s).link.rx lane).restarted := by
    rw [restartLane, seeTag_modRx, modRx_rx_same, modRx_rx_same]
    rfl
  have hother : lane.other ≠ lane := by cases lane <;> decide
  have hoverrun : (moveLane lane .hunt s).link.overrun = s.link.overrun := by
    rw [moveLane_link]
    split
    · rfl
    · cases lane <;> rfl
  refine ⟨hsame, ?_, tagStatus_unseen (by rw [hsame]; rfl), ?_, ?_⟩
  · rw [restartLane, seeTag_modRx, modRx_rx_other, modRx_rx_other, rx_moveLane_other s hother]
  · rw [restartLane, seeTag_modRx, (modRx_counts _ _).1, (modRx_counts _ _).1, moveLane_disagree]
  · rw [restartLane, seeTag_modRx, (modRx_counts _ _).2, (modRx_counts _ _).2, hoverrun]

theorem exec_laneRestart {n : Nat} (h : commandTaken (.laneRestart n) s = true) (hl : s.station.state ≠ .loopback)
    (hd : s.station.state ≠ .duplicate) :
    ((lane = .A ∧ n = 0) ∨ (lane = .B ∧ n = 1) →
      exec (.laneRestart n) s = .next (afterCommand (.laneRestart n) s (.bare .OK) (restartLane lane s))) ∧
    (1 < n → exec (.laneRestart n) s = .next (afterCommand (.laneRestart n) s (.bare .BAD_PARAM) s)) := by
  have hrun : exec (.laneRestart n) s = _ := carryOut_taken (laneRestartBody n) h
  refine ⟨?_, fun h1 => ?_⟩
  · rintro (⟨rfl, rfl⟩ | ⟨rfl, rfl⟩)
    · refine hrun.trans ?_
      cases hst : s.station.state <;> simp_all [laneRestartBody]
    · refine hrun.trans ?_
      cases hst : s.station.state <;> simp_all [laneRestartBody]
  · obtain ⟨k, rfl⟩ : ∃ k, n = k + 2 := ⟨n - 2, by omega⟩
    refine hrun.trans ?_
    cases hst : s.station.state <;> simp_all [laneRestartBody, refuse]

/-! ## A receiver's move and the isolation timer (R140, R148) -/

theorem anyLocked_setRx (r : Receiver) (u : State) (hu : u.link = s.link.setRx r lane) :
    anyLocked u = true ↔ r.state = .locked ∨ (s.link.rx lane.other).state = .locked := by
  simp only [anyLocked, hu, Bool.or_eq_true, beq_iff_eq]
  cases lane with
  | A => exact Iff.rfl
  | B => exact Or.comm

theorem watchLanes_isolated (hst : s.station.state = .isolated) :
    (anyLocked s = false → watchLanes s = s) ∧
    (anyLocked s = true → watchLanes s =
      post (.stationState .online none) { s with station := { s.station with state := .online, isolation := none } }) := by
  refine ⟨fun h => ?_, fun h => ?_⟩
  · simp [watchLanes, hst, h]
  · simp [watchLanes, hst, h]

end

/-- Settles O55: each row by the receiver's state, and a receiver's move by the station's. -/
theorem laneRowsMoveReceivers : Obligations.LaneRowsMoveReceivers := by
  unfold Obligations.LaneRowsMoveReceivers
  refine ⟨fun s => hearsPeers_iff, fun lane s h hp => ⟨(exec_laneActivity h).2 fun hc => ?_, exec_laneFrameStart_unheard h hp⟩,
    fun lane s h hp => ?_, fun lane s h hl => ⟨fun hst ht => (exec_laneSilenceExpiry h).1 hl hst ht, (exec_laneStuck h).1 hl,
      (exec_laneRecessive h).1 hl⟩,
    fun lane s h => ⟨(exec_laneSilenceExpiry h).2, (exec_laneStuck h).2, (exec_laneRecessive h).2⟩, fun lane s => ?_,
    fun lane s h => event_runs (windowExpiry lane) h, fun lane n s hn h hl hd => ?_,
    fun n s hn h hl hd => (exec_laneRestart (lane := .A) h hl hd).2 hn, fun lane st s hst => ?_⟩
  · exact Bool.noConfusion (hp.symm.trans hc.1)
  · obtain ⟨hdown, hstuck, hrest⟩ := exec_laneFrameStart (lane := lane) h hp
    exact ⟨hdown, hstuck, fun hst => (exec_laneActivity h).1 ⟨hp, hst⟩, fun hst => (exec_laneActivity h).2 fun hc => hst hc.2, hrest⟩
  · simp only [moveLane, if_true]
  · obtain ⟨hsame, hother, htag, hdis, hover⟩ := restartLane_link lane s
    have hmoved := entered_moveLane s lane .hunt
    refine ⟨_, (exec_laneRestart h hl hd).1 hn, ?_⟩
    rw [hsame]
    refine ⟨hmoved.state, rfl, rfl, rfl, rfl, htag, hother, hdis, hover, ?_⟩
    simp [restartLane]
  · intro r r' told other
    have henter : (s.link.rx lane).enter st = r' := by cases st <;> rfl
    have hmove : moveLane lane st s = watchLanes told := by
      rw [moveLane_moves _ _ _ hst, henter]
    have hlocked : anyLocked told = true ↔ st = .locked ∨ other = .locked := anyLocked_setRx r' told rfl
    have hab : (told.link.a.state = .locked ∨ told.link.b.state = .locked) ↔ st = .locked ∨ other = .locked := by
      rw [← hlocked]
      simp [anyLocked]
    have hnone : st ≠ .locked → other ≠ .locked → ¬(st = .locked ∨ other = .locked) := fun h1 h2 h => h.elim h1 h2
    rw [hmove]
    refine ⟨fun h1 h2 => watchLanes_quiet _ h1 h2, fun ho hl => ?_, fun ho h1 h2 => ?_, fun hi h1 h2 => ?_, fun hi hl => ?_⟩
    · rw [watchLanes_online (s := told) ho, if_pos (hab.2 hl)]
      rfl
    · rw [watchLanes_online (s := told) ho, if_neg (mt hab.1 (hnone h1 h2))]
      rfl
    · exact (watchLanes_isolated (s := told) hi).1 (Bool.eq_false_iff.2 (mt hlocked.1 (hnone h1 h2)))
    · exact (watchLanes_isolated (s := told) hi).2 (hlocked.2 (.inl hl))

end Sys2Proof.Machine
end

section
/-! Which frames may be delivered: the layouts of the frame kinds and of the answers' data (R162, R164, R179). -/

namespace Sys2Proof.Machine

/-! ## What a reader takes -/

/-- A reader takes exactly the byte strings of a language from the front. -/
structure Spans {α : Type} (r : Reader α) (L : Bytes → Prop) : Prop where
  reads : ∀ u rest, L u → ∃ a, r (u ++ rest) = some (a, rest)
  sound : ∀ bs a rest, r bs = some (a, rest) → ∃ u, L u ∧ bs = u ++ rest

section
variable {α β γ : Type} {r : Reader α} {f : α → Reader β} {L L' M : Bytes → Prop} {e : γ → Bytes} {ok : γ → Prop} {n m : Nat}

theorem Spans.exact_iff (h : Spans r L) (p : Bytes) : (r.exact p).isSome = true ↔ L p := by
  simp only [Reader.exact, Reader.run]
  constructor
  · intro hs
    cases hr : r p with
    | none => simp [hr] at hs
    | some x =>
      obtain ⟨a, rest⟩ := x
      have hrest : rest = [] := by
        refine Classical.byContradiction fun hne => ?_
        simp [hr, hne] at hs
      obtain ⟨u, hu, rfl⟩ := h.sound _ _ _ hr
      rwa [hrest, List.append_nil]
  · intro hp
    obtain ⟨a, ha⟩ := h.reads p [] hp
    rw [List.append_nil] at ha
    simp [ha]

theorem Spans.of_iff (h : Spans r L) (hiff : ∀ u, L u ↔ L' u) : Spans r L' where
  reads u rest hu := h.reads u rest ((hiff u).2 hu)
  sound bs a rest hr := by
    obtain ⟨u, hu, hbs⟩ := h.sound bs a rest hr
    exact ⟨u, (hiff u).1 hu, hbs⟩

theorem Spans.bind (h : Spans r L) (hf : ∀ a, Spans (f a) M) : Spans (r >>= f) fun u => ∃ x y, L x ∧ M y ∧ u = x ++ y where
  reads u rest hu := by
    obtain ⟨x, y, hx, hy, rfl⟩ := hu
    obtain ⟨a, ha⟩ := h.reads x (y ++ rest) hx
    obtain ⟨b, hb⟩ := (hf a).reads y rest hy
    exact ⟨b, by rw [List.append_assoc, reader_step ha, hb]⟩
  sound bs b rest hr := by
    rw [reader_bind] at hr
    obtain ⟨⟨a, bs'⟩, ha, hb⟩ := Option.bind_eq_some_iff.1 hr
    obtain ⟨x, hx, rfl⟩ := h.sound _ _ _ ha
    obtain ⟨y, hy, rfl⟩ := (hf a).sound _ _ _ hb
    exact ⟨x ++ y, ⟨x, y, hx, hy, rfl⟩, by rw [List.append_assoc]⟩

theorem spans_pure (a : α) : Spans (pure a : Reader α) (· = []) where
  reads u rest hu := ⟨a, by rw [hu]; rfl⟩
  sound bs b rest hr := by
    obtain ⟨-, hrest⟩ := pure_some hr
    exact ⟨[], rfl, hrest.symm⟩

/-- The last field of a layout. -/
theorem Spans.last (h : Spans r L) (g : α → β) : Spans (r >>= fun a => pure (g a)) L :=
  (h.bind fun a => spans_pure (g a)).of_iff fun u =>
    ⟨fun ⟨x, y, hx, hy, hu⟩ => by rw [hu, hy, List.append_nil]; exact hx, fun hu => ⟨u, [], hu, rfl, (List.append_nil u).symm⟩⟩

/-- A field, whatever its value, and what follows it. -/
theorem Spans.field (h : Spans r fun u => ∃ c, u = e c) (hf : ∀ a, Spans (f a) M) :
    Spans (r >>= f) fun u => ∃ c y, M y ∧ u = e c ++ y :=
  (h.bind hf).of_iff fun u =>
    ⟨fun ⟨x, y, ⟨c, hc⟩, hy, hu⟩ => ⟨c, y, hy, by rw [hu, hc]⟩, fun ⟨c, y, hy, hu⟩ => ⟨e c, y, ⟨c, rfl⟩, hy, hu⟩⟩

/-- A field whose value decides what follows it. -/
theorem Codec.field {e : α → Bytes} {ok : α → Prop} {M : α → Bytes → Prop} (h : Codec r e ok) (hf : ∀ a, ok a → Spans (f a) (M a)) :
    Spans (r >>= f) fun u => ∃ a y, ok a ∧ M a y ∧ u = e a ++ y where
  reads u rest hu := by
    obtain ⟨a, y, ha, hy, rfl⟩ := hu
    obtain ⟨b, hb⟩ := (hf a ha).reads y rest hy
    exact ⟨b, by rw [List.append_assoc, reader_step (h.reads _ _ ha), hb]⟩
  sound bs b rest hr := by
    obtain ⟨a, bs', ha, rfl, hb⟩ := h.step hr
    obtain ⟨y, hy, rfl⟩ := (hf a ha).sound _ _ _ hb
    exact ⟨e a ++ y, ⟨a, y, ha, hy, rfl⟩, by rw [List.append_assoc]⟩

/-! ## Fields of a fixed width -/

/-- A reader takes any bytes of a length. -/
def Wide (n : Nat) (r : Reader α) : Prop := Spans r fun u => u.length = n

theorem Wide.bind (h : Wide n r) (hf : ∀ a, Wide m (f a)) : Wide (n + m) (r >>= f) :=
  (Spans.bind h hf).of_iff fun u =>
    ⟨fun ⟨x, y, hx, hy, hu⟩ => by rw [hu, List.length_append, hx, hy], fun hu =>
      ⟨u.take n, u.drop n, by rw [List.length_take]; omega, by rw [List.length_drop]; omega, (List.take_append_drop n u).symm⟩⟩

theorem Wide.last (h : Wide n r) (g : α → β) : Wide n (r >>= fun a => pure (g a)) := Spans.last h g

theorem wide_byte : Wide 1 Reader.byte where
  reads u rest hu := by
    obtain ⟨b, rfl⟩ := List.length_eq_one_iff.1 hu
    exact ⟨b, byte_cons b rest⟩
  sound bs b rest hr := ⟨[b], rfl, (codec_byte.sound _ _ _ hr).2⟩

theorem wide_n1 : Wide 1 Reader.n1 := wide_byte.last BitVec.toNat

theorem wide_n2 : Wide (1 + 1) Reader.n2 := wide_n1.bind fun _ => wide_n1.last _

theorem wide_n4 : Wide (1 + 1 + (1 + 1)) Reader.n4 := wide_n2.bind fun _ => wide_n2.last _

theorem wide_times (n : Nat) : Wide n (Reader.times Reader.byte n) := by
  induction n with
  | zero => exact (spans_pure []).of_iff fun u => List.length_eq_zero_iff.symm
  | succ n ih =>
    have h := wide_byte.bind fun b => ih.last fun l => b :: l
    rwa [Nat.add_comm] at h

theorem bytes1_iff (u : Bytes) : u.length = 1 ↔ ∃ n, u = e1 n := by
  constructor
  · intro hu
    obtain ⟨b, rfl⟩ := List.length_eq_one_iff.1 hu
    exact ⟨b.toNat, by rw [e1, byteOf_toNat]⟩
  · rintro ⟨n, rfl⟩
    rfl

theorem bytes2_iff (u : Bytes) : u.length = 2 ↔ ∃ n, u = e2 n := by
  constructor
  · intro hu
    match u, hu with
    | [x, y], _ => exact ⟨_, (e2_bytes x y).symm⟩
  · rintro ⟨n, rfl⟩
    rfl

theorem e4_eq (n : Nat) : e4 n = e2 (n / 65536) ++ e2 n := by
  simp only [e4, e2, Nat.div_div_eq_div_mul]
  rfl

theorem e2_mod (k n : Nat) : e2 (k * 65536 + n) = e2 n := by
  have hhigh : byteOf ((k * 65536 + n) / 256) = byteOf (n / 256) := BitVec.eq_of_toNat_eq (by rw [toNat_byteOf, toNat_byteOf]; omega)
  have hlow : byteOf (k * 65536 + n) = byteOf n := BitVec.eq_of_toNat_eq (by rw [toNat_byteOf, toNat_byteOf]; omega)
  rw [e2, hhigh, hlow, e2]

theorem bytes4_iff (u : Bytes) : u.length = 4 ↔ ∃ n, u = e4 n := by
  constructor
  · intro hu
    match u, hu with
    | [a, b, c, d], _ =>
      have hc := c.isLt
      have hd := d.isLt
      refine ⟨(a.toNat * 256 + b.toNat) * 65536 + (c.toNat * 256 + d.toNat), ?_⟩
      rw [e4_eq, e2_mod, e2_bytes, show ((a.toNat * 256 + b.toNat) * 65536 + (c.toNat * 256 + d.toNat)) / 65536 =
        a.toNat * 256 + b.toNat by omega, e2_bytes]
      rfl
  · rintro ⟨n, rfl⟩
    rfl

theorem spans_n1 : Spans Reader.n1 fun u => ∃ n, u = e1 n := wide_n1.of_iff bytes1_iff

theorem spans_n2 : Spans Reader.n2 fun u => ∃ n, u = e2 n := wide_n2.of_iff bytes2_iff

theorem spans_n4 : Spans Reader.n4 fun u => ∃ n, u = e4 n := wide_n4.of_iff bytes4_iff

theorem spans_byte : Spans Reader.byte fun u => ∃ b : Byte, u = [b] := wide_byte.of_iff fun _ => List.length_eq_one_iff

/-! ## Lists and optional fields -/

theorem spans_times (h : Spans r fun u => ∃ c, ok c ∧ u = e c) (n : Nat) :
    Spans (Reader.times r n) fun u => ∃ l : List γ, l.length = n ∧ (∀ c ∈ l, ok c) ∧ u = (l.map e).flatten := by
  induction n with
  | zero =>
    refine (spans_pure []).of_iff fun u => ⟨fun hu => ⟨[], rfl, by simp, hu⟩, fun ⟨l, hl, _, hu⟩ => ?_⟩
    rw [hu, List.length_eq_zero_iff.1 hl]
    rfl
  | succ n ih =>
    refine (h.bind fun a => ih.last (fun l => a :: l)).of_iff fun u => ⟨?_, ?_⟩
    · rintro ⟨_, _, ⟨c, hc, rfl⟩, ⟨l, hl, hok, rfl⟩, rfl⟩
      exact ⟨c :: l, by rw [List.length_cons, hl], fun x hx => (List.mem_cons.1 hx).elim (fun he => he ▸ hc) (hok x), rfl⟩
    · rintro ⟨l, hl, hok, rfl⟩
      obtain ⟨c, l, rfl⟩ := List.exists_cons_of_length_eq_add_one hl
      exact ⟨e c, _, ⟨c, hok c (List.mem_cons_self), rfl⟩,
        ⟨l, by simpa using hl, fun x hx => hok x (List.mem_cons_of_mem _ hx), rfl⟩, rfl⟩

theorem spans_list (h : Spans r fun u => ∃ c, ok c ∧ u = e c) :
    Spans (Reader.list r) fun u => ∃ l : List γ, l.length < 256 ∧ (∀ c ∈ l, ok c) ∧ u = eList e l := by
  have hcount : ∀ l : List γ, l.length < 256 → eList e l = e1 l.length ++ (l.map e).flatten := fun l hl => by
    rw [eList, eCount, if_pos (by omega)]
    rfl
  refine (codec_n1.field fun n _ => spans_times h n).of_iff fun u => ⟨?_, ?_⟩
  · rintro ⟨_, _, hn, ⟨l, rfl, hok, rfl⟩, rfl⟩
    exact ⟨l, hn, hok, (hcount l hn).symm⟩
  · rintro ⟨l, hl, hok, rfl⟩
    exact ⟨l.length, _, hl, ⟨l, rfl, hok, rfl⟩, hcount l hl⟩

theorem spans_list_all (h : Spans r fun u => ∃ c, u = e c) :
    Spans (Reader.list r) fun u => ∃ l : List γ, l.length < 256 ∧ u = eList e l :=
  (spans_list (e := e) (ok := fun _ => True) (h.of_iff fun _ => by simp only [true_and])).of_iff fun _ => by
    simp only [implies_true, true_and]

theorem spans_opt (h : Spans r fun u => ∃ c, u = e c) : Spans (Reader.opt r) fun u => ∃ o : Option γ, u = eOpt e o where
  reads u rest hu := by
    obtain ⟨o, rfl⟩ := hu
    cases o with
    | none => exact ⟨none, rfl⟩
    | some c =>
      obtain ⟨a, ha⟩ := h.reads (e c) rest ⟨c, rfl⟩
      refine ⟨some a, ?_⟩
      calc (Reader.opt r) (eOpt e (some c) ++ rest) = (r >>= fun a => pure (some a)) (e c ++ rest) := rfl
        _ = some (some a, rest) := by rw [reader_step ha, reader_pure]
  sound bs v rest hr := by
    unfold Reader.opt at hr
    obtain ⟨p, bs', -, rfl, hr1⟩ := codec_n1.step hr
    split at hr1
    · rename_i hp
      obtain ⟨-, rfl⟩ := pure_some hr1
      exact ⟨_, ⟨none, rfl⟩, by rw [hp]; rfl⟩
    · split at hr1
      · rename_i hp
        rw [reader_bind] at hr1
        obtain ⟨⟨a, bs''⟩, ha, hr2⟩ := Option.bind_eq_some_iff.1 hr1
        obtain ⟨-, rfl⟩ := pure_some hr2
        obtain ⟨_, ⟨c, rfl⟩, rfl⟩ := h.sound _ _ _ ha
        exact ⟨_, ⟨some c, rfl⟩, by rw [hp]; rfl⟩
      · exact nomatch hr1

end

end Sys2Proof.Machine
end

section
/-! The layouts of the frames with lists, of the ANSWER and of its data (R161, R164, R179). -/

namespace Sys2Proof.Machine

/-! ## Frames of a fixed length -/

theorem wide_beacon : Wide (1 + (1 + (1 + 1 + (1 + 1 + (1 + 1) + (1 + (1 + (1 + 1))))))) rBeacon :=
  wide_byte.bind fun _ => wide_byte.bind fun _ => wide_n2.bind fun _ => wide_n4.bind fun _ => wide_n1.bind fun _ =>
    wide_n1.bind fun _ => wide_n1.bind fun _ => wide_n1.last _

theorem wide_stock : Wide (1 + 1 + (1 + (1 + 1))) rStock := wide_n2.bind fun _ => wide_n1.bind fun _ => wide_n2.last _

theorem wide_tabByte : Wide (1 + 1 + 1) rTabByte := wide_n2.bind fun _ => wide_n1.last _

theorem wide_tabShareByte : Wide (1 + 1 + (1 + 1)) rTabShareByte := wide_n2.bind fun _ => wide_n1.bind fun _ => wide_n1.last _

theorem wide_settled : Wide (1 + 1 + (1 + 1) + (1 + (1 + 1 + (1 + 1) + (1 + 1 + (1 + 1))))) rSettled :=
  wide_n4.bind fun _ => wide_n1.bind fun _ => wide_n4.bind fun _ => wide_n4.last _

/-- The kinds whose layout has a fixed length. -/
def fixedLayouts : List (Nat × Nat) :=
  [(Kind.beacon, 12), (Kind.period, 1), (Kind.stock, 5), (Kind.lineVoid, 3), (Kind.tabQuery, 2), (Kind.withdraw, 2),
    (Kind.claim, 3), (Kind.settle, 4), (Kind.release, 3), (Kind.claimEnd, 4), (Kind.ticketQuery, 2)]

theorem layoutOk_fixed (tag : Nat) (p : Bytes) : ∀ row ∈ fixedLayouts, layoutOk row.1 tag p = true ↔ p.length = row.2 := by
  simp only [fixedLayouts, List.forall_mem_cons, List.not_mem_nil, false_implies, implies_true, and_true]
  exact ⟨wide_beacon.exact_iff p, wide_n1.exact_iff p, wide_stock.exact_iff p, wide_tabByte.exact_iff p, wide_n2.exact_iff p,
    wide_n2.exact_iff p, wide_tabByte.exact_iff p, wide_tabShareByte.exact_iff p, wide_tabByte.exact_iff p,
    wide_tabShareByte.exact_iff p, wide_n2.exact_iff p⟩

/-! ## Frames with lists -/

theorem spans_lineReq : Spans rLineReq fun u => ∃ l : LineReq, l.mods.length < 256 ∧ u = eLineReq l :=
  (spans_n2.field fun _ => spans_n2.field fun _ => spans_n1.field fun _ => spans_n1.field fun _ => spans_n1.field fun _ =>
    spans_n1.field fun _ => (spans_list_all spans_n2).last _).of_iff fun u => by
    constructor
    · rintro ⟨item, _, ⟨price, _, ⟨qty, _, ⟨tax, _, ⟨prep, _, ⟨rush, _, ⟨mods, hm, rfl⟩, rfl⟩, rfl⟩, rfl⟩, rfl⟩, rfl⟩, rfl⟩
      exact ⟨⟨item, price, qty, tax, prep, rush, mods⟩, hm, by simp [eLineReq]⟩
    · rintro ⟨l, hm, rfl⟩
      exact ⟨l.item, _, ⟨l.price, _, ⟨l.qty, _, ⟨l.tax, _, ⟨l.prep, _, ⟨l.rush, _, ⟨l.mods, hm, rfl⟩, rfl⟩, rfl⟩, rfl⟩, rfl⟩, rfl⟩,
        by simp [eLineReq]⟩

theorem spans_add : Spans rAdd fun u => ∃ (tab send : Nat) (lines : List LineReq), lines.length < 256 ∧
    (∀ l ∈ lines, l.mods.length < 256) ∧ u = e2 tab ++ e1 send ++ eList eLineReq lines :=
  (spans_n2.field fun _ => spans_n1.field fun _ => (spans_list spans_lineReq).last _).of_iff fun u => by
    constructor
    · rintro ⟨tab, _, ⟨send, _, ⟨lines, hl, hm, rfl⟩, rfl⟩, rfl⟩
      exact ⟨tab, send, lines, hl, hm, by rw [List.append_assoc]⟩
    · rintro ⟨tab, send, lines, hl, hm, rfl⟩
      exact ⟨tab, _, ⟨send, _, ⟨lines, hl, hm, rfl⟩, rfl⟩, by rw [List.append_assoc]⟩

theorem spans_splitEntry : Spans rSplitEntry fun u => ∃ e : SplitEntry, u = e1 e.line ++ [e.sharers] :=
  (spans_n1.field fun _ => spans_byte.last _).of_iff fun u => by
    constructor
    · rintro ⟨line, _, ⟨set, rfl⟩, rfl⟩
      exact ⟨⟨line, set⟩, rfl⟩
    · rintro ⟨e, rfl⟩
      exact ⟨e.line, _, ⟨e.sharers, rfl⟩, rfl⟩

theorem spans_split : Spans rSplit fun u => ∃ (tab count : Nat) (entries : List SplitEntry), entries.length < 256 ∧
    u = e2 tab ++ e1 count ++ eList (fun e : SplitEntry => e1 e.line ++ [e.sharers]) entries :=
  (spans_n2.field fun _ => spans_n1.field fun _ => (spans_list_all spans_splitEntry).last _).of_iff fun u => by
    constructor
    · rintro ⟨tab, _, ⟨count, _, ⟨entries, hl, rfl⟩, rfl⟩, rfl⟩
      exact ⟨tab, count, entries, hl, by rw [List.append_assoc]⟩
    · rintro ⟨tab, count, entries, hl, rfl⟩
      exact ⟨tab, _, ⟨count, _, ⟨entries, hl, rfl⟩, rfl⟩, by rw [List.append_assoc]⟩

/-- A ticket's line as an offer carries it. -/
def eOfferLine (l : OfferLine) : Bytes := e1 l.line ++ e2 l.item ++ e1 l.qty ++ eList e2 l.mods

theorem spans_offerLine : Spans rOfferLine fun u => ∃ l : OfferLine, l.mods.length < 256 ∧ u = eOfferLine l :=
  (spans_n1.field fun _ => spans_n2.field fun _ => spans_n1.field fun _ => (spans_list_all spans_n2).last _).of_iff fun u => by
    constructor
    · rintro ⟨line, _, ⟨item, _, ⟨qty, _, ⟨mods, hm, rfl⟩, rfl⟩, rfl⟩, rfl⟩
      exact ⟨⟨line, item, qty, mods⟩, hm, by simp [eOfferLine]⟩
    · rintro ⟨l, hm, rfl⟩
      exact ⟨l.line, _, ⟨l.item, _, ⟨l.qty, _, ⟨l.mods, hm, rfl⟩, rfl⟩, rfl⟩, by simp [eOfferLine]⟩

theorem spans_offer : Spans rOffer fun u => ∃ (ticket tab prep rush : Nat) (lines : List OfferLine), lines.length < 256 ∧
    (∀ l ∈ lines, l.mods.length < 256) ∧ u = e2 ticket ++ e2 tab ++ e1 prep ++ e1 rush ++ eList eOfferLine lines :=
  (spans_n2.field fun _ => spans_n2.field fun _ => spans_n1.field fun _ => spans_n1.field fun _ =>
    (spans_list spans_offerLine).last _).of_iff fun u => by
    constructor
    · rintro ⟨ticket, _, ⟨tab, _, ⟨prep, _, ⟨rush, _, ⟨lines, hl, hm, rfl⟩, rfl⟩, rfl⟩, rfl⟩, rfl⟩
      exact ⟨ticket, tab, prep, rush, lines, hl, hm, by simp⟩
    · rintro ⟨ticket, tab, prep, rush, lines, hl, hm, rfl⟩
      exact ⟨ticket, _, ⟨tab, _, ⟨prep, _, ⟨rush, _, ⟨lines, hl, hm, rfl⟩, rfl⟩, rfl⟩, rfl⟩, by simp⟩

theorem spans_ticketVoid : Spans rTicketVoid fun u => ∃ (ticket : Nat) (lines : List Nat), lines.length < 256 ∧
    u = e2 ticket ++ eList e1 lines :=
  (spans_n2.field fun _ => (spans_list_all spans_n1).last _).of_iff fun u => by
    constructor
    · rintro ⟨ticket, _, ⟨lines, hl, rfl⟩, rfl⟩
      exact ⟨ticket, lines, hl, rfl⟩
    · rintro ⟨ticket, lines, hl, rfl⟩
      exact ⟨ticket, _, ⟨lines, hl, rfl⟩, rfl⟩

/-- What the form byte of a TICKET-STATE says of the bytes that follow its code. -/
def StateTail (form : Nat) (u : Bytes) : Prop :=
  ∃ code : Nat, (form = 0 ∧ u = e1 code) ∨ (form = 1 ∧ ∃ lines : List Nat, lines.length < 256 ∧ u = e1 code ++ eList e1 lines)

theorem spans_ticketState : Spans rTicketState fun u => ∃ home ticket orphan code : Nat,
    u = e1 home ++ e2 ticket ++ e1 orphan ++ e1 0 ++ e1 code ∨
      ∃ lines : List Nat, lines.length < 256 ∧ u = e1 home ++ e2 ticket ++ e1 orphan ++ e1 1 ++ e1 code ++ eList e1 lines := by
  have htail : ∀ home ticket orphan form : Nat, Spans (do
      let code ← Reader.n1
      if form = 0 then return (⟨home, ticket, orphan, 0, code, []⟩ : TicketStateFields)
      else if form = 1 then return ⟨home, ticket, orphan, 1, code, ← Reader.list Reader.n1⟩
      else failure) (StateTail form) := fun home ticket orphan form => by
    by_cases h0 : form = 0
    · subst h0
      simp only [if_true]
      refine (spans_n1.last _).of_iff fun u => exists_congr fun code => ?_
      simp
    · by_cases h1 : form = 1
      · subst h1
        simp only [if_neg h0, if_true]
        refine (spans_n1.field fun _ => (spans_list_all spans_n1).last _).of_iff fun u => exists_congr fun code => ?_
        simp only [h0, false_and, false_or, true_and]
        exact ⟨fun ⟨y, ⟨lines, hl, hy⟩, hu⟩ => ⟨lines, hl, by rw [hu, hy]⟩, fun ⟨lines, hl, hu⟩ => ⟨_, ⟨lines, hl, rfl⟩, hu⟩⟩
      · simp only [if_neg h0, if_neg h1]
        refine ⟨fun u rest ⟨code, hu⟩ => ?_, fun bs a rest hr => ?_⟩
        · exact absurd hu (by simp [h0, h1])
        · obtain ⟨code, bs', -, -, hf⟩ := codec_n1.step hr
          exact nomatch hf
  refine (spans_n1.field fun home => spans_n2.field fun ticket => spans_n1.field fun orphan =>
    codec_n1.field fun form _ => htail home ticket orphan form).of_iff fun u => ?_
  constructor
  · rintro ⟨home, _, ⟨ticket, _, ⟨orphan, _, ⟨form, _, -, ⟨code, ⟨rfl, rfl⟩ | ⟨rfl, lines, hl, rfl⟩⟩, rfl⟩, rfl⟩, rfl⟩, rfl⟩
    · exact ⟨home, ticket, orphan, code, .inl (by simp)⟩
    · exact ⟨home, ticket, orphan, code, .inr ⟨lines, hl, by simp⟩⟩
  · rintro ⟨home, ticket, orphan, code, rfl | ⟨lines, hl, rfl⟩⟩
    · exact ⟨home, _, ⟨ticket, _, ⟨orphan, _, ⟨0, _, by decide, ⟨code, .inl ⟨rfl, rfl⟩⟩, rfl⟩, rfl⟩, rfl⟩, by simp⟩
    · exact ⟨home, _, ⟨ticket, _, ⟨orphan, _, ⟨1, _, by decide, ⟨code, .inr ⟨rfl, lines, hl, rfl⟩⟩, rfl⟩, rfl⟩, rfl⟩, by simp⟩

/-! ## The ANSWER -/

theorem parseAnswer_iff (source : Nat) (p : Bytes) (a : AnswerRec) : parseAnswer source p = some a ↔
    a.source = source ∧ a.kind < 256 ∧ a.tag < 256 ∧ a.subject < 65536 ∧ a.share < 256 ∧ a.result < 256 ∧
      p = e1 a.kind ++ e1 a.tag ++ e2 a.subject ++ e1 a.share ++ e1 a.result ++ a.data := by
  constructor
  · intro h
    cases hr : rAnswerHead p with
    | none => simp [parseAnswer, hr] at h
    | some x =>
      obtain ⟨⟨kind, tag, subject, share, result⟩, data⟩ := x
      simp only [parseAnswer, hr, Option.some.injEq] at h
      subst h
      unfold rAnswerHead at hr
      obtain ⟨_, _, h1, rfl, hr1⟩ := codec_n1.step hr
      obtain ⟨_, _, h2, rfl, hr2⟩ := codec_n1.step hr1
      obtain ⟨_, _, h3, rfl, hr3⟩ := codec_n2.step hr2
      obtain ⟨_, _, h4, rfl, hr4⟩ := codec_n1.step hr3
      obtain ⟨_, _, h5, rfl, hr5⟩ := codec_n1.step hr4
      obtain ⟨he, rfl⟩ := pure_some hr5
      simp only [Prod.mk.injEq] at he
      obtain ⟨rfl, rfl, rfl, rfl, rfl⟩ := he
      exact ⟨rfl, h1, h2, h3, h4, h5, by simp⟩
  · obtain ⟨src, kind, tag, subject, share, result, data⟩ := a
    rintro ⟨hsrc, h1, h2, h3, h4, h5, rfl⟩
    have hr : rAnswerHead (e1 kind ++ e1 tag ++ e2 subject ++ e1 share ++ e1 result ++ data) =
        some ((kind, tag, subject, share, result), data) := by
      simp only [List.append_assoc]
      unfold rAnswerHead
      rw [reader_step (codec_n1.reads _ _ h1), reader_step (codec_n1.reads _ _ h2), reader_step (codec_n2.reads _ _ h3),
        reader_step (codec_n1.reads _ _ h4), reader_step (codec_n1.reads _ _ h5)]
      rfl
    simp only [parseAnswer, hr, Option.some.injEq, AnswerRec.mk.injEq, and_true]
    exact hsrc.symm

theorem layoutOk_answer (tag : Nat) (p : Bytes) : layoutOk Kind.answer tag p = true ↔
    ∃ (kind subject share result : Nat) (data : Bytes),
      kind < 256 ∧ tag < 256 ∧ subject < 65536 ∧ share < 256 ∧ result < 256 ∧
        p = e1 kind ++ e1 tag ++ e2 subject ++ e1 share ++ e1 result ++ data ∧
        answerDataOk ⟨0, kind, tag, subject, share, result, data⟩ = true := by
  have hok : layoutOk Kind.answer tag p = true ↔ ∃ a, parseAnswer 0 p = some a ∧ a.tag = tag ∧ answerDataOk a = true := by
    show (match parseAnswer 0 p with | some a => a.tag == tag && answerDataOk a | none => false) = true ↔ _
    cases parseAnswer 0 p <;> simp
  rw [hok]
  constructor
  · rintro ⟨⟨src, kind, tag', subject, share, result, data⟩, ha, rfl, hdata⟩
    obtain ⟨rfl, h1, h2, h3, h4, h5, hp⟩ := (parseAnswer_iff _ _ _).1 ha
    exact ⟨kind, subject, share, result, data, h1, h2, h3, h4, h5, hp, hdata⟩
  · rintro ⟨kind, subject, share, result, data, h1, h2, h3, h4, h5, hp, hdata⟩
    exact ⟨_, (parseAnswer_iff 0 p ⟨0, kind, tag, subject, share, result, data⟩).2 ⟨rfl, h1, h2, h3, h4, h5, hp⟩, rfl, hdata⟩

/-! ## The data of an answer -/

theorem spans_summary : Spans skipSummary fun u =>
    ∃ (state lines total count : Nat) (outcome : Option Nat) (label shares : Bytes), count < 256 ∧ label.length < 256 ∧
      shares.length = count * 6 ∧
      u = e1 state ++ eOpt e1 outcome ++ eList (fun b => [b]) label ++ e1 lines ++ e4 total ++ e1 count ++ shares :=
  (spans_n1.field fun _ => (spans_opt spans_n1).field fun _ => (spans_list_all spans_byte).bind fun _ => spans_n1.field fun _ =>
    spans_n4.field fun _ => codec_n1.field fun n _ => (wide_times (n * 6)).last _).of_iff fun u => by
    constructor
    · rintro ⟨state, _, ⟨outcome, _, ⟨_, _, ⟨label, hl, rfl⟩, ⟨lines, _, ⟨total, _, ⟨count, shares, hc, hs, rfl⟩, rfl⟩, rfl⟩, rfl⟩, rfl⟩, rfl⟩
      exact ⟨state, lines, total, count, outcome, label, shares, hc, hl, hs, by simp⟩
    · rintro ⟨state, lines, total, count, outcome, label, shares, hc, hl, hs, rfl⟩
      exact ⟨state, _, ⟨outcome, _, ⟨_, _, ⟨label, hl, rfl⟩, ⟨lines, _, ⟨total, _, ⟨count, shares, hc, hs, rfl⟩, rfl⟩, rfl⟩, rfl⟩, rfl⟩,
        by simp⟩

theorem spans_strike : Spans skipStrike fun u => ∃ (count total state : Nat) (shares : Bytes), count < 256 ∧
    shares.length = count * 5 ∧ u = e1 count ++ e4 total ++ shares ++ e1 state :=
  (codec_n1.field fun n _ => spans_n4.field fun _ => Spans.bind (wide_times (n * 5)) fun _ => spans_n1.last _).of_iff fun u => by
    constructor
    · rintro ⟨count, _, hc, ⟨total, _, ⟨shares, _, hs, ⟨state, rfl⟩, rfl⟩, rfl⟩, rfl⟩
      exact ⟨count, total, state, shares, hc, hs, by simp⟩
    · rintro ⟨count, total, state, shares, hc, hs, rfl⟩
      exact ⟨count, _, hc, ⟨total, _, ⟨shares, _, hs, ⟨state, rfl⟩, rfl⟩, rfl⟩, by simp⟩

theorem spans_voidResults : Spans rVoidResults fun u => ∃ l : List (Nat × Nat), l.length < 256 ∧
    u = eList (fun x => e1 x.1 ++ e1 x.2) l := by
  have hpair : Spans (do
      let line ← Reader.n1
      let result ← Reader.n1
      return (line, result)) fun u => ∃ x : Nat × Nat, u = e1 x.1 ++ e1 x.2 :=
    (spans_n1.field fun _ => spans_n1.last _).of_iff fun u => by
      constructor
      · rintro ⟨line, _, ⟨result, rfl⟩, rfl⟩
        exact ⟨(line, result), rfl⟩
      · rintro ⟨x, rfl⟩
        exact ⟨x.1, _, ⟨x.2, rfl⟩, rfl⟩
  exact spans_list_all hpair

theorem spans_queryAnswer : Spans rQueryAnswer fun u => ∃ (state position depth : Nat) (l : List (Nat × Nat)), l.length < 256 ∧
    u = e1 state ++ e1 position ++ e1 depth ++ eList (fun x => e1 x.1 ++ e1 x.2) l :=
  (spans_n1.field fun _ => spans_n1.field fun _ => spans_n1.field fun _ => spans_voidResults.last _).of_iff fun u => by
    constructor
    · rintro ⟨state, _, ⟨position, _, ⟨depth, _, ⟨l, hl, rfl⟩, rfl⟩, rfl⟩, rfl⟩
      exact ⟨state, position, depth, l, hl, by simp⟩
    · rintro ⟨state, position, depth, l, hl, rfl⟩
      exact ⟨state, _, ⟨position, _, ⟨depth, _, ⟨l, hl, rfl⟩, rfl⟩, rfl⟩, by simp⟩

/-! ## Which data an answer's kind and result call for (R164) -/

/-- The answers whose data has a fixed length. -/
def shownData : List (Nat × Result × Nat) :=
  [(Kind.add, Result.OK, 8), (Kind.add, .SOLD_OUT, 1), (Kind.lineVoid, .OK, 5), (Kind.split, .BAD_LINE, 1),
    (Kind.split, .BAD_SHARE, 1), (Kind.settle, .OK, 13), (Kind.claim, .GRANTED, 4), (Kind.claim, .HELD_BY, 1),
    (Kind.ticket, .ACCEPT, 2), (Kind.ticket, .SOLD_OUT, 2)]

/-- The requests whose OK has data of its own layout. -/
def laidOut : List Nat := [Kind.test, Kind.tabQuery, Kind.split, Kind.ticketVoid, Kind.ticketQuery]

variable {a : AnswerRec}

theorem answerDataOk_shown {row : Nat × Result × Nat} (hrow : row ∈ shownData) (hk : a.kind = row.1) (hr : a.result = row.2.1.code) :
    answerDataOk a = true ↔ a.data.length = row.2.2 := by
  obtain ⟨src, kind, tag, subject, share, result, data⟩ := a
  simp only at hk hr
  subst hk hr
  simp only [shownData, List.mem_cons, List.not_mem_nil, or_false] at hrow
  rcases hrow with rfl | rfl | rfl | rfl | rfl | rfl | rfl | rfl | rfl | rfl
  · exact beq_iff_eq
  · exact beq_iff_eq
  · exact beq_iff_eq
  · exact beq_iff_eq
  · exact beq_iff_eq
  · exact wide_settled.exact_iff data
  · exact wide_n4.exact_iff data
  · exact beq_iff_eq
  · exact beq_iff_eq
  · exact beq_iff_eq

theorem answerDataOk_test (hk : a.kind = Kind.test) (hr : a.result = Result.OK.code) : answerDataOk a = true := by
  obtain ⟨src, kind, tag, subject, share, result, data⟩ := a
  simp only at hk hr
  subst hk hr
  rfl

theorem answerDataOk_summary (hk : a.kind = Kind.tabQuery) (hr : a.result = Result.OK.code) :
    answerDataOk a = (skipSummary.exact a.data).isSome := by
  obtain ⟨src, kind, tag, subject, share, result, data⟩ := a
  simp only at hk hr
  subst hk hr
  rfl

theorem answerDataOk_strike (hk : a.kind = Kind.split) (hr : a.result = Result.OK.code) :
    answerDataOk a = (skipStrike.exact a.data).isSome := by
  obtain ⟨src, kind, tag, subject, share, result, data⟩ := a
  simp only at hk hr
  subst hk hr
  rfl

theorem answerDataOk_voids (hk : a.kind = Kind.ticketVoid) (hr : a.result = Result.OK.code) :
    answerDataOk a = (rVoidResults.exact a.data).isSome := by
  obtain ⟨src, kind, tag, subject, share, result, data⟩ := a
  simp only at hk hr
  subst hk hr
  rfl

theorem answerDataOk_view (hk : a.kind = Kind.ticketQuery) (hr : a.result = Result.OK.code) :
    answerDataOk a = (rQueryAnswer.exact a.data).isSome := by
  obtain ⟨src, kind, tag, subject, share, result, data⟩ := a
  simp only at hk hr
  subst hk hr
  rfl

theorem answerDataOk_bare (hreq : isRequest a.kind = true) (hshown : ∀ row ∈ shownData, ¬(a.kind = row.1 ∧ a.result = row.2.1.code))
    (hok : ¬(a.result = Result.OK.code ∧ a.kind ∈ laidOut)) : answerDataOk a = true ↔ a.data = [] := by
  have hne : ∀ (k : Nat) (r : Result), ¬(a.kind = k ∧ a.result = r.code) → (a.kind == k && a.result == r.code) = false :=
    fun k r h => by simpa using h
  have hrow : ∀ row ∈ shownData, (a.kind == row.1 && a.result == row.2.1.code) = false := fun row h => hne _ _ (hshown row h)
  have hlaid : ∀ k ∈ laidOut, (a.kind == k && a.result == Result.OK.code) = false := fun k hk => hne _ _ fun h =>
    hok ⟨h.2, h.1 ▸ hk⟩
  simp only [shownData, laidOut, List.forall_mem_cons, List.not_mem_nil, false_implies, implies_true, and_true] at hrow hlaid
  obtain ⟨h1, h2, h3, h4, h5, h6, h7, h8, h9, h10⟩ := hrow
  obtain ⟨g1, g2, g3, g4, g5⟩ := hlaid
  simp only [answerDataOk, hreq, h1, h2, h3, h4, h5, h6, h7, h8, h9, h10, g1, g2, g3, g4, g5, Bool.not_true, Bool.or_false,
    Bool.false_eq_true, if_false, List.isEmpty_iff]

theorem answerDataOk_stray (hreq : isRequest a.kind = false) : answerDataOk a = true := by
  simp [answerDataOk, hreq]

/-! ## Which frames may be delivered (R162, R179) -/

theorem isRequest_iff (k : Nat) : isRequest k = true ↔ k ∈ [Kind.add, Kind.lineVoid, Kind.tabQuery, Kind.split, Kind.withdraw,
    Kind.claim, Kind.settle, Kind.release, Kind.ticket, Kind.ticketVoid, Kind.ticketQuery, Kind.test] := by
  simp only [isRequest, Bool.or_eq_true, beq_iff_eq, List.mem_cons, List.not_mem_nil, or_false, or_assoc]

theorem isStation_iff (n : Nat) : isStation n = true ↔ 1 ≤ n ∧ n ≤ 126 := by simp only [isStation, Bool.and_eq_true, decide_eq_true_eq]

theorem deliverable_iff (f : Frame) : deliverable f = true ↔
    (1 ≤ f.source ∧ f.source ≤ 126) ∧ ¬((isRequest f.kind = true ∨ f.kind = Kind.answer) ∧ f.dest = 127) ∧ (1 ≤ f.kind ∧ f.kind ≤ 18) ∧
      f.cls = kindClass f.kind ∧ f.dest < 128 ∧ layoutOk f.kind f.tag f.payload = true := by
  have hgroup : (!((isRequest f.kind || f.kind == Kind.answer) && f.dest == allStations)) = true ↔
      ¬((isRequest f.kind = true ∨ f.kind = Kind.answer) ∧ f.dest = 127) := by
    rw [Bool.not_eq_true', ← Bool.not_eq_true, Bool.and_eq_true, Bool.or_eq_true, beq_iff_eq, beq_iff_eq]
    rfl
  simp only [deliverable, Bool.and_eq_true, isStation_iff, hgroup, decide_eq_true_eq, beq_iff_eq, and_assoc]

end Sys2Proof.Machine
end

section
/-! The end of a frame on a lane: the receiver's runs, the lock, the merge and the acceptance (R143, R146 to R152). -/

namespace Sys2Proof.Machine

/-! ## A frame's source brings nothing to the receive queue -/

theorem rejoinTicket_keeps (k : Nat) (s : State) (t : Ticket) : KeepsOuter s (rejoinTicket k s t) := by
  unfold rejoinTicket
  split
  · split
    · exact .refl s
    · split
      · exact (modTicket_keeps _ _ _).trans ((moveLines_keeps _ _ _ _ _).trans (pruneTicket_keeps _ _))
      · exact (endTicket_keeps _ _ _).trans (post_keeps _ _)
  · exact .refl s

theorem routerRejoined_keeps (k : Nat) (s : State) : KeepsOuter s (routerRejoined k s) :=
  (KeepsOuter.foldl (rejoinTicket_keeps k) _ s).trans (router_keeps _ _)

theorem reportRejoin_rx (k : Nat) (s : State) : (reportRejoin k s).rx = s.rx := by
  have horphan : ∀ u, (orphanTickets k u).rx = u.rx := fun u => by
    unfold orphanTickets
    dsimp only
    split <;> rfl
  have hclaims : ∀ u, (claimsRejoined k u).rx = u.rx := fun u => by
    unfold claimsRejoined
    obtain ⟨p, hp⟩ := postAll_spec (s := { u with claims := u.claims.filter (·.home != k) })
      ((u.claims.filter (·.home == k)).map fun e => .claimLost e.home e.tab e.share)
    rw [hp]
  rw [reportRejoin, dropStock_rx, horphan, (routerRejoined_keeps k _).rx, hclaims, releaseClaimant_rx]

theorem newPeer_rx (k : Nat) (s : State) : (newPeer k s).rx = s.rx := by
  have henter : ∀ u, (enterPeer k u).rx = u.rx := fun u => by rw [enterPeer, reportRejoin_rx]
  unfold newPeer
  split
  · exact henter s
  · cases s.dir.lostOrder with
    | cons e rest => simp only [henter, post_rx, reportRejoin_rx]
    | nil =>
      dsimp only
      split
      · rfl
      · rw [post_rx]

theorem refreshPeer_rx (k : Nat) (quiet : Bool) (s : State) : (refreshPeer k quiet s).rx = s.rx := by
  unfold refreshPeer
  split
  · exact newPeer_rx k s
  · split
    · dsimp only
      split <;> rfl
    · rfl

section
variable {s u : State} {lane : Lane} {bits : List Bool} {rc : Reception} {f : Frame}

theorem modRx_modRx (g h : Receiver → Receiver) (s : State) : modRx lane g (modRx lane h s) = modRx lane (fun x => g (h x)) s := by
  cases lane <;> rfl

/-! ## A frame as the receiver takes it (R146, R147) -/

/-- A receiver after a malformed frame. -/
def Receiver.brokenOff (r : Receiver) : Receiver :=
  { r with goodRun := 0, badRun := r.badRun + 1, errors := if r.state = .locked then min (r.errors + 1) 255 else r.errors }

/-- A receiver after a well-formed frame. -/
def Receiver.read (r : Receiver) : Receiver := { r with goodRun := r.goodRun + 1, badRun := 0 }

theorem takeMalformed_eq (lane : Lane) (u : State) : takeMalformed lane u =
    if movesMade u = true ∧ (u.link.rx lane).state = .locked ∧ 4 ≤ (u.link.rx lane).badRun + 1
      then moveLane lane .hunt (modRx lane Receiver.brokenOff u) else modRx lane Receiver.brokenOff u := rfl

theorem movesMade_iff : movesMade u = true ↔ u.station.state ≠ .loopback := by simp only [movesMade, bne_iff_ne, ne_eq]

theorem takeWellFormed_hunts (hs : (u.link.rx lane).state = .hunt) (hn : (u.link.rx lane).goodRun + 1 < u.cfg.lockCount) :
    takeWellFormed lane rc u = seeTag lane (some rc.tag) (modRx lane Receiver.read u) := by
  have hmove : ¬(movesMade u = true ∧ (u.link.rx lane).state = .hunt ∧ u.cfg.lockCount ≤ (u.link.rx lane).goodRun + 1) :=
    fun h => Nat.not_le.2 hn h.2.2
  unfold takeWellFormed
  simp only [if_neg hmove]
  simp only [hs, reduceCtorEq, false_and, if_false]
  rfl

theorem takeWellFormed_locks (hm : u.station.state ≠ .loopback) (hs : (u.link.rx lane).state = .hunt)
    (hn : u.cfg.lockCount ≤ (u.link.rx lane).goodRun + 1) :
    takeWellFormed lane rc u = seeTag lane (some rc.tag) (moveLane lane .locked (modRx lane Receiver.read u)) := by
  have hmove : movesMade u = true ∧ (u.link.rx lane).state = .hunt ∧ u.cfg.lockCount ≤ (u.link.rx lane).goodRun + 1 :=
    ⟨movesMade_iff.2 hm, hs, hn⟩
  unfold takeWellFormed
  simp only [if_pos hmove]
  simp only [hs, reduceCtorEq, false_and, if_false]
  rfl

theorem takeWellFormed_locked (hs : (u.link.rx lane).state = .locked) :
    takeWellFormed lane rc u =
      if (seeTag lane (some rc.tag) (modRx lane Receiver.read u)).link.miswired lane = false
        then merge lane rc (seeTag lane (some rc.tag) (modRx lane Receiver.read u))
        else seeTag lane (some rc.tag) (modRx lane Receiver.read u) := by
  have hmove : ¬(movesMade u = true ∧ (u.link.rx lane).state = .hunt ∧ u.cfg.lockCount ≤ (u.link.rx lane).goodRun + 1) := by
    simp [hs]
  unfold takeWellFormed
  simp only [if_neg hmove]
  simp only [hs, true_and]
  rfl

theorem frameAt_deaf (h : (u.link.rx lane).state = .down ∨ (u.link.rx lane).state = .stuck) : frameAt lane bits u = u := by
  rcases h with h | h <;> simp only [frameAt, h]

theorem frameAt_malformed (h : (u.link.rx lane).state = .hunt ∨ (u.link.rx lane).state = .locked) (hb : receive bits = none) :
    frameAt lane bits u = takeMalformed lane u := by
  rcases h with h | h <;> simp only [frameAt, h, hb]

theorem frameAt_read (h : (u.link.rx lane).state = .hunt ∨ (u.link.rx lane).state = .locked) (hb : receive bits = some rc) :
    frameAt lane bits u = takeWellFormed lane rc u := by
  rcases h with h | h <;> simp only [frameAt, h, hb]

/-! ## Acceptance (R151, R152) -/

theorem acceptFrame_deaf (h : u.station.state = .offline ∨ u.station.state = .configured ∨ u.station.state = .duplicate) :
    acceptFrame f u = u := by
  rcases h with h | h | h <;> simp only [acceptFrame, h]

theorem acceptFrame_heard (h : u.station.state = .joining ∨ inService u = true) :
    acceptFrame f u =
      if f.source = own u then enterDuplicate u
      else if addressedHere u f && keptByState u f then enqueueRx f (refreshSource f u) else refreshSource f u := by
  rw [inService_iff] at h
  rcases h with h | h | h <;> simp only [acceptFrame, h]

theorem addressedHere_iff : addressedHere u f = true ↔ f.dest % 128 = own u ∨ f.dest % 128 = 127 := by
  simp only [addressedHere, Bool.or_eq_true, beq_iff_eq]
  exact Iff.rfl

theorem keptByState_iff : keptByState u f = true ↔
    (u.station.state = .joining → f.kind = Kind.beacon ∨ f.kind = Kind.stock ∨ f.kind = Kind.period) := by
  simp only [keptByState, Bool.or_eq_true, bne_iff_ne, beq_iff_eq, ne_eq, or_assoc]
  exact Decidable.imp_iff_not_or.symm

theorem bringsRejoin_iff : bringsRejoin u f = true ↔
    f.kind = Kind.beacon ∧ (f.dest % 128 = own u ∨ f.dest % 128 = 127) ∧ deliverable f = true ∧ u.rx.length < 16 ∧
      ∃ b p old, rBeacon.exact f.payload = some b ∧ findPeer u f.source = some p ∧ p.joinAge = some old ∧ b.joinAge ≤ old ∧
        ¬(b.joinAge = 4294967295 ∧ old = 4294967295) ∧ ¬(b.joinAge = 0 ∧ old = 0) := by
  unfold bringsRejoin
  simp only [Bool.and_eq_true, beq_iff_eq, addressedHere_iff, decide_eq_true_eq, and_assoc]
  refine and_congr_right fun _ => and_congr_right fun _ => and_congr_right fun _ => and_congr_right fun _ => ?_
  cases rBeacon.exact f.payload with
  | none => simp
  | some b =>
    cases findPeer u f.source with
    | none => simp
    | some p => simp [ageShowsRejoin_iff, ShowsRejoin]

theorem enqueueRx_room (h : u.rx.length < 16) : enqueueRx f u = { u with rx := (u.rx ++ [f]).dropWhile fun x => !deliverable x } := by
  have h' : u.rx.length < Config.rxCapacity := h
  simp only [enqueueRx, if_pos h', settleRx]

theorem enqueueRx_full (h : 16 ≤ u.rx.length) : enqueueRx f u = { u with link := { u.link with overrun := true } } := by
  have h' : ¬u.rx.length < Config.rxCapacity := Nat.not_lt.2 h
  simp only [enqueueRx, if_neg h']

/-! ## The merge (R150) -/

theorem merge_twin {check : Nat} (h : (u.link.rx lane.other).window = some check) :
    (check = rc.check → merge lane rc u = modRx lane.other (fun x => { x with window := none }) u) ∧
    (check ≠ rc.check → merge lane rc u =
      { modRx lane.other (fun x => { x with window := none }) u with
        link := { (modRx lane.other (fun x => { x with window := none }) u).link with disagree := min (u.link.disagree + 1) 255 } }) := by
  refine ⟨fun hc => ?_, fun hc => ?_⟩
  · simp only [merge, h, if_pos hc]
  · simp only [merge, h, if_neg hc, (modRx_counts _ _).1]

theorem merge_first (h : (u.link.rx lane.other).window = none) :
    merge lane rc u = acceptFrame rc.frame (modRx lane (fun x => { x with window := some rc.check }) u) := by
  simp only [merge, h]

/-- A lane's read frame leaves everything but that lane's receiver and what is posted. -/
theorem counted_spec (tag : Lane) (g : Receiver → Receiver) (s : State) :
    ∃ p, seeTag lane (some tag) (modRx lane g s) =
      { modRx lane (fun x => { g x with tagSeen := some tag }) s with port := p } := by
  unfold seeTag
  dsimp only
  rw [modRx_modRx]
  split
  · exact ⟨_, rfl⟩
  · exact ⟨_, rfl⟩

end

end Sys2Proof.Machine
end

section
/-! A frame's end, row by row (R143, R146 to R152). -/

namespace Sys2Proof.Machine

section
variable {s u : State} {lane : Lane} {bits : List Bool} {f : Frame}

theorem exec_laneFrameEnd (h : s.station.inReset = false) :
    (hearsPeers s = false →
      exec (.laneFrameEnd lane bits) s = .next (afterEvent s (modRx lane (fun x => { x with carrying := false }) s))) ∧
    (hearsPeers s = true →
      exec (.laneFrameEnd lane bits) s =
        .next (afterEvent s (frameAt lane bits (modRx lane (fun x => { x with carrying := false }) s)))) := by
  have hrun : exec (.laneFrameEnd lane bits) s = _ := event_runs (frameEnds lane bits) h
  refine ⟨fun hp => hrun.trans ?_, fun hp => hrun.trans ?_⟩
  · simp [frameEnds, hp]
  · simp [frameEnds, hp]

theorem seeTag_cases (tag : Option Lane) :
    ((modRx lane (fun x => { x with tagSeen := tag }) s).link.tagStatus = s.link.tagStatus →
      seeTag lane tag s = modRx lane (fun x => { x with tagSeen := tag }) s) ∧
    ((modRx lane (fun x => { x with tagSeen := tag }) s).link.tagStatus ≠ s.link.tagStatus →
      seeTag lane tag s = post (.tagStatus (modRx lane (fun x => { x with tagSeen := tag }) s).link.tagStatus)
        (modRx lane (fun x => { x with tagSeen := tag }) s)) :=
  ⟨fun h => if_pos h, fun h => if_neg h⟩

theorem code_injective : Function.Injective Result.code := fun r r' h => by
  calc r = Result.ofNat r.ctorIdx := (Result.ofNat_ctorIdx r).symm
    _ = Result.ofNat r'.ctorIdx := congrArg Result.ofNat h
    _ = r' := Result.ofNat_ctorIdx r'

theorem enterDuplicate_eq (htx : u.tx = s.tx) (hrouter : u.router = s.router) (hstation : u.station = s.station)
    (hbeacon : u.beacon = s.beacon) : enterDuplicate u =
      post (.stationState .duplicate (some (own s)))
        { u with
          tx := { s.tx with slots := [], watched := [] }
          router := { s.router with pause := false }
          rx := []
          station := { s.station with state := .duplicate, joinWindow := none, isolation := none }
          beacon := { s.beacon with interval := none } } := by
  simp only [enterDuplicate, emptyTx, own, htx, hrouter, hstation, hbeacon]

/-- An accepted frame of another station, after its source is refreshed (R151). -/
theorem acceptFrame_other (hin : u.station.state = .joining ∨ inService u = true) (hs : f.source ≠ own u) :
    (¬((f.dest % 128 = own u ∨ f.dest % 128 = 127) ∧
        (u.station.state = .joining → f.kind = Kind.beacon ∨ f.kind = Kind.stock ∨ f.kind = Kind.period)) →
      acceptFrame f u = refreshSource f u) ∧
    (f.dest % 128 = own u ∨ f.dest % 128 = 127 →
      (u.station.state = .joining → f.kind = Kind.beacon ∨ f.kind = Kind.stock ∨ f.kind = Kind.period) →
      acceptFrame f u = enqueueRx f (refreshSource f u)) := by
  rw [acceptFrame_heard hin, if_neg hs, ← addressedHere_iff, ← keptByState_iff]
  refine ⟨fun h => ?_, fun h1 h2 => ?_⟩
  · rw [if_neg (by rwa [Bool.and_eq_true])]
  · rw [if_pos (Bool.and_eq_true_iff.2 ⟨h1, h2⟩)]

theorem refreshSource_rx (f : Frame) (u : State) : (refreshSource f u).rx = u.rx := by
  unfold refreshSource
  split
  · exact refreshPeer_rx _ _ _
  · rfl

end

/-- Settles O56: which frames may be delivered by the layouts, and a frame's end by the receiver's state, the merge and the acceptance. -/
theorem frameEndsAtTheReceiver : Obligations.FrameEndsAtTheReceiver := by
  unfold Obligations.FrameEndsAtTheReceiver
  refine ⟨fun f => ?_, fun tag p => ?_, fun a r hr => ?_, fun a => ⟨answerDataOk_stray, fun hreq hnone => ?_⟩,
    fun lane bits s h hp => (exec_laneFrameEnd h).1 hp, fun lane tag s => seeTag_cases (some tag), fun lane bits s h hp => ?_⟩
  · intro k request cls
    have hcls : kindClass f.kind = cls := by
      simp only [kindClass, cls, k, List.mem_cons, List.not_mem_nil, or_false]
    rw [deliverable_iff, isRequest_iff, hcls]
  · exact ⟨layoutOk_fixed tag p, rfl, spans_add.exact_iff p, spans_split.exact_iff p, spans_offer.exact_iff p,
      spans_ticketVoid.exact_iff p, spans_ticketState.exact_iff p, layoutOk_answer tag p⟩
  · intro ok shown
    refine ⟨fun row hrow hk hrr => answerDataOk_shown hrow hk (hr.trans (congrArg _ hrr)), fun hok => ?_, fun hreq hsh hlaid => ?_⟩
    · have hr' : a.result = Result.OK.code := hr.trans (congrArg _ hok)
      refine ⟨fun hk => answerDataOk_test hk hr', fun hk => ?_, fun hk => ?_, fun hk => ?_, fun hk => ?_⟩
      · exact (Bool.eq_iff_iff.1 (answerDataOk_summary hk hr')).trans (spans_summary.exact_iff _)
      · exact (Bool.eq_iff_iff.1 (answerDataOk_strike hk hr')).trans (spans_strike.exact_iff _)
      · exact (Bool.eq_iff_iff.1 (answerDataOk_voids hk hr')).trans (spans_voidResults.exact_iff _)
      · exact (Bool.eq_iff_iff.1 (answerDataOk_view hk hr')).trans (spans_queryAnswer.exact_iff _)
    · have hinj : ∀ r', a.result = Result.code r' → r = r' := fun r' he => code_injective (hr.symm.trans he)
      exact answerDataOk_bare hreq (fun row hrow hc => hsh row hrow ⟨hc.1, hinj _ hc.2⟩) fun hc => hlaid ⟨hinj _ hc.1, hc.2⟩
  · exact answerDataOk_bare hreq (fun row _ hc => hnone _ hc.2) fun hc => hnone _ hc.1
  · intro r heard good bad row
    have hrun : row = .next (afterEvent s (frameAt lane bits heard)) := (exec_laneFrameEnd h).2 hp
    have hreceiver : heard.link.rx lane = { r with carrying := false } := modRx_rx_same _ _ _
    have hstate : (heard.link.rx lane).state = r.state := by rw [hreceiver]
    have hgood : (heard.link.rx lane).goodRun = r.goodRun := by rw [hreceiver]
    have hbad : (heard.link.rx lane).badRun = r.badRun := by rw [hreceiver]
    have hcable : s.station.state ≠ .loopback := (hearsPeers_iff.1 hp).1
    have hbroken : modRx lane Receiver.brokenOff heard = modRx lane bad s := modRx_modRx _ _ s
    have hread : modRx lane Receiver.read heard = modRx lane good s := modRx_modRx _ _ s
    have hlistens : r.state = .hunt ∨ r.state = .locked → (heard.link.rx lane).state = .hunt ∨ (heard.link.rx lane).state = .locked :=
      fun hst => by rwa [hstate]
    refine ⟨fun hst => ?_, fun hb hst => ?_, fun hb hst h3 => ?_, fun rc hb => ?_⟩
    · rw [hrun, frameAt_deaf (by rwa [hstate])]
    · have hfew : ¬(movesMade heard = true ∧ (heard.link.rx lane).state = .locked ∧ 4 ≤ (heard.link.rx lane).badRun + 1) := by
        rw [hstate, hbad]
        rintro ⟨-, hl, h4⟩
        rcases hst with hst | ⟨-, hlt⟩
        · exact RxState.noConfusion (hst.symm.trans hl)
        · omega
      rw [hrun, frameAt_malformed (hlistens (hst.imp_right And.left)) hb, takeMalformed_eq, if_neg hfew, hbroken]
    · have hall : movesMade heard = true ∧ (heard.link.rx lane).state = .locked ∧ 4 ≤ (heard.link.rx lane).badRun + 1 := by
        rw [hstate, hbad]
        exact ⟨movesMade_iff.2 hcable, hst, by omega⟩
      rw [hrun, frameAt_malformed (hlistens (.inr hst)) hb, takeMalformed_eq, if_pos hall, hbroken]
    · intro counted
      have hlock : r.state = .locked → frameAt lane bits heard =
          if counted.link.miswired lane = false then merge lane rc counted else counted := fun hst => by
        rw [frameAt_read (hlistens (.inr hst)) hb, takeWellFormed_locked (hstate.trans hst), hread]
      refine ⟨fun hst hn => ?_, fun hst hn => ?_, fun hst hm => ?_, fun hst hm => ?_⟩
      · rw [hrun, frameAt_read (hlistens (.inl hst)) hb, takeWellFormed_hunts (hstate.trans hst) (by rw [hgood]; exact hn), hread]
      · rw [hrun, frameAt_read (hlistens (.inl hst)) hb,
          takeWellFormed_locks (u := heard) hcable (hstate.trans hst) (by rw [hgood]; exact hn), hread]
      · rw [hrun, hlock hst, hm]
        rfl
      · intro opened
        rw [hrun, hlock hst, if_pos hm]
        have hwindow : counted.link.rx lane.other = s.link.rx lane.other := by
          rw [show counted.link = _ from seeTag_modRx _ _, modRx_rx_other, modRx_rx_other]
        have hdis : counted.link.disagree = s.link.disagree := by simp [counted, modRx]
        have hstation : opened.station = s.station := by simp [opened, counted]
        have hown : own opened = own s := congrArg Station.number hstation
        have hrx : opened.rx = s.rx := by simp [opened, counted]
        have hdir : opened.dir = s.dir := by simp [opened, counted]
        refine ⟨fun check hw => ?_, fun hw => ?_⟩
        · obtain ⟨hsame, hdiffers⟩ := merge_twin (rc := rc) (hwindow ▸ hw)
          refine ⟨fun hc => by rw [hsame hc], fun hc => ?_⟩
          rw [hdiffers hc, hdis]
        · rw [merge_first (hwindow ▸ hw)]
          refine ⟨fun hd => ?_, fun hin hs => ?_, fun hin hs => ?_⟩
          · rw [acceptFrame_deaf (by rwa [hstation])]
          · have hin' : opened.station.state = .joining ∨ inService opened = true := by
              rwa [inService, hstation]
            rw [acceptFrame_heard hin', if_pos (hs.trans hown.symm), enterDuplicate_eq (s := s)]
            · simp [opened, counted]
            · simp [opened, counted]
            · exact hstation
            · simp [opened, counted]
          · intro f here kept restart quiet refreshed hquiet hrefreshed
            have hin' : opened.station.state = .joining ∨ inService opened = true := by
              rwa [inService, hstation]
            obtain ⟨hpass, htake⟩ := acceptFrame_other (f := f) hin' (hown.symm ▸ hs)
            rw [hown, hstation] at hpass htake
            have hrestart : bringsRejoin opened f = quiet := by
              rw [Bool.eq_iff_iff, hquiet, bringsRejoin_iff, hown, hrx, findPeer, hdir]
              rfl
            have hsource : refreshSource f opened = refreshed := by
              rw [refreshSource, hrestart]
              rcases hrefreshed with ⟨hst', rfl⟩ | ⟨hst', rfl⟩
              · rw [if_pos hst']
              · rw [hst']
                rfl
            have hkept : refreshed.rx = s.rx := by rw [← hsource, refreshSource_rx, hrx]
            refine ⟨fun hout => ?_, fun hh hk hfull => ?_, fun hh hk hroom => ?_⟩
            · rw [hpass hout, hsource]
            · rw [htake hh hk, hsource, enqueueRx_full (hkept ▸ hfull)]
            · rw [htake hh hk, hsource, enqueueRx_room (hkept ▸ hroom), hkept]

end Sys2Proof.Machine
end

section
/-! The transmitter's rows, on the cable and in LOOPBACK (R137, R153, R155 to R159). -/

namespace Sys2Proof.Machine

/-! ## The lanes watched and the frame chosen (R153, R155) -/

theorem filter_lanes (p : Lane → Bool) :
    [Lane.A, Lane.B].filter p = (if p .A then [Lane.A] else []) ++ (if p .B then [Lane.B] else []) := by
  cases ha : p .A <;> cases hb : p .B <;> simp [ha, hb]

theorem foldl_min_eq {m : Nat} : ∀ (l : List Nat) (b : Nat), (∀ y ∈ l, m ≤ y) → m ≤ b → m = b ∨ m ∈ l → l.foldl min b = m
  | [], b, _, _, h => (h.resolve_right (List.not_mem_nil)).symm
  | y :: l, b, hl, hb, h => by
    have hy : m ≤ y := hl y List.mem_cons_self
    refine foldl_min_eq l (min b y) (fun z hz => hl z (List.mem_cons_of_mem _ hz)) (Nat.le_min.2 ⟨hb, hy⟩) ?_
    rcases h with rfl | h
    · exact .inl (Nat.min_eq_left hy).symm
    · rcases List.mem_cons.1 h with rfl | h
      · exact .inl (Nat.min_eq_right hb).symm
      · exact .inr h

/-- The frame to drive: of the lowest class waiting, and the earliest of that class. -/
def FirstToGo (before : List Slot) (x : Slot) (after : List Slot) : Prop :=
  (∀ y ∈ before, kindClass x.frame.kind < kindClass y.frame.kind) ∧ ∀ y ∈ after, kindClass x.frame.kind ≤ kindClass y.frame.kind

section
variable {before after : List Slot} {x : Slot}

theorem lowestClass_first (h : FirstToGo before x after) : lowestClass (before ++ x :: after) = kindClass x.frame.kind := by
  refine foldl_min_eq _ _ (fun c hc => ?_) (Nat.le_of_lt_succ (kindClass_lt _)) (.inr ?_)
  · obtain ⟨y, hy, rfl⟩ := List.mem_map.1 hc
    rcases List.mem_append.1 hy with hy | hy
    · exact Nat.le_of_lt (h.1 y hy)
    · rcases List.mem_cons.1 hy with rfl | hy
      · exact Nat.le_refl _
      · exact h.2 y hy
  · exact List.mem_map_of_mem (List.mem_append_right _ List.mem_cons_self)

theorem beginFirst_first {c : Nat} (hx : kindClass x.frame.kind = c) : ∀ (before : List Slot), (∀ y ∈ before, kindClass y.frame.kind ≠ c) →
    beginFirst c (before ++ x :: after) = before ++ { x with begun := true, onWire := true } :: after
  | [], _ => by simp only [List.nil_append, beginFirst, if_pos hx]
  | y :: before, h => by
    simp only [List.cons_append, beginFirst, if_neg (h y List.mem_cons_self),
      beginFirst_first hx before fun z hz => h z (List.mem_cons_of_mem _ hz)]

theorem filter_unsent (hx : x.onWire = true) (h : ∀ y ∈ before ++ after, y.onWire = false) :
    (before ++ x :: after).filter (fun y => !y.onWire) = before ++ after := by
  have hkeep : ∀ l : List Slot, (∀ y ∈ l, y.onWire = false) → l.filter (fun y => !y.onWire) = l := fun l hl =>
    List.filter_eq_self.2 fun y hy => by simp [hl y hy]
  rw [List.filter_append, List.filter_cons_of_neg (by simp [hx]), hkeep _ fun y hy => h y (List.mem_append_left _ hy),
    hkeep _ fun y hy => h y (List.mem_append_right _ hy)]

end

section
variable {s u : State} {before after : List Slot} {x : Slot}

/-! ## A frame begins (R155) -/

theorem readyToSend_iff : readyToSend s = true ↔
    (s.station.state = .online ∨ s.station.state = .loopback) ∧ s.tx.slots ≠ [] ∧ (∀ y ∈ s.tx.slots, y.onWire = false) ∧
      watchedLanes s ≠ [] ∧ (s.station.state = .online → ∀ l ∈ watchedLanes s, (s.link.rx l).carrying = false) := by
  simp only [readyToSend, Bool.and_eq_true, Bool.or_eq_true, beq_iff_eq, Bool.not_eq_true', List.isEmpty_eq_false_iff, ne_eq,
    driving_eq_false, Bool.and_eq_false_iff, beq_eq_false_iff_ne, List.any_eq_false, Bool.not_eq_true, and_assoc, Decidable.imp_iff_not_or]

theorem exec_transmitStart_waits (h : s.station.inReset = false) (hr : ¬readyToSend s = true) :
    exec .transmitStart s = .next (afterEvent s s) :=
  (event_runs startSending h).trans (by simp only [startSending, if_neg hr])

theorem exec_transmitStart_begins (h : s.station.inReset = false) (hr : readyToSend s = true) (hl : s.tx.slots = before ++ x :: after)
    (hf : FirstToGo before x after) :
    exec .transmitStart s = .next (afterEvent s
      { s with tx := { s.tx with slots := before ++ { x with begun := true, onWire := true } :: after, watched := watchedLanes s } }) := by
  have hbegin : beginFirst (kindClass x.frame.kind) (before ++ x :: after) =
      before ++ { x with begun := true, onWire := true } :: after := beginFirst_first rfl before fun y hy he => Nat.ne_of_gt (hf.1 y hy) he
  refine (event_runs startSending h).trans ?_
  simp only [startSending, hr, if_true, hl, lowestClass_first hf, hbegin]

/-! ## Loss, fault and completion on the cable (R157 to R159) -/

theorem exec_arbitrationLost (h : s.station.inReset = false) :
    (s.station.state = .loopback → exec .arbitrationLost s = .next (afterEvent s s)) ∧
    (s.station.state ≠ .loopback → x.onWire = true → s.tx.slots = before ++ x :: after → (∀ y ∈ before ++ after, y.onWire = false) →
      exec .arbitrationLost s = .next (afterEvent s
        { s with tx := { s.tx with slots := before ++ { x with age := min (x.age + 1) 7, onWire := false } :: after, watched := [] } })) := by
  have hrun : exec .arbitrationLost s = _ := event_runs loseArbitration h
  refine ⟨fun hl => hrun.trans ?_, fun hl hx hs hr => hrun.trans ?_⟩
  · simp [loseArbitration, onCable_loopback hl]
  · have hdrive : driving s = true := by
      rw [driving, hs]
      simp [hx]
    simp only [loseArbitration, if_pos (onCable_iff.2 hl), hdrive, if_true, hs, mapIf_one _ hx hr]

theorem sending_split (hx : x.onWire = true) (hs : s.tx.slots = before ++ x :: after) (hr : ∀ y ∈ before ++ after, y.onWire = false) :
    sending s = some x :=
  find_first hs hx fun y hy => hr y (List.mem_append_left _ hy)

/-- The queue without the frame sent or given up, nothing watched and the router's pause ended. -/
theorem freeSlot_eq (hx : x.onWire = true) (hs : s.tx.slots = before ++ x :: after) (hr : ∀ y ∈ before ++ after, y.onWire = false) :
    freeSlot s = { s with
      tx := { s.tx with slots := before ++ after, watched := [] }
      router := { s.router with pause := false } } := by
  simp only [freeSlot, hs, filter_unsent hx hr]

theorem faultSlot_eq (hx : x.onWire = true) (hs : s.tx.slots = before ++ x :: after) (hr : ∀ y ∈ before ++ after, y.onWire = false) :
    (x.faults < 3 → faultSlot x s =
      { s with tx := { s.tx with slots := before ++ { x with faults := x.faults + 1, onWire := false } :: after, watched := [] } }) ∧
    (3 ≤ x.faults → faultSlot x s = post (.txFaultDiscard x.frame.kind x.frame.dest)
      { s with
        tx := { s.tx with slots := before ++ after, watched := [] }
        router := { s.router with pause := false } }) := by
  refine ⟨fun h3 => ?_, fun h3 => ?_⟩
  · simp only [faultSlot, if_neg (Nat.not_le.2 h3), hs, mapIf_one _ hx hr]
  · simp only [faultSlot, if_pos h3, freeSlot_eq hx hs hr]

theorem noteBeacon_eq (x : Slot) (u : State) :
    noteBeacon x u = { u with beacon := { u.beacon with sent := u.beacon.sent || x.frame.kind == Kind.beacon } } := by
  unfold noteBeacon
  split
  · rename_i hk
    simp [hk]
  · rename_i hk
    have hother : (x.frame.kind == Kind.beacon) = false := beq_eq_false_iff_ne.2 hk
    rw [hother, Bool.or_false]

theorem exec_transmitFault (h : s.station.inReset = false) (hs : sending s = some x) :
    exec .transmitFault s = .next (afterEvent s (loopBroken (faultSlot x s))) := by
  refine (event_runs takeFault h).trans ?_
  simp only [takeFault, hs]

theorem exec_transmitComplete (h : s.station.inReset = false) (hs : sending s = some x) :
    exec .transmitComplete s = .next (afterEvent s (loopFrame x (noteBeacon x (freeSlot s)))) := by
  refine (event_runs completeSending h).trans ?_
  simp only [completeSending, hs]

/-! ## LOOPBACK (R137) -/

theorem loopBroken_cable (h : u.station.state ≠ .loopback) : loopBroken u = u := if_neg h

theorem loopFrame_cable (h : u.station.state ≠ .loopback) : loopFrame x u = u := if_neg h

theorem loopBroken_loopback (h : u.station.state = .loopback) :
    loopBroken u = modRx .B Receiver.brokenOff (modRx .A Receiver.brokenOff u) := by
  have held : ∀ (lane : Lane) (v : State), v.station.state = .loopback → takeMalformed lane v = modRx lane Receiver.brokenOff v :=
    fun lane v hv => by
      rw [takeMalformed_eq, if_neg fun hc => movesMade_iff.1 hc.1 hv]
  rw [loopBroken, if_pos h, held .A u h, held .B (modRx .A Receiver.brokenOff u) h]

/-- A receiver that has read a frame with a lane's tag. -/
def Receiver.readTag (lane : Lane) (r : Receiver) : Receiver := { r with goodRun := r.goodRun + 1, badRun := 0, tagSeen := some lane }

theorem tagStatus_clear {l : Link} (ha : l.a.tagSeen = none ∨ l.a.tagSeen = some .A) (hb : l.b.tagSeen = none ∨ l.b.tagSeen = some .B) :
    l.tagStatus = .clear := by
  unfold Link.tagStatus
  rcases ha with ha | ha <;> rcases hb with hb | hb <;> rw [ha, hb] <;> rfl

/-- Neither receiver has seen the other lane's tag. -/
def TagsInPlace (l : Link) : Prop :=
  (l.a.tagSeen = none ∨ l.a.tagSeen = some .A) ∧ (l.b.tagSeen = none ∨ l.b.tagSeen = some .B)

theorem tagsInPlace_readTag {lane : Lane} (h : TagsInPlace u.link) : TagsInPlace (modRx lane (Receiver.readTag lane) u).link := by
  cases lane with
  | A => exact ⟨.inr rfl, h.2⟩
  | B => exact ⟨h.1, .inr rfl⟩

/-- A frame read at a LOCKED receiver with its own tag goes to the merge, and no tag status changes. -/
theorem frameAt_looped {lane : Lane} {bits : List Bool} {f : Frame} {check : Nat} (hb : receive bits = some ⟨lane, f, check⟩)
    (hl : (u.link.rx lane).state = .locked) (ht : TagsInPlace u.link) :
    frameAt lane bits u = merge lane ⟨lane, f, check⟩ (modRx lane (Receiver.readTag lane) u) := by
  have hseen : seeTag lane (some lane) (modRx lane Receiver.read u) = modRx lane (Receiver.readTag lane) u := by
    have hmod : modRx lane (fun x => { x with tagSeen := some lane }) (modRx lane Receiver.read u) = modRx lane (Receiver.readTag lane) u :=
      modRx_modRx _ _ u
    have hbefore : (modRx lane Receiver.read u).link.tagStatus = .clear := by
      cases lane with
      | A => exact tagStatus_clear ht.1 ht.2
      | B => exact tagStatus_clear ht.1 ht.2
    have hafter := tagsInPlace_readTag (lane := lane) ht
    rw [(seeTag_cases _).1, hmod]
    rw [hmod, hbefore, tagStatus_clear hafter.1 hafter.2]
  have hwired : (modRx lane (Receiver.readTag lane) u).link.miswired lane = false := by
    have hclear := tagStatus_clear (tagsInPlace_readTag (lane := lane) ht).1 (tagsInPlace_readTag (lane := lane) ht).2
    cases lane with
    | A =>
      simp only [Link.miswired, hclear]
      rfl
    | B =>
      simp only [Link.miswired, hclear]
      rfl
  rw [frameAt_read (.inr hl) hb, takeWellFormed_locked hl, hseen, if_pos hwired]

theorem acceptFrame_looped {f : Frame} (h : u.station.state = .loopback) :
    acceptFrame f u = if addressedHere u f then enqueueRx f u else u := by simp only [acceptFrame, h]

/-- The frame as both receivers read it. -/
def Slot.looped (x : Slot) (source : Nat) : Frame :=
  ⟨kindClass x.frame.kind, x.age, source, x.frame.kind, x.frame.dest, x.frame.tag, x.frame.payload⟩

/-- Each lane's receiver has read the frame with its own tag. -/
def readBoth (u : State) : State :=
  { u with link := { u.link with a := u.link.a.readTag .A, b := u.link.b.readTag .B } }

/-- What the wire can carry of a slot's frame (chapter Formats). -/
structure Slot.Fits (x : Slot) : Prop where
  age : x.age < 8
  kind : x.frame.kind < 256
  dest : x.frame.dest < 256
  tag : x.frame.tag < 256
  payload : x.frame.payload.length ≤ 200

theorem receive_looped (hx : x.Fits) {source : Nat} (hs : source < 128) (lane : Lane) :
    receive (wireBits lane source x.age x.frame) = some ⟨lane, x.looped source, crc16 (bodyBits x.frame)⟩ :=
  framesReadBack lane source x.age x.frame hs hx.age hx.kind hx.dest hx.tag hx.payload

/-- Both receivers LOCKED, no twin window open and no tag out of place. -/
structure LoopReady (l : Link) : Prop where
  stateA : l.a.state = .locked
  stateB : l.b.state = .locked
  windowA : l.a.window = none
  windowB : l.b.window = none
  tags : TagsInPlace l

/-- Lane A has read the frame and waits for its twin. -/
def readFirst (check : Nat) (u : State) : State := modRx .A (fun r => { r.readTag .A with window := some check }) u

/-- Lane A's copy opens the window that lane B's copy closes: the frame is received once. -/
theorem loopFrame_received (h : u.station.state = .loopback) (hx : x.Fits) (hs : own u < 128) (hl : LoopReady u.link) :
    loopFrame x u = if addressedHere u (x.looped (own u)) then enqueueRx (x.looped (own u)) (readBoth u) else readBoth u := by
  have hopened : frameAt .A (wireBits .A (own u) x.age x.frame) u =
      acceptFrame (x.looped (own u)) (readFirst (crc16 (bodyBits x.frame)) u) := by
    have hwindow : ((modRx .A (Receiver.readTag .A) u).link.rx (Lane.other .A)).window = none := hl.windowB
    rw [frameAt_looped (receive_looped hx hs .A) hl.stateA hl.tags, merge_first hwindow, modRx_modRx]
    rfl
  have hclosed : ∀ v : State, v.link.a = { u.link.a.readTag .A with window := some (crc16 (bodyBits x.frame)) } →
      v.link.b = u.link.b →
      frameAt .B (wireBits .B (own u) x.age x.frame) v =
        { v with link := { v.link with a := u.link.a.readTag .A, b := u.link.b.readTag .B } } := fun v ha hb => by
    have htags : TagsInPlace v.link := ⟨by rw [ha]; exact .inr rfl, by rw [hb]; exact hl.tags.2⟩
    have hlocked : (v.link.rx .B).state = .locked := by
      show v.link.b.state = _
      rw [hb]
      exact hl.stateB
    have hwindow : ((modRx .B (Receiver.readTag .B) v).link.rx (Lane.other .B)).window = some (crc16 (bodyBits x.frame)) := by
      show v.link.a.window = _
      rw [ha]
    have hrestored : ({ u.link.a.readTag .A with window := none } : Receiver) = u.link.a.readTag .A := by
      simp only [Receiver.readTag, hl.windowA]
    rw [frameAt_looped (receive_looped hx hs .B) hlocked htags, (merge_twin hwindow).1 rfl]
    show ({ v with link := { v.link with a := { v.link.a with window := none }, b := v.link.b.readTag .B } } : State) = _
    rw [ha, hb, ← hrestored]
  rw [loopFrame, if_pos h, hopened]
  have hhere : addressedHere (readFirst (crc16 (bodyBits x.frame)) u) (x.looped (own u)) = addressedHere u (x.looped (own u)) := rfl
  rw [acceptFrame_looped (u := readFirst _ u) h, hhere]
  cases addressedHere u (x.looped (own u)) with
  | false => exact hclosed (readFirst _ u) rfl rfl
  | true =>
    simp only [if_true]
    by_cases hroom : u.rx.length < 16
    · rw [enqueueRx_room (u := readFirst _ u) hroom, enqueueRx_room (u := readBoth u) hroom]
      exact hclosed _ rfl rfl
    · have hfull := Nat.not_lt.1 hroom
      rw [enqueueRx_full (u := readFirst _ u) hfull, enqueueRx_full (u := readBoth u) hfull]
      exact hclosed _ rfl rfl

end

end Sys2Proof.Machine
end

section
/-! What a block in LOOPBACK makes of a delivered frame, and the transmitter's rows together (R137). -/

namespace Sys2Proof.Machine

section
variable {s : State} {f : Frame} {rest : List Frame}

/-! ## Frames discarded out of service (log entry 34) -/

theorem deliver_discards {kind : Nat} {block : Frame → State → State} (h : frameReady kind f rest s = true)
    (hb : block f (popped rest s) = popped rest s) : event (deliver kind block) s = .next (afterFrame s (popped rest s)) := by
  rw [deliver_runs _ h, hb]

theorem request_discards {α : Type} {kind : Nat} {role : Role} {r : Reader α} {subject share : α → Nat}
    {block : Frame → α → Answering → State → State} (h : frameReady kind f rest s = true) (hs : inService s = false) :
    event (request kind r role subject share block) s = .next (afterFrame s (popped rest s)) := by
  have hs' : inService (popped rest s) = false := hs
  refine deliver_discards h ?_
  cases r.exact f.payload with
  | none => rfl
  | some x => simp only [serve, hs', Bool.not_false, if_true]

variable (hl : s.station.state = .loopback)

include hl

theorem inService_loopback : inService s = false := by simp [inService, hl]

theorem listening_loopback : listening s = false := by simp [listening, inService, hl]

theorem exec_beaconFrame_loopback (h : frameReady Kind.beacon f rest s = true) :
    exec .beaconFrame s = .next (afterFrame s (popped rest s)) := by
  have hs : listening (popped rest s) = false := listening_loopback hl
  refine deliver_discards h ?_
  cases rBeacon.exact f.payload <;> simp [hs]

theorem exec_periodFrame_loopback (h : frameReady Kind.period f rest s = true) :
    exec .periodFrame s = .next (afterFrame s (popped rest s)) := by
  have hs : listening (popped rest s) = false := listening_loopback hl
  refine deliver_discards h ?_
  cases Reader.n1.exact f.payload <;> simp [hs]

theorem exec_stockFrame_loopback (h : frameReady Kind.stock f rest s = true) :
    exec .stockFrame s = .next (afterFrame s (popped rest s)) := by
  have hs : listening (popped rest s) = false := listening_loopback hl
  refine deliver_discards h ?_
  cases rStock.exact f.payload with
  | none => rfl
  | some b =>
    dsimp only
    cases stockCode b.state <;> simp [hs]

theorem exec_claimEndFrame_loopback (h : frameReady Kind.claimEnd f rest s = true) :
    exec .claimEndFrame s = .next (afterFrame s (popped rest s)) := by
  have hs : inService (popped rest s) = false := inService_loopback hl
  refine deliver_discards h ?_
  cases rTabShareByte.exact f.payload with
  | none => rfl
  | some x =>
    dsimp only
    cases endReason x.2.2 <;> simp [hs]

theorem exec_ticketStateFrame_loopback (h : frameReady Kind.ticketState f rest s = true) :
    exec .ticketStateFrame s = .next (afterFrame s (popped rest s)) := by
  have hs : inService (popped rest s) = false := inService_loopback hl
  refine deliver_discards h ?_
  simp only [hs, Bool.false_and, Bool.false_eq_true, if_false]
  split <;> rfl

end

/-- Settles O57: the start by what it waits for, the other rows by the frame on the wire, and in LOOPBACK the receivers' part. -/
theorem transmitterWorksTheQueue : Obligations.TransmitterWorksTheQueue := by
  unfold Obligations.TransmitterWorksTheQueue
  refine ⟨fun s => ?_, fun s h hnone => ?_, fun before x after s h hsl hrest => ?_, ?_⟩
  · intro a b waking taken
    have hlocked : anyLocked s = true ↔ a = .locked ∨ b = .locked := by
      simp only [anyLocked, Bool.or_eq_true, beq_iff_eq]
      exact Iff.rfl
    have hwaking : ∀ st : RxState, (st == .down || st == .hunt) = decide (waking st) := fun st => by
      rw [Bool.eq_iff_iff, Bool.or_eq_true, beq_iff_eq, beq_iff_eq, decide_eq_true_eq]
    refine ⟨fun hl => ?_, fun hl hk => ?_, fun hl ha hb => ?_⟩
    · simp only [watchedLanes, if_pos hl]
    · rw [watchedLanes, if_neg hl, if_pos (hlocked.2 hk), filter_lanes]
      rfl
    · rw [watchedLanes, if_neg hl, if_neg fun hc => (hlocked.1 hc).elim ha hb, filter_lanes]
      simp only [hwaking]
      rfl
  · refine exec_transmitStart_waits h fun hr => ?_
    obtain ⟨hst, hslots, hidle, hwatch, hfree⟩ := readyToSend_iff.1 hr
    rcases hnone with ⟨h1, h2⟩ | h0 | ⟨x, hx, hwire⟩ | h0 | ⟨ho, l, hl, hc⟩
    · exact hst.elim h1 h2
    · exact hslots h0
    · exact Bool.noConfusion (hwire.symm.trans (hidle x hx))
    · exact hwatch h0
    · exact Bool.noConfusion (hc.symm.trans (hfree ho l hl))
  · intro slots first begins faulted discarded sent
    have hidle : x.onWire = false → ∀ y ∈ s.tx.slots, y.onWire = false := fun hx y hy => by
      rw [hsl] at hy
      rcases List.mem_append.1 hy with hy | hy
      · exact hrest y (List.mem_append_left _ hy)
      · rcases List.mem_cons.1 hy with rfl | hy
        · exact hx
        · exact hrest y (List.mem_append_right _ hy)
    have hwaiting : s.tx.slots ≠ [] := by simp [hsl]
    have hsent : x.onWire = true → noteBeacon x (freeSlot s) = sent := fun hx => by
      rw [freeSlot_eq hx hsl hrest, noteBeacon_eq]
    refine ⟨fun hx ho hf hw hc => ?_, fun hx hl => ⟨?_, fun h3 => ?_, fun h3 => ?_, ?_⟩, fun hl => ⟨fun hx hf => ?_, ?_, fun hx => ?_, ?_⟩⟩
    · exact exec_transmitStart_begins h (readyToSend_iff.2 ⟨.inl ho, hwaiting, hidle hx, hw, fun _ => hc⟩) hsl hf
    · exact (exec_arbitrationLost h).2 hl hx hsl hrest
    · rw [exec_transmitFault h (sending_split hx hsl hrest), (faultSlot_eq hx hsl hrest).1 h3]
      exact congrArg (fun u => Host.Outcome.next (afterEvent s u)) (loopBroken_cable (u := faulted) hl)
    · rw [exec_transmitFault h (sending_split hx hsl hrest), (faultSlot_eq hx hsl hrest).2 h3]
      exact congrArg (fun u => Host.Outcome.next (afterEvent s u)) (loopBroken_cable (u := discarded) hl)
    · rw [exec_transmitComplete h (sending_split hx hsl hrest), hsent hx]
      exact congrArg (fun u => Host.Outcome.next (afterEvent s u)) (loopFrame_cable (u := sent) hl)
    · have hw : watchedLanes s = [.A, .B] := by simp only [watchedLanes, if_pos hl]
      have hready : readyToSend s = true := readyToSend_iff.2 ⟨.inr hl, hwaiting, hidle hx, by simp [hw], fun ho => by simp [hl] at ho⟩
      rw [exec_transmitStart_begins h hready hsl hf, hw]
    · exact (exec_arbitrationLost (x := x) (before := before) (after := after) h).1 hl
    · intro broken looped
      refine ⟨fun h3 => ?_, fun h3 => ?_⟩
      · rw [exec_transmitFault h (sending_split hx hsl hrest), (faultSlot_eq hx hsl hrest).1 h3]
        exact congrArg (fun u => Host.Outcome.next (afterEvent s u)) (loopBroken_loopback (u := faulted) hl)
      · rw [exec_transmitFault h (sending_split hx hsl hrest), (faultSlot_eq hx hsl hrest).2 h3]
        exact congrArg (fun u => Host.Outcome.next (afterEvent s u)) (loopBroken_loopback (u := discarded) hl)
    · intro hx hown hage hkind hdest htag hlen hla hlb hwa hwb hta htb heard received f here
      have hrun := (exec_transmitComplete h (sending_split hx hsl hrest)).trans
        (congrArg (fun u => Host.Outcome.next (afterEvent s u)) ((congrArg (loopFrame x) (hsent hx)).trans
          (loopFrame_received (u := sent) hl ⟨hage, hkind, hdest, htag, hlen⟩ hown ⟨hla, hlb, hwa, hwb, hta, htb⟩)))
      have hhere : addressedHere sent (x.looped (own sent)) = true ↔ here := addressedHere_iff
      refine ⟨fun hn => ?_, fun hy hroom => ?_, fun hy hfull => ?_⟩
      · rw [hrun, if_neg (mt hhere.1 hn)]
        rfl
      · rw [hrun, if_pos (hhere.2 hy), enqueueRx_room (u := readBoth sent) hroom]
        rfl
      · rw [hrun, if_pos (hhere.2 hy), enqueueRx_full (u := readBoth sent) hfull]
        rfl
  · simp only [List.forall_mem_cons, List.not_mem_nil, false_implies, implies_true, and_true]
    refine ⟨fun f rest s hl h => exec_beaconFrame_loopback hl h, fun f rest s hl h => exec_periodFrame_loopback hl h,
      fun f rest s hl h => exec_stockFrame_loopback hl h, fun f rest s hl h => request_discards h (inService_loopback hl),
      fun f rest s hl h => request_discards h (inService_loopback hl), fun f rest s hl h => request_discards h (inService_loopback hl),
      fun f rest s hl h => request_discards h (inService_loopback hl), fun f rest s hl h => request_discards h (inService_loopback hl),
      fun f rest s hl h => request_discards h (inService_loopback hl), fun f rest s hl h => request_discards h (inService_loopback hl),
      fun f rest s hl h => request_discards h (inService_loopback hl), fun f rest s hl h => exec_claimEndFrame_loopback hl h,
      fun f rest s hl h => request_discards h (inService_loopback hl), fun f rest s hl h => request_discards h (inService_loopback hl),
      fun f rest s hl h => request_discards h (inService_loopback hl), fun f rest s hl h => exec_ticketStateFrame_loopback hl h⟩

end Sys2Proof.Machine
end
